-- ==== Sys2Proof/Word.lean ====
section
/-! DEFINITION. The words of the part: bytes on the ports and in images, and the 32-bit words of a key (R73, R190). -/

namespace Sys2Proof

/-- One byte of a frame, an image or a code. -/
abbrev Byte := BitVec 8

/-- One 32-bit word of a key slot (R73). -/
abbrev Word32 := BitVec 32

end Sys2Proof
end

