-- ==== Sys2Proof/Syntax.lean ====
section
/-! DEFINITION. The commands of the part: one constructor of `Instr` per row of spec/opcode_table.json, and the names
their operands use. The part has no instruction words; a command is a request, an event on a line, the end of a write
attempt, a timer's expiry or a power event. -/

namespace Sys2Proof

/-- The three ports, in the manual's order (R166, R191: 0 M, 1 K, 2 S). -/
inductive Port where
  | m | k | s
  deriving DecidableEq, Repr

/-- The two supervised links (R173). -/
inductive Link where
  | m | k
  deriving DecidableEq, Repr

/-- The two cover switches (R133). -/
inductive Cover where
  | terminal | main
  deriving DecidableEq, Repr

/-- The tamper causes 0 to 12, in the order of R133. -/
inductive TamperCause where
  | terminalCover | mainCover | magnetic | bypass | metrologyDivergence | pulseIntegrity | metrologySilent
  | reverseEnergy | neutralMissing | interfaceLinkLost | codeAttack | retentionLost | storeFault
  deriving DecidableEq, Repr

/-- A set of phases, or the levels of LS1 to LS3 (R38, R109). -/
structure PhaseSet where
  l1 : Bool
  l2 : Bool
  l3 : Bool
  deriving DecidableEq, Repr

/-- The commands. A request carries its port and the payload bytes of its frame (R190); the rest of its operands are in
the payload. -/
inductive Instr where
  /-- ENERGY_REPORT (R38) -/
  | energyReport (p : Port) (payload : List Byte)
  /-- SWITCH_READY (R106) -/
  | switchReady (p : Port) (payload : List Byte)
  /-- SUBMIT_CODE (R76) -/
  | submitCode (p : Port) (payload : List Byte)
  /-- TAKE_EC (R14) -/
  | takeEc (p : Port) (payload : List Byte)
  /-- CONFIRM_RECONNECT (R104) -/
  | confirmReconnect (p : Port) (payload : List Byte)
  /-- READ_DISPLAY (R24) -/
  | readDisplay (p : Port) (payload : List Byte)
  /-- READ_STATE (R177) -/
  | readState (p : Port) (payload : List Byte)
  /-- READ_REGISTERS (R191) -/
  | readRegisters (p : Port) (payload : List Byte)
  /-- TARIFF_WRITE (R55) -/
  | tariffWrite (p : Port) (payload : List Byte)
  /-- TARIFF_FINISH (R56) -/
  | tariffFinish (p : Port) (payload : List Byte)
  /-- TARIFF_DISCARD (R59) -/
  | tariffDiscard (p : Port) (payload : List Byte)
  /-- TARIFF_READ (R59) -/
  | tariffRead (p : Port) (payload : List Byte)
  /-- SET_TIME (R67, R68) -/
  | setTime (p : Port) (payload : List Byte)
  /-- READ_JOURNAL (R160) -/
  | readJournal (p : Port) (payload : List Byte)
  /-- FETCH_NOTICE (R181) -/
  | fetchNotice (p : Port) (payload : List Byte)
  /-- NOTICE_DONE (R182) -/
  | noticeDone (p : Port) (payload : List Byte)
  /-- CONFIG_WRITE (R186) -/
  | configWrite (p : Port) (payload : List Byte)
  /-- LOAD_KEY (R186) -/
  | loadKey (p : Port) (payload : List Byte)
  /-- ACTIVATE_INITIAL_BANK (R187) -/
  | activateInitialBank (p : Port) (payload : List Byte)
  /-- RELAY_TEST (R118) -/
  | relayTest (p : Port) (payload : List Byte)
  /-- ENTER_SERVICE (R188) -/
  | enterService (p : Port) (payload : List Byte)
  /-- UNKNOWN_REQUEST_KIND (R171): a frame of kind 0x00 or of a kind that names no request -/
  | unknownRequestKind (p : Port) (kind : Byte) (payload : List Byte)
  /-- CHARACTER_RECEIVED (R168): one character, with its stop bit low or not -/
  | characterReceived (p : Port) (character : Byte) (stopBitLow : Bool)
  /-- RECEIVE_SILENCE_TIMEOUT (R169): more than 20 ms without a character -/
  | receiveSilenceTimeout (p : Port)
  /-- RESPONSE_SENT (R170): the last stop bit of the response has been sent -/
  | responseSent (p : Port)
  /-- PORT_RESET_ASSERT (R175) -/
  | portResetAssert (p : Port)
  /-- PORT_RESET_RELEASE (R175) -/
  | portResetRelease (p : Port)
  /-- LINK_SUSPECT (R173): the link's silence reaches T -/
  | linkSuspect (l : Link)
  /-- LINK_LOST (R174): the link's silence reaches 4 × T -/
  | linkLost (l : Link)
  /-- EP_RISING_EDGE (R30) -/
  | epRisingEdge
  /-- EP_FALLING_EDGE (R29) -/
  | epFallingEdge
  /-- INTERVAL_COUNTER_WRAP (R30) -/
  | intervalCounterWrap
  /-- WINDOW_TIME_CLOSE (R39): the open window's age reaches 900 s -/
  | windowTimeClose
  /-- MINUTE_BOUNDARY (R53) -/
  | minuteBoundary
  /-- CLOCK_WRAP (R66): the clock count passes 2^32 - 1 -/
  | clockWrap
  /-- CODE_SCREENING (R79): the screening of the head code, and its valuing and application -/
  | codeScreening
  /-- CODE_LOCKOUT_EXPIRY (R94) -/
  | codeLockoutExpiry (p : Port)
  /-- CHECKPOINT_ATTEMPT_END (R152): the write time has passed and the read-back matched or not -/
  | checkpointAttemptEnd (readBack : Bool)
  /-- BANK_WRITE_ATTEMPT_END (R152) -/
  | bankWriteAttemptEnd (readBack : Bool)
  /-- CONFIG_WRITE_ATTEMPT_END (R152) -/
  | configWriteAttemptEnd (readBack : Bool)
  /-- JOURNAL_WRITE_ATTEMPT_END (R159) -/
  | journalWriteAttemptEnd (readBack : Bool)
  /-- HOURLY_TIMER_EXPIRY (R155) -/
  | hourlyTimerExpiry
  /-- LOAD_EVALUATION (R124) -/
  | loadEvaluation
  /-- LOAD_LOCKOUT_EXPIRY (R127) -/
  | loadLockoutExpiry
  /-- TRIP_AGE_OUT (R126): the oldest trip reaches 86,400 s -/
  | tripAgeOut
  /-- COVER_SWITCH_CHANGE (R133) -/
  | coverSwitchChange (cover : Cover) (opened : Bool)
  /-- MAGNETIC_SENSOR_CHANGE (R133) -/
  | magneticSensorChange (field : Bool)
  /-- TAMPER_DEBOUNCE_EXPIRY (R136) -/
  | tamperDebounceExpiry (cause : TamperCause)
  /-- TAMPER_RELEASE_EXPIRY (R137) -/
  | tamperReleaseExpiry (cause : TamperCause)
  /-- HANDSHAKE_TIMEOUT (R106): T_h has passed -/
  | handshakeTimeout
  /-- ZX_EDGE (R107): a rising edge on ZX -/
  | zxEdge
  /-- ZX_TIMEOUT (R107): 100 ms without an edge -/
  | zxTimeout
  /-- RELAY_DELAY_END (R107) -/
  | relayDelayEnd
  /-- COIL_PULSE_END (R108) -/
  | coilPulseEnd
  /-- SETTLE_END (R109): the settle time ends and VERIFY is taken -/
  | settleEnd
  /-- BLANKING_END (R115) -/
  | blankingEnd
  /-- CONTACT_SENSE_CHANGE (R116): the new levels of LS1 to LS3 -/
  | contactSenseChange (sense : PhaseSet)
  /-- BYPASS_ARISE_TIMER_EXPIRY (R116) -/
  | bypassAriseTimerExpiry
  /-- BYPASS_END_TIMER_EXPIRY (R116) -/
  | bypassEndTimerExpiry
  /-- JUMP_TIMER_EXPIRY (R117) -/
  | jumpTimerExpiry
  /-- RETRY_TIMER_EXPIRY (R113) -/
  | retryTimerExpiry
  /-- POWER_FAIL_WARNING (R149) -/
  | powerFailWarning
  /-- MAIN_DOMAIN_STOP (R149): `cutLandsWhole` says whether a write cut short left its whole record (R161) -/
  | mainDomainStop (cutLandsWhole : Bool)
  /-- MAIN_START (R162) -/
  | mainStart
  /-- RETENTION_RESET (R149) -/
  | retentionReset
  deriving DecidableEq, Repr

end Sys2Proof
end

