-- ==== Sys2Proof/Config.lean ====
section
/-! DEFINITION. What the implementation fixes: the rate of the part's own time base, the fixed durations of the manual in
ticks, and the free values the manual leaves open. -/

namespace Sys2Proof

/-- The crystal's rate: 32,768 ticks in a second (00 "Direct lines", R148). -/
def Config.ticksPerSecond : Nat := 32768

/-- The ticks of a duration in seconds. -/
def Config.seconds (n : Nat) : Nat := n * 32768

/-- The ticks of a duration in milliseconds: the first tick by which it has passed (log 7, DESIGN CHOICE). -/
def Config.milliseconds (n : Nat) : Nat := (n * 32768 + 999) / 1000

/-- The ticks of a duration in microseconds, rounded up in the same way (log 7, DESIGN CHOICE). -/
def Config.microseconds (n : Nat) : Nat := (n * 32768 + 999999) / 1000000

/-- Free value: the power in watts that R32 gives for an interval of 0 ticks, for a pulse weight (log 29). R32 divides by
the interval, and no interval of R31 is 0. -/
opaque Config.powerOfNoTicks : Nat → Nat

/-- Free value: whether the midnight processing of a backward unclamped setting hands the load limiter a midnight event, as
R65 with step 4 of R64 says, or hands it none, as R69 and R128 say of a backward change (log 66). -/
opaque Config.backwardSettingEndsLockout : Bool

end Sys2Proof
end

