-- ==== Sys2Proof/Machine/State.lean ====
section
/-! DEFINITION. The state of the part as plain data: every item the manual gives it, block by block, and the queue of
commands. Timers are held as the tick of the part's own time base at which they end, or at which what they measure began
(log 4). -/

namespace Sys2Proof.Machine

/-- One value for each port. -/
structure PerPort (α : Type) where
  m : α
  k : α
  s : α
  deriving DecidableEq, Repr

/-- One value for each supervised link. -/
structure PerLink (α : Type) where
  m : α
  k : α
  deriving DecidableEq, Repr

/-! ### Power, lifecycle and clock -/

/-- The main domain: `stopped` while it has no supply, `starting` inside the main-start sequence (never between two
commands), `running`, and `failing` from PFW until it stops (R149, R162). -/
inductive Power where
  | stopped | starting | running | failing
  deriving DecidableEq, Repr

/-- R184. -/
inductive Lifecycle where
  | provisioning | inService
  deriving DecidableEq, Repr

/-- The calendar clock (R66). -/
structure Clock where
  count : Nat
  valid : Bool
  adjustment : Int
  deriving DecidableEq, Repr

/-- A calendar count as records carry it: a count, or the invalid-time marker (R134, R153, R158). -/
inductive Stamp where
  | counted (n : Nat)
  | invalid
  deriving DecidableEq, Repr

/-! ### Account -/

/-- R19, in the order of R1. -/
inductive CreditState where
  | normal | low | emergency | friendlyHold | exhausted
  deriving DecidableEq, Repr

/-- The account record, field by field as R1 lists it. -/
structure Account where
  balance : Int
  residue : Nat
  ecOwed : Nat
  debt : Nat
  debtRate : Nat
  creditState : CreditState
  ecAvailable : Bool
  creditedToBalance : Nat
  ecGrantedTotal : Nat
  energyCharged : Nat
  uncollected : Nat
  standingCharged : Nat
  clearAdjustment : Int
  ecRepaidTotal : Nat
  debtRecoveredTotal : Nat
  energyPerBand : Vector Nat 8
  shortfallEnergy : Nat
  chargesSinceCheckpoint : Nat
  deriving DecidableEq, Repr

/-- The two members of the cause set as the account holds them (R20, R25, R98). -/
structure AccountCauses where
  noCredit : Bool
  debtLimit : Bool
  deriving DecidableEq, Repr

/-! ### Pulse capture and reconciliation -/

/-- The rising-edge capture (R28, R30), with the tick of the edge, from which the width is measured (R29). -/
structure RisingCapture where
  count : Nat
  overflow : Bool
  unmeasurable : Bool
  edgeAt : Nat
  deriving DecidableEq, Repr

/-- The pulse capture unit (R28). -/
structure Pulse where
  counter : Nat
  overflow : Bool
  unmeasurable : Bool
  capture : Option RisingCapture
  lastInterval : Option Nat
  estimate : Nat
  energyTotal : Nat
  deriving DecidableEq, Repr

/-- R36. -/
inductive ChargingMode where
  | reported | pulseOnly
  deriving DecidableEq, Repr

/-- An open reconciliation window (R39); its age runs from `openedAt`. -/
structure Window where
  ep : Nat
  er : Nat
  exportTotal : Nat
  malformed : Nat
  openedAt : Nat
  deriving DecidableEq, Repr

/-- The reconciliation unit (R36, R39, R41). -/
structure Recon where
  mode : ChargingMode
  window : Option Window
  divergence : Nat
  deriving DecidableEq, Repr

/-! ### Tariff engine -/

/-- The two tariff areas (R150). -/
inductive Area where
  | areaA | areaB
  deriving DecidableEq, Repr

/-- A bank image: 305 bytes (R49, R194). -/
abbrev Image := List Byte

/-- What a tariff area holds: `damaged` after a failed or cut write (R152, R161; log 10). -/
inductive AreaContents where
  | blank
  | image (bytes : Image)
  | damaged
  deriving DecidableEq, Repr

/-- R54; the two validated states hold the fingerprint. -/
inductive PendingState where
  | empty | loading
  | finished (fingerprint : Nat)
  | scheduled (fingerprint : Nat)
  deriving DecidableEq, Repr

/-- What started an activation (R61, R64, R187). -/
inductive ActivationOrigin where
  | code | midnight | initial
  deriving DecidableEq, Repr

/-- The steps 2 and 3 of R61. -/
inductive ActivationPhase where
  | bankWrite | checkpoint
  deriving DecidableEq, Repr

/-- An activation in flight, with its activation buffer (R61). -/
structure Activation where
  image : Image
  fingerprint : Nat
  area : Area
  origin : ActivationOrigin
  phase : ActivationPhase
  deriving DecidableEq, Repr

/-- A midnight processing: its day, and whether a backward setting made it (R64, R65, R67; log 66). -/
structure Midnight where
  day : Nat
  backward : Bool
  deriving DecidableEq, Repr

/-- The tariff engine (R54, R61, R64, R70). -/
structure Tariff where
  activeArea : Option Area
  /-- a checkpoint written successfully has carried the active area (R61; log 11) -/
  areaCarried : Bool
  lastStandingDay : Nat
  scheduleMarker : Option Nat
  pending : PendingState
  pendingImage : Image
  activation : Option Activation
  currentRecord : Option Nat
  band : Nat
  friendly : Bool
  /-- the day number the clock was last seen in: "the day number before" of R64 (log 17) -/
  dayBefore : Nat
  /-- the midnight processing that waits for its activation (R64, step 1) -/
  midnight : Option Midnight
  /-- midnight events that wait until it has ended (R64) -/
  midnightsWaiting : List Midnight
  deriving DecidableEq, Repr

/-! ### Configuration -/

/-- A key slot (R73). -/
structure KeySlot where
  k0 : Word32
  k1 : Word32
  k2 : Word32
  k3 : Word32
  loaded : Bool
  deriving DecidableEq, Repr

/-- The configuration items of R185. `levels` and `routings` hold one entry for each notice kind, kind n at index n - 1;
those of the fixed kinds are not used (R178). -/
structure ConfigItems where
  mid : Nat
  keys : Vector KeySlot 4
  pulseWeight : Nat
  pmax : Nat
  importOnly : Bool
  relayDelay : Nat
  pulseWidth : Nat
  settleTime : Nat
  nm : Nat
  nk : Nat
  mh : Nat
  participants : PerLink Bool
  levels : Vector Nat 15
  routings : Vector (PerPort Bool) 15
  deriving DecidableEq, Repr

/-- The kinds of notice, in the order of R178: kind number n is the n-th. -/
inductive NoticeKind where
  | tamperRaised | supplyPending | supplyChanged | relayFault | awaitingConfirm | codeResult | creditExhausted
  | creditLow | ecAvailable | friendlyChanged | loadTrip | tariffChanged | clockAdjusted | bankReopened | journalAdded
  deriving DecidableEq, Repr

/-- One configuration item by name (R185, R190). -/
inductive ConfigItem where
  | mid | pulseWeight | pmax | importOnly | relayDelay | pulseWidth | settleTime | nm | nk | mh | participants
  | level (kind : NoticeKind)
  | routing (kind : NoticeKind)
  | key (slot : Fin 4)
  deriving DecidableEq, Repr

/-- A new value for an item: a number for CONFIG_WRITE, key words for LOAD_KEY (R186). -/
inductive ConfigValue where
  | number (n : Nat)
  | keyWords (k0 k1 k2 k3 : Word32)
  deriving DecidableEq, Repr

/-- The live copy and the unstored marks (R185, R186). -/
structure Configuration where
  live : ConfigItems
  unstored : List ConfigItem
  deriving DecidableEq, Repr

/-! ### Codes -/

/-- The fields of a decoded code (R72). -/
structure DecodedCode where
  kind : Nat
  serial : Nat
  value : Nat
  check : Nat
  deriving DecidableEq, Repr

/-- The results of R91, in its order. -/
inductive CodeResult where
  | accepted | acceptedStoreFault | malformed | checkFailed | generationOld | kindUnknown | kindNotOnPort | tooOld
  | alreadyUsed | tooFarAhead | valueRange | bankState | bankMismatch | ceiling | activationFailed
  deriving DecidableEq, Repr

/-- The division E, D, Q2 of an accepted top-up (R10). -/
structure TopUpSplit where
  e : Nat
  d : Nat
  q2 : Nat
  deriving DecidableEq, Repr

/-- An entry of the code queue (R76, R77). -/
structure CodeEntry where
  port : Port
  digits : List Byte
  deriving DecidableEq, Repr

/-- The stage of the head entry (R78): screening, with the key slots and MID as they stood when it became head; the commit
of an applied code (R90); the activation of a TARIFF_NOW (R88). -/
inductive HeadStage where
  | screening (slots : Vector KeySlot 4) (mid : Nat)
  | commit (code : DecodedCode) (split : Option TopUpSplit)
  | activating (code : DecodedCode)
  deriving DecidableEq, Repr

/-- Failure history, in seconds of the time base, and lockout end of one port (R93). -/
structure PortCodes where
  failures : List Nat
  lockedUntil : Option Nat
  deriving DecidableEq, Repr

/-- The used-code list, oldest bound and newest serial (R80, R81). -/
structure Serials where
  used : List Nat
  floor : Nat
  highest : Nat
  deriving DecidableEq, Repr

/-- The code processor and the check engine's slots (R73, R77, R81, R87, R93). -/
structure Codes where
  generation : Nat
  serials : Serials
  remoteOrder : Bool
  kPort : PortCodes
  sPort : PortCodes
  queue : List CodeEntry
  head : Option HeadStage
  slots : Vector KeySlot 4
  deriving DecidableEq, Repr

/-! ### Supply switch -/

/-- A set of supply causes (R98). -/
structure CauseSet where
  noCredit : Bool
  debtLimit : Bool
  loadLimit : Bool
  tamper : Bool
  remoteOrder : Bool
  deriving DecidableEq, Repr

/-- R118, R190: 0 opening, 1 closing. -/
inductive Direction where
  | opening | closing
  deriving DecidableEq, Repr

/-- The reasons of an operation, in the order of R101. -/
inductive Reason where
  | decision | retry | cleared | confirmed | recovery | jump | test
  deriving DecidableEq, Repr

/-- The settled relay states, in the order of R101. -/
inductive Settled where
  | closed | opened | awaitingConfirm | stuckClosed | stuckOpen
  deriving DecidableEq, Repr

/-- The operation states, in the order of R101. -/
inductive Stage where
  | handshake | zxWait | delay | pulse | settle | verify
  deriving DecidableEq, Repr

/-- A switching operation (R105 to R109); the configuration items it took at its start are held with it. -/
structure Operation where
  direction : Direction
  reason : Reason
  stage : Stage
  attempt : Nat
  synchronised : Bool
  awaited : PerLink Bool
  answered : PerLink Bool
  /-- m_h as taken at the start: T_h = 125 ms × 2^m_h -/
  mh : Nat
  relayDelay : Nat
  pulseWidth : Nat
  settleTime : Nat
  /-- the tick at which the present stage began -/
  stageAt : Nat
  deriving DecidableEq, Repr

/-- The relay state (R101). -/
inductive Relay where
  | settled (st : Settled)
  | operating (op : Operation)
  deriving DecidableEq, Repr

/-- The last settled state of the logical supply state (R101). -/
inductive Logical where
  | unset
  | settled (st : Settled)
  | inProgress
  deriving DecidableEq, Repr

/-- The opening record with its test mark (R101, R103, R118). -/
structure OpeningRecord where
  causes : CauseSet
  test : Bool
  deriving DecidableEq, Repr

/-- The supply switch controller (R98, R101, R109, R113, R115 to R117). -/
structure Supply where
  causes : CauseSet
  openRequired : Bool
  relay : Relay
  logical : Logical
  record : OpeningRecord
  /-- the phase-present set of the last report accepted since main start -/
  reportedPhases : Option PhaseSet
  retryAt : Option Nat
  blankingUntil : Option Nat
  bypassSince : Option Nat
  bypassGoneSince : Option Nat
  jumpSince : Option Nat
  deriving DecidableEq, Repr

/-! ### Load limiter -/

/-- The load limiter (R122); trip times are ticks of the time base, oldest first. -/
structure Load where
  limit : Nat
  overLimit : Nat
  lockoutUntil : Option Nat
  extended : Bool
  trips : List Nat
  nextEvaluation : Nat
  deriving DecidableEq, Repr

/-! ### Tamper monitor -/

/-- R138. -/
inductive Policy where
  | record | warn | disconnect
  deriving DecidableEq, Repr

/-- The states of a record; PENDING holds whether its prior state is LATCHED_ABSENT (R134). -/
inductive RecordState where
  | quiet
  | pending (priorLatched : Bool)
  | present
  | latchedAbsent
  deriving DecidableEq, Repr

/-- The record of one cause and its condition (R133, R134). -/
structure TamperRecord where
  state : RecordState
  condition : Bool
  count : Nat
  first : Option Stamp
  last : Option Stamp
  timer : Option Nat
  raisedOnBattery : Bool
  deriving DecidableEq, Repr

/-- An event of the battery event buffer (R143). -/
structure BatteryEvent where
  cover : Cover
  opened : Bool
  time : Stamp
  count : Nat
  deriving DecidableEq, Repr

/-- The tamper monitor (R134, R139, R143). -/
structure Tamper where
  records : Vector TamperRecord 13
  member : Bool
  buffer : List BatteryEvent
  deriving DecidableEq, Repr

/-! ### Notices -/

/-- Why a pending bank was reopened (R55, R62, R70). -/
inductive ReopenReason where
  | written | activationFailed | scheduleLost
  deriving DecidableEq, Repr

/-- A notice: its kind with the detail the placing rule names (R178, R192). -/
inductive Notice where
  | tamperRaised (cause : TamperCause) (count : Nat) (policy : Policy) (last : Option Stamp)
  | supplyPending (direction : Direction) (reason : Reason)
  | supplyChanged (state : Settled) (direction : Direction) (reason : Reason) (attempt : Nat) (synchronised : Bool)
  | relayFault (direction : Direction) (reason : Reason) (sense : PhaseSet)
  | awaitingConfirm (record : OpeningRecord)
  | codeResult (result : CodeResult) (code : Option DecodedCode) (credit : Option (TopUpSplit × Int))
  | creditExhausted (state : CreditState) (balance : Int)
  | creditLow (state : CreditState) (balance : Int)
  | ecAvailable (amount : Nat) (balance : Int)
  | friendlyChanged (state : CreditState) (balance : Int)
  | loadTrip (estimate limit hold entries : Nat) (lockout : Option Nat)
  | tariffChanged (version fingerprint : Nat)
  | clockAdjusted (before after : Nat)
  | bankReopened (reason : ReopenReason)
  | journalAdded (sequence kind : Nat)
  deriving DecidableEq, Repr

/-- A pending notice (R179). -/
structure PendingNotice where
  notice : Notice
  level : Nat
  count : Nat
  deriving DecidableEq, Repr

/-- The levels-in-service set (R180). -/
structure Levels where
  one : Bool
  two : Bool
  three : Bool
  four : Bool
  deriving DecidableEq, Repr

/-- The notice controller's sets for one port (R179, R180); kind n is at index n - 1. -/
structure NoticePort where
  pending : Vector (Option PendingNotice) 15
  inService : Levels
  deriving DecidableEq, Repr

/-! ### Store controller and nonvolatile array -/

/-- The reasons for a checkpoint, in the order of R155 and R195. -/
inductive CheckpointReason where
  | code | activation | step | midnight | tamper | relay | hourly | powerFail | mainStart | service
  deriving DecidableEq, Repr

/-- A reason set: bit n for the n-th reason (R153, R195). -/
abbrev ReasonSet := BitVec 16

/-- The kinds of journal entry with their details, in the order of R195. -/
inductive JournalDetail where
  | tamperPresent (cause : TamperCause) (count : Nat) (policy : Policy)
  | tamperAbsent (cause : TamperCause) (count : Nat)
  | tamperCleared (causes : List TamperCause)
  | codeAccepted (kind serial value : Nat) (origin : Port)
  | keyRolled (before after serial : Nat)
  | tariffActivated (version fingerprint : Nat) (area : Area)
  | clockAdjusted (before after : Nat)
  | supplyOpened (reason : Reason) (attempt : Nat) (record : OpeningRecord)
  | supplyClosed (reason : Reason) (attempt : Nat)
  | relayFault (direction : Direction) (reason : Reason) (sense : PhaseSet)
  | participantAbsent (port : Link) (direction : Direction)
  | loadTrip (estimate limit hold entries : Nat) (lockout : Option Nat)
  | extendedLockout (trips : List Nat)
  | ledgerRestored (found : Option (Nat × Stamp × ReasonSet)) (validSlots : Nat)
  | storeFault (writeClass slotOrArea firstSequence retrySequence : Nat)
  deriving DecidableEq, Repr

/-- A journal entry that waits: it has no sequence number yet (R158, R159). -/
structure JournalRequest where
  stamp : Stamp
  battery : Bool
  balance : Int
  detail : JournalDetail
  deriving DecidableEq, Repr

/-- A journal entry with its sequence number (R158). -/
structure JournalEntry where
  sequence : Nat
  request : JournalRequest
  deriving DecidableEq, Repr

/-- What a checkpoint carries of a tamper record (R153). -/
structure CarriedTamper where
  latched : Bool
  count : Nat
  first : Option Stamp
  last : Option Stamp
  deriving DecidableEq, Repr

/-- A checkpoint record (R153); its `account` has 0 charges since checkpoint, which the record does not carry. -/
structure CheckpointRecord where
  sequence : Nat
  stamp : Stamp
  reasons : ReasonSet
  lifecycle : Lifecycle
  account : Account
  generation : Nat
  serials : Serials
  activeArea : Option Area
  scheduleMarker : Option Nat
  lastStandingDay : Nat
  loadLimit : Nat
  extended : Bool
  tamper : Vector CarriedTamper 13
  logical : Logical
  record : OpeningRecord
  remoteOrder : Bool
  nextJournalSequence : Nat
  deriving DecidableEq, Repr

/-- The condition of a slot of the checkpoint log or the journal (R150). -/
inductive Slot (α : Type) where
  | blank
  | invalid
  | valid (contents : α)
  deriving DecidableEq, Repr

/-- The nonvolatile array (R150). -/
structure NvArray where
  log : Vector (Slot CheckpointRecord) 64
  journal : Vector (Slot JournalEntry) 32
  areaA : AreaContents
  areaB : AreaContents
  config : ConfigItems
  deriving DecidableEq, Repr

/-- A waiting class 2 write (R151). -/
inductive Class2Write where
  | bank (area : Area) (image : Image)
  | config (item : ConfigItem) (value : ConfigValue)
  deriving DecidableEq, Repr

/-- A checkpoint attempt in flight: its snapshot, its slot, the sequence number of the first attempt, whether this is the
retry, whether it writes nothing because the sequence numbers are used up (R157), whether a carried item has changed since
the snapshot (R156), and whether the snapshot carries the head's code or the activation (R154). -/
structure CheckpointAttempt where
  record : CheckpointRecord
  slot : Nat
  firstSequence : Nat
  retry : Bool
  writesNothing : Bool
  changedSince : Bool
  carriesCode : Bool
  carriesActivation : Bool
  deriving DecidableEq, Repr

/-- A write attempt in flight (R151, R152). -/
inductive Attempt where
  | checkpoint (c : CheckpointAttempt)
  | bank (area : Area) (image : Image) (retry : Bool)
  | config (item : ConfigItem) (value : ConfigValue) (retry : Bool)
  | journal (entry : JournalEntry) (slot : Nat) (retry writesNothing : Bool)
  deriving DecidableEq, Repr

/-- The store controller (R151 to R159); `hourlyAt` is the hourly timer, `discarded` the items whose waiting write PFW
discarded (R186; log 23). -/
structure Store where
  waiting : Option ReasonSet
  class2 : List Class2Write
  journal : List JournalRequest
  inFlight : Option Attempt
  failureRun : Nat
  nextSlot : Nat
  nextSequence : Nat
  nextJournalSlot : Nat
  nextJournalSequence : Nat
  hourlyAt : Option Nat
  discarded : List ConfigItem
  deriving DecidableEq, Repr

/-! ### Ports -/

/-- The receive states of R167's table. `body` holds the length byte, the bytes still due and the bytes kept; `check` holds
the length byte, the bytes kept and the first check byte once received; `busy` holds the response frame owed or being sent,
from its start byte to its check, as it goes onto the line (R167). -/
inductive Receive where
  | stopped | held | hunt | length
  | body (length : Byte) (due : Nat) (kept : List Byte)
  | check (length : Byte) (kept : List Byte) (first : Option Byte)
  | drain (errorOwed : Bool)
  | busy (frame : List Byte)
  deriving DecidableEq, Repr

/-- The receiver of one port and the tick of its last character (R168, R169). -/
structure Receiver where
  state : Receive
  lastCharacter : Nat
  deriving DecidableEq, Repr

/-- R173. -/
inductive LinkState where
  | up | suspect | lost
  deriving DecidableEq, Repr

/-- A supervised link; its silence runs from `lastFrame` (R173). -/
structure LinkMonitor where
  state : LinkState
  lastFrame : Nat
  deriving DecidableEq, Repr

/-! ### Pins -/

/-- The inputs that have a level (00 "Direct lines", R133, R166). -/
structure Inputs where
  ep : Bool
  sense : PhaseSet
  terminalCoverOpen : Bool
  mainCoverOpen : Bool
  magneticField : Bool
  portReset : PerPort Bool
  deriving DecidableEq, Repr

/-- The outputs: the coil drives (R108) and the attention lines (R180). -/
structure Outputs where
  openCoil : Bool
  closeCoil : Bool
  attention : PerPort Bool
  deriving DecidableEq, Repr

/-! ### The part and the state -/

/-- The whole part. -/
structure Part where
  power : Power
  lostMark : Bool
  lifecycle : Lifecycle
  timeBase : Nat
  clock : Clock
  inputs : Inputs
  outputs : Outputs
  account : Account
  accountCauses : AccountCauses
  pulse : Pulse
  recon : Recon
  tariff : Tariff
  codes : Codes
  supply : Supply
  load : Load
  tamper : Tamper
  checkpointDue : Bool
  store : Store
  array : NvArray
  config : Configuration
  receivers : PerPort Receiver
  links : PerLink LinkMonitor
  notices : PerPort NoticePort
  /-- the expiries that wait while another event of their moment has ended their timers or started them anew (log 53) -/
  overtaken : List Instr
  deriving DecidableEq, Repr

/-- The state: the part and the commands that wait, first in first out. -/
structure State where
  part : Part
  pending : List Instr
  deriving DecidableEq, Repr

/-! ### Why a step stops -/

/-- Why a step faults: never. The manual gives every command an effect in every state, so this type has no constructor. -/
inductive Fault where
  deriving DecidableEq, Repr

/-- Why a step is refused. -/
inductive Refusal where
  /-- Raised by exec's arm of a command that has no meaning yet; no arm raises it in this model. Safe: the model stops where
  the part goes on. -/
  | notModelled (mnemonic : String)
  deriving DecidableEq, Repr

/-! ### The state at reset -/

/-- The new-part account (R1). -/
def Account.newPart : Account :=
  { balance := 0, residue := 0, ecOwed := 0, debt := 0, debtRate := 0, creditState := .exhausted, ecAvailable := false,
    creditedToBalance := 0, ecGrantedTotal := 0, energyCharged := 0, uncollected := 0, standingCharged := 0,
    clearAdjustment := 0, ecRepaidTotal := 0, debtRecoveredTotal := 0, energyPerBand := Vector.replicate 8 0,
    shortfallEnergy := 0, chargesSinceCheckpoint := 0 }

/-- No supply cause. -/
def CauseSet.none : CauseSet :=
  { noCredit := false, debtLimit := false, loadLimit := false, tamper := false, remoteOrder := false }

/-- The empty opening record (R101). -/
def OpeningRecord.empty : OpeningRecord := { causes := CauseSet.none, test := false }

/-- The new-part values of the pulse capture unit, which are those of main start (R28). -/
def Pulse.atMainStart : Pulse :=
  { counter := 0, overflow := false, unmeasurable := true, capture := none, lastInterval := none, estimate := 0,
    energyTotal := 0 }

/-- The all-zero image (R54). -/
def Image.zero : Image := List.replicate 305 0#8

/-- A quiet record (R134). -/
def TamperRecord.quiet : TamperRecord :=
  { state := .quiet, condition := false, count := 0, first := none, last := none, timer := none, raisedOnBattery := false }

/-- A key slot that has never been loaded (R185). -/
def KeySlot.empty : KeySlot := { k0 := 0, k1 := 0, k2 := 0, k3 := 0, loaded := false }

/-- The new-part configuration (R185, R178). -/
def ConfigItems.newPart : ConfigItems :=
  { mid := 0, keys := Vector.replicate 4 KeySlot.empty, pulseWeight := 625, pmax := 24000, importOnly := false,
    relayDelay := 2500, pulseWidth := 60, settleTime := 150, nm := 2, nk := 5, mh := 3,
    participants := { m := true, k := true },
    levels := #v[4, 4, 3, 4, 3, 2, 3, 2, 2, 1, 3, 1, 1, 1, 1],
    routings := #v[⟨true, true, true⟩, ⟨true, true, false⟩, ⟨true, true, true⟩, ⟨true, true, true⟩,
      ⟨false, true, true⟩, ⟨false, true, true⟩, ⟨false, true, true⟩, ⟨false, true, false⟩, ⟨false, true, false⟩,
      ⟨false, true, false⟩, ⟨false, true, true⟩, ⟨false, true, true⟩, ⟨false, false, true⟩, ⟨false, false, true⟩,
      ⟨false, false, true⟩] }

/-- No port codes and no lockout (R94). -/
def PortCodes.empty : PortCodes := { failures := [], lockedUntil := none }

/-- The empty used-code list (R81). -/
def Serials.empty : Serials := { used := [], floor := 0, highest := 0 }

/-- No level in service (R180). -/
def Levels.none : Levels := { one := false, two := false, three := false, four := false }

/-- The empty notice sets of a port (R183). -/
def NoticePort.empty : NoticePort := { pending := Vector.replicate 15 Option.none, inService := Levels.none }

/-- The store controller with nothing waiting and the positions of blank scans (R157, R159). -/
def Store.idle : Store :=
  { waiting := none, class2 := [], journal := [], inFlight := none, failureRun := 0, nextSlot := 0, nextSequence := 1,
    nextJournalSlot := 0, nextJournalSequence := 1, hourlyAt := none, discarded := [] }

/-- A blank array with the new-part configuration (R150, R189). -/
def NvArray.newPart : NvArray :=
  { log := Vector.replicate 64 .blank, journal := Vector.replicate 32 .blank, areaA := .blank, areaB := .blank,
    config := ConfigItems.newPart }

/-- The tamper monitor of a new part (R134). -/
def Tamper.newPart : Tamper :=
  { records := Vector.replicate 13 TamperRecord.quiet, member := false, buffer := [] }

/-- The tariff engine of a new part (R54, R70, R189). -/
def Tariff.newPart : Tariff :=
  { activeArea := none, areaCarried := true, lastStandingDay := 0, scheduleMarker := none, pending := .empty,
    pendingImage := Image.zero, activation := none, currentRecord := none, band := 0, friendly := false, dayBefore := 0,
    midnight := none, midnightsWaiting := [] }

/-- The code processor of a new part (R73, R81, R87, R94). -/
def Codes.newPart : Codes :=
  { generation := 0, serials := Serials.empty, remoteOrder := false, kPort := PortCodes.empty, sPort := PortCodes.empty,
    queue := [], head := none, slots := Vector.replicate 4 KeySlot.empty }

/-- The supply switch controller of a new part before its first main start (R101; log 3). -/
def Supply.newPart : Supply :=
  { causes := CauseSet.none, openRequired := false, relay := .settled .opened, logical := .unset,
    record := OpeningRecord.empty, reportedPhases := none, retryAt := none, blankingUntil := none, bypassSince := none,
    bypassGoneSince := none, jumpSince := none }

/-- The load limiter of a new part (R122). -/
def Load.newPart : Load :=
  { limit := 0, overLimit := 0, lockoutUntil := none, extended := false, trips := [], nextEvaluation := 0 }

/-- A new part whose retention domain has just started with its lost mark and whose main domain has not started yet
(R149, R163, R189; log 1). -/
def Part.newPart : Part :=
  { power := .stopped, lostMark := true, lifecycle := .provisioning, timeBase := 0,
    clock := { count := 0, valid := false, adjustment := 0 },
    inputs := { ep := false, sense := ⟨false, false, false⟩, terminalCoverOpen := false, mainCoverOpen := false,
                magneticField := false, portReset := ⟨false, false, false⟩ },
    outputs := { openCoil := false, closeCoil := false, attention := ⟨false, false, false⟩ },
    account := Account.newPart, accountCauses := { noCredit := true, debtLimit := true },
    pulse := Pulse.atMainStart, recon := { mode := .reported, window := none, divergence := 0 },
    tariff := Tariff.newPart, codes := Codes.newPart, supply := Supply.newPart, load := Load.newPart,
    tamper := Tamper.newPart, checkpointDue := false, store := Store.idle, array := NvArray.newPart,
    config := { live := ConfigItems.newPart, unstored := [] },
    receivers := ⟨⟨.stopped, 0⟩, ⟨.stopped, 0⟩, ⟨.stopped, 0⟩⟩,
    links := ⟨⟨.suspect, 0⟩, ⟨.suspect, 0⟩⟩,
    notices := ⟨NoticePort.empty, NoticePort.empty, NoticePort.empty⟩, overtaken := [] }

/-- The state at reset: a new part and an empty queue. -/
def State.reset : State := { part := Part.newPart, pending := [] }

end Sys2Proof.Machine
end

