-- ==== Sys2Proof/WellFormed.lean ====
section
/-! DEFINITION. The checks that a command's operands pass before it stands for an event the manual knows: a payload that
a frame can carry (R167), a kind byte that names no request (R171), a cause that has the timer named (R133, R137), a port
that has a code lockout (R93). -/

namespace Sys2Proof

/-- A frame carries 0 to 200 payload bytes (R167). -/
def payloadFits (payload : List Byte) : Bool := payload.length ≤ 200

/-- The kinds of UNKNOWN_REQUEST_KIND: 0x00 and 0x16 to 0x7F (R170, R171, R190). -/
def kindIsUnknown (kind : Byte) : Bool := kind.toNat = 0 || (0x16 ≤ kind.toNat && kind.toNat ≤ 0x7F)

/-- The causes with a release time: the line inputs 0 to 2 (R137). -/
def TamperCause.hasRelease : TamperCause → Bool
  | .terminalCover | .mainCover | .magnetic => true
  | .bypass | .metrologyDivergence | .pulseIntegrity | .metrologySilent | .reverseEnergy | .neutralMissing
  | .interfaceLinkLost | .codeAttack | .retentionLost | .storeFault => false

/-- The causes whose debounce is a time (R133). -/
def TamperCause.hasDebounce : TamperCause → Bool
  | .terminalCover | .mainCover | .magnetic | .metrologySilent | .neutralMissing => true
  | .bypass | .metrologyDivergence | .pulseIntegrity | .reverseEnergy | .interfaceLinkLost | .codeAttack
  | .retentionLost | .storeFault => false

/-- The ports that take codes (R76, R93). -/
def Port.takesCodes : Port → Bool
  | .m => false
  | .k | .s => true

/-- A command is well formed when its operands can occur. -/
def Instr.wellFormed : Instr → Bool
  | .energyReport _ b | .switchReady _ b | .submitCode _ b | .takeEc _ b | .confirmReconnect _ b | .readDisplay _ b
  | .readState _ b | .readRegisters _ b | .tariffWrite _ b | .tariffFinish _ b | .tariffDiscard _ b | .tariffRead _ b
  | .setTime _ b | .readJournal _ b | .fetchNotice _ b | .noticeDone _ b | .configWrite _ b | .loadKey _ b
  | .activateInitialBank _ b | .relayTest _ b | .enterService _ b => payloadFits b
  | .unknownRequestKind _ kind b => kindIsUnknown kind && payloadFits b
  | .codeLockoutExpiry p => p.takesCodes
  | .tamperDebounceExpiry c => c.hasDebounce
  | .tamperReleaseExpiry c => c.hasRelease
  | .characterReceived _ _ _ | .receiveSilenceTimeout _ | .responseSent _ | .portResetAssert _ | .portResetRelease _
  | .linkSuspect _ | .linkLost _ | .epRisingEdge | .epFallingEdge | .intervalCounterWrap | .windowTimeClose
  | .minuteBoundary | .clockWrap | .codeScreening | .checkpointAttemptEnd _ | .bankWriteAttemptEnd _
  | .configWriteAttemptEnd _ | .journalWriteAttemptEnd _ | .hourlyTimerExpiry | .loadEvaluation | .loadLockoutExpiry
  | .tripAgeOut | .coverSwitchChange _ _ | .magneticSensorChange _ | .handshakeTimeout | .zxEdge | .zxTimeout
  | .relayDelayEnd | .coilPulseEnd | .settleEnd | .blankingEnd | .contactSenseChange _ | .bypassAriseTimerExpiry
  | .bypassEndTimerExpiry | .jumpTimerExpiry | .retryTimerExpiry | .powerFailWarning | .mainDomainStop _ | .mainStart
  | .retentionReset => true

end Sys2Proof
end

