-- ==== Sys2Proof/Machine/Ops.lean ====
section
/-! DEFINITION. The named operations shared by every block: fields of bytes, the CRC of the manual, numberings of R191,
sets, time, and access to what is held once for each port, link or cause. -/

namespace Sys2Proof

/-! ### Phase sets -/

/-- Is any phase in the set. -/
def PhaseSet.any (p : PhaseSet) : Bool := p.l1 || p.l2 || p.l3

/-- All three phases. -/
def PhaseSet.all : PhaseSet := ⟨true, true, true⟩

/-- The set as bits 0 to 2. -/
def PhaseSet.bits (p : PhaseSet) : Nat := p.l1.toNat + 2 * p.l2.toNat + 4 * p.l3.toNat

/-- Every phase of `q` is in `p`. -/
def PhaseSet.covers (p q : PhaseSet) : Bool := (!q.l1 || p.l1) && (!q.l2 || p.l2) && (!q.l3 || p.l3)

/-- No phase is in both sets. -/
def PhaseSet.disjoint (p q : PhaseSet) : Bool := !(p.l1 && q.l1) && !(p.l2 && q.l2) && !(p.l3 && q.l3)

/-- The phase set that bits 0 to 2 of a byte spell (R190). -/
def PhaseSet.ofByte (b : Byte) : PhaseSet := ⟨b.getLsbD 0, b.getLsbD 1, b.getLsbD 2⟩

end Sys2Proof

namespace Sys2Proof.Machine

/-! ### Bytes (R190, R191) -/

/-- The number that bytes spell, most significant byte first. -/
def beNat (bytes : List Byte) : Nat := bytes.foldl (fun n b => n * 256 + b.toNat) 0

/-- A number in `n` bytes, most significant byte first. -/
def toBytes : Nat → Nat → List Byte
  | 0, _ => []
  | n + 1, v => BitVec.ofNat 8 (v / 256 ^ n) :: toBytes n v

/-- A signed number in `n` bytes of two's complement (R191). -/
def toBytesSigned (n : Nat) (v : Int) : List Byte := toBytes n (v % (256 ^ n : Nat)).toNat

/-- One byte from a flag. -/
def flagByte (b : Bool) : Byte := if b then 1#8 else 0#8

/-- An optional value of `n` bytes behind its qualifier (R191). -/
def optionBytes (n : Nat) : Option Nat → List Byte
  | some v => 0#8 :: toBytes n v
  | none => 2#8 :: toBytes n 0

/-- A calendar count or the invalid-time marker, in 4 bytes behind its qualifier (R191). -/
def stampBytes : Stamp → List Byte
  | .counted n => 0#8 :: toBytes 4 n
  | .invalid => 1#8 :: toBytes 4 0

/-- A time that may be absent or carry the invalid-time marker (R134, R191). -/
def optionStampBytes : Option Stamp → List Byte
  | some t => stampBytes t
  | none => 2#8 :: toBytes 4 0

/-- The bytes `n` from offset `off` of an image or payload. -/
def slice (bytes : List Byte) (off n : Nat) : List Byte := (bytes.drop off).take n

/-- The number in `n` bytes from offset `off`. -/
def field (bytes : List Byte) (off n : Nat) : Nat := beNat (slice bytes off n)

/-! ### CRC (R58, R153, R167) -/

/-- `n` shifts of a CRC register to the left, each combined with the polynomial when a 1 leaves the top. -/
def crcShift {w : Nat} (poly : BitVec w) : Nat → BitVec w → BitVec w
  | 0, r => r
  | n + 1, r => crcShift poly n (if r.msb then (r <<< 1) ^^^ poly else r <<< 1)

/-- The CRC register after one byte: the byte into the top eight bits, then eight shifts. -/
def crcByte {w : Nat} (poly r : BitVec w) (b : Byte) : BitVec w :=
  crcShift poly 8 (r ^^^ ((b.zeroExtend w) <<< (w - 8)))

/-- The CRC register after the bytes in order. -/
def crc {w : Nat} (poly init : BitVec w) (bytes : List Byte) : BitVec w := bytes.foldl (crcByte poly) init

/-- The fingerprint of an image (R58). -/
def crc24 (bytes : List Byte) : BitVec 24 := crc 0x7A2F15#24 0xFFFFFF#24 bytes

/-- The check of a frame, over its length, kind and payload bytes (R167). -/
def crc16 (bytes : List Byte) : BitVec 16 := crc 0x1021#16 0xFFFF#16 bytes

/-- The check word of a record, inverted at its end (R153, R158). -/
def crc32 (bytes : List Byte) : BitVec 32 := ~~~ (crc 0x04C11DB7#32 0xFFFFFFFF#32 bytes)

/-! ### Numberings (R191) -/

/-- Ports are 0 for M, 1 for K and 2 for S. -/
def portNumber : Port → Nat
  | .m => 0
  | .k => 1
  | .s => 2

/-- The number of a link's port. -/
def linkNumber : Link → Nat
  | .m => 0
  | .k => 1

/-- Causes 0 to 12 (R133). -/
def causeIndex : TamperCause → Fin 13
  | .terminalCover => 0
  | .mainCover => 1
  | .magnetic => 2
  | .bypass => 3
  | .metrologyDivergence => 4
  | .pulseIntegrity => 5
  | .metrologySilent => 6
  | .reverseEnergy => 7
  | .neutralMissing => 8
  | .interfaceLinkLost => 9
  | .codeAttack => 10
  | .retentionLost => 11
  | .storeFault => 12

/-- The thirteen causes in order. -/
def allCauses : List TamperCause :=
  [.terminalCover, .mainCover, .magnetic, .bypass, .metrologyDivergence, .pulseIntegrity, .metrologySilent,
   .reverseEnergy, .neutralMissing, .interfaceLinkLost, .codeAttack, .retentionLost, .storeFault]

/-- The cause of a cover switch (R143). -/
def coverCause : Cover → TamperCause
  | .terminal => .terminalCover
  | .main => .mainCover

/-- The cover of a cause, for the two cover causes. -/
def causeCover : TamperCause → Option Cover
  | .terminalCover => some .terminal
  | .mainCover => some .main
  | .magnetic | .bypass | .metrologyDivergence | .pulseIntegrity | .metrologySilent | .reverseEnergy | .neutralMissing
  | .interfaceLinkLost | .codeAttack | .retentionLost | .storeFault => none

/-- Notice kinds 1 to 15, at index kind - 1 (R178). -/
def kindIndex : NoticeKind → Fin 15
  | .tamperRaised => 0
  | .supplyPending => 1
  | .supplyChanged => 2
  | .relayFault => 3
  | .awaitingConfirm => 4
  | .codeResult => 5
  | .creditExhausted => 6
  | .creditLow => 7
  | .ecAvailable => 8
  | .friendlyChanged => 9
  | .loadTrip => 10
  | .tariffChanged => 11
  | .clockAdjusted => 12
  | .bankReopened => 13
  | .journalAdded => 14

/-- The kind of a notice. -/
def Notice.kind : Notice → NoticeKind
  | .tamperRaised .. => .tamperRaised
  | .supplyPending .. => .supplyPending
  | .supplyChanged .. => .supplyChanged
  | .relayFault .. => .relayFault
  | .awaitingConfirm .. => .awaitingConfirm
  | .codeResult .. => .codeResult
  | .creditExhausted .. => .creditExhausted
  | .creditLow .. => .creditLow
  | .ecAvailable .. => .ecAvailable
  | .friendlyChanged .. => .friendlyChanged
  | .loadTrip .. => .loadTrip
  | .tariffChanged .. => .tariffChanged
  | .clockAdjusted .. => .clockAdjusted
  | .bankReopened .. => .bankReopened
  | .journalAdded .. => .journalAdded

def creditStateNumber : CreditState → Nat
  | .normal => 0
  | .low => 1
  | .emergency => 2
  | .friendlyHold => 3
  | .exhausted => 4

def directionNumber : Direction → Nat
  | .opening => 0
  | .closing => 1

def reasonNumber : Reason → Nat
  | .decision => 0
  | .retry => 1
  | .cleared => 2
  | .confirmed => 3
  | .recovery => 4
  | .jump => 5
  | .test => 6

def settledNumber : Settled → Nat
  | .closed => 0
  | .opened => 1
  | .awaitingConfirm => 2
  | .stuckClosed => 3
  | .stuckOpen => 4

def stageNumber : Stage → Nat
  | .handshake => 5
  | .zxWait => 6
  | .delay => 7
  | .pulse => 8
  | .settle => 9
  | .verify => 10

/-- The relay state's number in the order of R101's table. -/
def relayNumber : Relay → Nat
  | .settled st => settledNumber st
  | .operating op => stageNumber op.stage

def policyNumber : Policy → Nat
  | .record => 0
  | .warn => 1
  | .disconnect => 2

def codeResultNumber : CodeResult → Nat
  | .accepted => 0
  | .acceptedStoreFault => 1
  | .malformed => 2
  | .checkFailed => 3
  | .generationOld => 4
  | .kindUnknown => 5
  | .kindNotOnPort => 6
  | .tooOld => 7
  | .alreadyUsed => 8
  | .tooFarAhead => 9
  | .valueRange => 10
  | .bankState => 11
  | .bankMismatch => 12
  | .ceiling => 13
  | .activationFailed => 14

def reopenNumber : ReopenReason → Nat
  | .written => 0
  | .activationFailed => 1
  | .scheduleLost => 2

def areaNumber : Area → Nat
  | .areaA => 0
  | .areaB => 1

def lifecycleNumber : Lifecycle → Nat
  | .provisioning => 0
  | .inService => 1

def modeNumber : ChargingMode → Nat
  | .reported => 0
  | .pulseOnly => 1

def linkStateNumber : LinkState → Nat
  | .up => 0
  | .suspect => 1
  | .lost => 2

def pendingStateNumber : PendingState → Nat
  | .empty => 0
  | .loading => 1
  | .finished _ => 2
  | .scheduled _ => 3

def recordStateNumber : RecordState → Nat
  | .quiet => 0
  | .pending _ => 1
  | .present => 2
  | .latchedAbsent => 3

/-- Bit numbers of the reason set (R195). -/
def checkpointReasonNumber : CheckpointReason → Nat
  | .code => 0
  | .activation => 1
  | .step => 2
  | .midnight => 3
  | .tamper => 4
  | .relay => 5
  | .hourly => 6
  | .powerFail => 7
  | .mainStart => 8
  | .service => 9

/-- A reason set with one more reason (R154). -/
def addReason (r : CheckpointReason) (set : ReasonSet) : ReasonSet := set ||| (1#16 <<< checkpointReasonNumber r)

/-! ### Sets -/

/-- Is any cause in the set. -/
def CauseSet.any (c : CauseSet) : Bool := c.noCredit || c.debtLimit || c.loadLimit || c.tamper || c.remoteOrder

/-- The union of two sets of causes. -/
def CauseSet.union (a b : CauseSet) : CauseSet :=
  ⟨a.noCredit || b.noCredit, a.debtLimit || b.debtLimit, a.loadLimit || b.loadLimit, a.tamper || b.tamper,
   a.remoteOrder || b.remoteOrder⟩

/-- The set as bits 0 to 4 (R194). -/
def CauseSet.bits (c : CauseSet) : Nat :=
  c.noCredit.toNat + 2 * c.debtLimit.toNat + 4 * c.loadLimit.toNat + 8 * c.tamper.toNat + 16 * c.remoteOrder.toNat

/-- The set that bits 0 to 4 of a byte spell (R194). -/
def CauseSet.ofByte (b : Byte) : CauseSet := ⟨b.getLsbD 0, b.getLsbD 1, b.getLsbD 2, b.getLsbD 3, b.getLsbD 4⟩

/-- The opening record as one byte: causes in bits 0 to 4, the test mark in bit 7 (R195). -/
def OpeningRecord.byte (r : OpeningRecord) : Byte := BitVec.ofNat 8 (r.causes.bits + 128 * r.test.toNat)

/-- A set of tamper causes as bits 0 to 12. -/
def causeBits (causes : List TamperCause) : Nat := causes.foldl (fun n c => n + 2 ^ (causeIndex c).val) 0

/-! ### One value for each port, link or cause -/

def PerPort.get {α : Type} (v : PerPort α) : Port → α
  | .m => v.m
  | .k => v.k
  | .s => v.s

def PerPort.set {α : Type} (v : PerPort α) (p : Port) (x : α) : PerPort α :=
  match p with
  | .m => { v with m := x }
  | .k => { v with k := x }
  | .s => { v with s := x }

def PerLink.get {α : Type} (v : PerLink α) : Link → α
  | .m => v.m
  | .k => v.k

def PerLink.set {α : Type} (v : PerLink α) (l : Link) (x : α) : PerLink α :=
  match l with
  | .m => { v with m := x }
  | .k => { v with k := x }

/-- The supervised link of a port: the S-port has none (R173). -/
def portLink : Port → Option Link
  | .m => some .m
  | .k => some .k
  | .s => none

/-- The port of a link. -/
def linkPort : Link → Port
  | .m => .m
  | .k => .k

/-! ### Power and time -/

/-- The main domain has its supply. -/
def Part.mainOn (u : Part) : Bool := u.power != .stopped

/-- Blocks other than those PFW stops are at work: the main domain runs, before or after PFW (R149). -/
def Part.active (u : Part) : Bool := u.power == .running || u.power == .failing

/-- The main domain runs and PFW has not come. -/
def Part.running (u : Part) : Bool := u.power == .running

/-- The calendar count as a record takes it at this moment (R134, R158). -/
def Part.stamp (u : Part) : Stamp := if u.clock.valid then .counted u.clock.count else .invalid

/-- The whole seconds left on a lockout or on the retry timer, which count down once per second: rounded up (log 28). -/
def Part.secondsLeft (u : Part) (deadline : Nat) : Nat := (deadline - u.timeBase + 32767) / 32768

/-- The whole seconds left on a debounce or release timer, rounded down (00 "Integers and rounding", R147). -/
def Part.wholeSecondsLeft (u : Part) (deadline : Nat) : Nat := (deadline - u.timeBase) / 32768

/-- A deadline has come. -/
def Part.reached (u : Part) (deadline : Option Nat) : Bool :=
  match deadline with
  | some t => t ≤ u.timeBase
  | none => false

/-- A duration has passed since a moment. -/
def Part.passed (u : Part) (since : Option Nat) (ticks : Nat) : Bool := u.reached (since.map (· + ticks))

/-- The whole seconds that have passed since a tick. -/
def Part.secondsSince (u : Part) (since : Nat) : Nat := (u.timeBase - since) / 32768

/-! ### The checkpoint-due flag (R156) -/

/-- An attempt in flight, told that a carried item has changed since its snapshot. -/
def Attempt.noteChange : Attempt → Attempt
  | .checkpoint c => .checkpoint { c with changedSince := true }
  | .bank a i r => .bank a i r
  | .config i v r => .config i v r
  | .journal e s r w => .journal e s r w

/-- A carried item has changed: the checkpoint-due flag is set (R156). -/
def Part.markDue (u : Part) : Part :=
  { u with checkpointDue := true, store := { u.store with inFlight := u.store.inFlight.map Attempt.noteChange } }

/-- Mark the flag when `changed` says that a carried item has changed. -/
def Part.markDueIf (changed : Bool) (u : Part) : Part := if changed then u.markDue else u

/-- The account takes a new value, and a change of any field sets the checkpoint-due flag (R23, R156). -/
def Part.putAccount (a : Account) (u : Part) : Part :=
  if u.account = a then u else Part.markDue { u with account := a }

end Sys2Proof.Machine
end

