-- ==== Sys2Proof/Machine/Bank.lean ====
section
/-! DEFINITION. The tariff bank: the fields of the image (R49, R194), its validation (R57), day types (R51) and the walk of
the switch chain (R52). -/

namespace Sys2Proof.Machine

/-! ### Fields (R194) -/

def bankVersion (i : Image) : Nat := field i 0 2
def bankStandingCharge (i : Image) : Nat := field i 2 4
def bankPrice (i : Image) (band : Nat) : Nat := field i (6 + 3 * band) 3
def bankLowCredit (i : Image) : Nat := field i 30 4
def bankEcAmount (i : Image) : Nat := field i 34 4
def bankEcThreshold (i : Image) : Nat := field i 38 4
def bankFriendlyDebtLimit (i : Image) : Nat := field i 42 4
def bankCeiling (i : Image) : Nat := field i 46 4
def bankDisconnectSet (i : Image) : CauseSet := CauseSet.ofByte (BitVec.ofNat 8 (field i 50 1))
def bankFriendlySet (i : Image) : CauseSet := CauseSet.ofByte (BitVec.ofNat 8 (field i 51 1))
def bankReconnectConfirm (i : Image) : Bool := field i 52 1 = 1
def bankHoldTime (i : Image) : Nat := field i 53 2
def bankLockoutTime (i : Image) : Nat := field i 55 2
def bankCheckpointStep (i : Image) : Nat := field i 70 4
def bankWindowSize (i : Image) : Nat := field i 74 2
def bankTolerance (i : Image) : Nat := field i 76 1
def bankStart (i : Image) (dayType : Nat) : Nat := field i (77 + dayType) 1
def recordMinute (i : Image) (r : Nat) : Nat := field i (81 + 4 * r) 2
def recordBand (i : Image) (r : Nat) : Nat := field i (83 + 4 * r) 1 % 128
def recordFriendly (i : Image) (r : Nat) : Bool := 128 ≤ field i (83 + 4 * r) 1
def recordNext (i : Image) (r : Nat) : Nat := field i (84 + 4 * r) 1
def specialMonth (i : Image) (n : Nat) : Nat := field i (273 + 2 * n) 1
def specialDay (i : Image) (n : Nat) : Nat := field i (274 + 2 * n) 1

/-- The policy a bank gives a cause (R49); the two fixed policies are R138's. -/
def bankPolicy (i : Image) (c : TamperCause) : Policy :=
  match field i (57 + (causeIndex c).val) 1 with
  | 0 => .record
  | 1 => .warn
  | _ => .disconnect

/-! ### Validation (R57) -/

/-- Is the value of a field within bounds. -/
def within (lo hi v : Nat) : Bool := lo ≤ v && v ≤ hi

/-- The checks of one switch record in the first pass: minute, band part, next index. -/
def recordChecks (i : Image) (r : Nat) : List (Nat × Bool) :=
  [(81 + 4 * r, recordMinute i r ≤ 1439 || recordMinute i r = 65535),
   (83 + 4 * r, recordBand i r ≤ 7),
   (84 + 4 * r, recordNext i r ≤ 47 || recordNext i r = 255)]

/-- The check of one special-day entry in the first pass. -/
def specialCheck (i : Image) (n : Nat) : Nat × Bool :=
  (273 + 2 * n, (specialMonth i n = 0 && specialDay i n = 0) ||
    (within 1 12 (specialMonth i n) && within 1 31 (specialDay i n)))

/-- Every check of the first pass in order of offset, with the first byte of its field. Prices take every value. -/
def firstPassChecks (i : Image) : List (Nat × Bool) :=
  [(0, within 1 65535 (bankVersion i)), (2, within 0 100000000 (bankStandingCharge i)),
   (30, within 0 10000000 (bankLowCredit i)), (34, within 0 1000000 (bankEcAmount i)),
   (38, within 0 10000000 (bankEcThreshold i)), (42, within 0 1000000 (bankFriendlyDebtLimit i)),
   (46, within 1000 100000000 (bankCeiling i)), (50, within 0 31 (field i 50 1)), (51, within 0 31 (field i 51 1)),
   (52, within 0 1 (field i 52 1)), (53, within 5 300 (bankHoldTime i)), (55, within 30 3600 (bankLockoutTime i))]
  ++ (List.range 13).map (fun c => (57 + c, within 0 2 (field i (57 + c) 1)))
  ++ [(70, within 100 100000 (bankCheckpointStep i)), (74, within 50 1000 (bankWindowSize i)),
      (76, within 1 10 (bankTolerance i))]
  ++ (List.range 4).map (fun d => (77 + d, within 0 47 (bankStart i d)))
  ++ (List.range 48).flatMap (recordChecks i)
  ++ (List.range 16).map (specialCheck i)

/-- The offset of the first failing check. -/
def firstFailure : List (Nat × Bool) → Option Nat
  | [] => none
  | (off, ok) :: rest => if ok then firstFailure rest else some off

/-- The second pass along one chain, from its `48 - fuel`-th record on; `before` is the minute of the record before. -/
def chainFailure (i : Image) : Nat → Nat → Option Nat → Option Nat
  | 0, _, _ => none
  | fuel + 1, r, before =>
    let minute := recordMinute i r
    if before = none && minute != 0 then some (81 + 4 * r)
    else if minute = 65535 then some (81 + 4 * r)
    else if (match before with | some b => decide (minute ≤ b) | none => false) then some (81 + 4 * r)
    else if fuel = 0 && recordNext i r != 255 then some (84 + 4 * r)
    else if recordNext i r = 255 then none
    else chainFailure i fuel (recordNext i r) (some minute)

/-- The first failing chain in day-type order. -/
def chainsFailure (i : Image) : List Nat → Option Nat
  | [] => none
  | d :: rest =>
    match chainFailure i 48 (bankStart i d) none with
    | some off => some off
    | none => chainsFailure i rest

/-- The offset of the first fault, or none when the image passes (R57). -/
def bankFault (i : Image) : Option Nat :=
  match firstFailure (firstPassChecks i) with
  | some off => some off
  | none => chainsFailure i [0, 1, 2, 3]

/-- The fingerprint of an image (R58). -/
def fingerprintOf (i : Image) : Nat := (crc24 i).toNat

/-! ### Day types (R51) -/

def isLeap (year : Nat) : Bool := year % 4 = 0 && (year % 100 != 0 || year % 400 = 0)

def yearDays (year : Nat) : Nat := if isLeap year then 366 else 365

/-- The year of a day number counted from the first day of `year`, and the day within it; the clock spans 137 years. -/
def yearOf : Nat → Nat → Nat → Nat × Nat
  | 0, year, day => (year, day)
  | fuel + 1, year, day => if day < yearDays year then (year, day) else yearOf fuel (year + 1) (day - yearDays year)

def monthDays (year : Nat) : List Nat :=
  [31, if isLeap year then 29 else 28, 31, 30, 31, 30, 31, 31, 30, 31, 30, 31]

/-- The month and the day of the month, both from 1, of a day within a year. -/
def monthOf : List Nat → Nat → Nat → Nat × Nat
  | [], month, day => (month, day + 1)
  | n :: rest, month, day => if day < n then (month, day + 1) else monthOf rest (month + 1) (day - n)

/-- The month and the day of the month of a day number (R51). -/
def dateOf (day : Nat) : Nat × Nat :=
  let y := yearOf 137 2000 day
  monthOf (monthDays y.1) 1 y.2

/-- Some entry of the bank holds the date; an unused entry, month 0, holds none (R51). -/
def isSpecialDay (i : Image) (date : Nat × Nat) : Bool :=
  (List.range 16).any (fun n => specialMonth i n = date.1 && specialDay i n = date.2)

/-- The day type of a day number (R51). -/
def dayType (i : Image) (day : Nat) : Nat :=
  if isSpecialDay i (dateOf day) then 3
  else if day % 7 = 0 then 1
  else if day % 7 = 1 then 2
  else 0

/-! ### The walk (R52) -/

/-- Step along the chain while the next record's minute is at or below the present minute. -/
def walkFrom (i : Image) (minute : Nat) : Nat → Nat → Nat
  | 0, r => r
  | fuel + 1, r =>
    let n := recordNext i r
    if n ≤ 47 && decide (recordMinute i n ≤ minute) then walkFrom i minute fuel n else r

/-- The current record at a clock count (R52). -/
def currentRecord (i : Image) (count : Nat) : Nat :=
  walkFrom i (count % 86400 / 60) 48 (bankStart i (dayType i (count / 86400)))

/-! ### The active bank -/

/-- What a tariff area holds. -/
def Part.areaContents (u : Part) : Area → AreaContents
  | .areaA => u.array.areaA
  | .areaB => u.array.areaB

/-- The image of the active bank, or none while no bank is active. An active reference to an area that holds no whole image
does not arise (log 10). -/
def Part.activeBank (u : Part) : Option Image :=
  match u.tariff.activeArea with
  | none => none
  | some a =>
    match u.areaContents a with
    | .image bytes => some bytes
    | .blank | .damaged => none

/-- A value of the active bank, or its substitute while no bank is active (R2, R99). -/
def Part.bankValue {α : Type} (u : Part) (read : Image → α) (substitute : α) : α :=
  match u.activeBank with
  | some i => read i
  | none => substitute

/-- The current price (R52): 0 while no bank is active (R2). -/
def Part.price (u : Part) : Nat := u.bankValue (fun i => bankPrice i u.tariff.band) 0

/-- The policy applied to a cause (R138). -/
def Part.policy (u : Part) (c : TamperCause) : Policy :=
  match c with
  | .retentionLost => .record
  | .storeFault => .warn
  | .terminalCover | .mainCover | .magnetic | .bypass | .metrologyDivergence | .pulseIntegrity | .metrologySilent
  | .reverseEnergy | .neutralMissing | .interfaceLinkLost | .codeAttack => u.bankValue (fun i => bankPolicy i c) .record

/-- An image with bytes stored at an offset (R55). -/
def storeBytes (i : Image) (off : Nat) (bytes : List Byte) : Image :=
  i.take off ++ bytes ++ i.drop (off + bytes.length)

end Sys2Proof.Machine
end

