-- ==== Sys2Proof/Machine/Store.lean ====
section
/-! DEFINITION. The store controller as the other blocks see it: submitting writes, starting the next attempt (R151),
taking the snapshot of a checkpoint (R153, R154), and the positions in the log and the journal (R157, R159). What happens
when an attempt ends stands in StoreEvents.lean. -/

namespace Sys2Proof.Machine

/-! ### Serials (R81) -/

/-- A list in ascending order with one more serial at its place. -/
def insertSerial (x : Nat) : List Nat → List Nat
  | [] => [x]
  | y :: ys => if x < y then x :: y :: ys else y :: insertSerial x ys

/-- The used-code list, floor and highest serial after marking a serial (R81). -/
def Serials.mark (c : Serials) (x : Nat) : Serials :=
  let highest := if c.highest < x then x else c.highest
  match insertSerial x c.used with
  | [] => { used := [], floor := c.floor, highest := highest }
  | low :: rest =>
    if 41 ≤ (low :: rest).length then { used := rest, floor := low, highest := highest }
    else { used := low :: rest, floor := c.floor, highest := highest }

/-! ### Scans (R157, R159) -/

/-- The valid slots of a circular area with their numbers, in slot order. -/
def validSlots {α : Type} : Nat → List (Slot α) → List (Nat × α)
  | _, [] => []
  | n, .valid x :: rest => (n, x) :: validSlots (n + 1) rest
  | n, .blank :: rest => validSlots (n + 1) rest
  | n, .invalid :: rest => validSlots (n + 1) rest

/-- The entry with the greatest key; of equal keys the first. -/
def greatestBy {α : Type} (key : α → Nat) : List (Nat × α) → Option (Nat × α)
  | [] => none
  | x :: rest =>
    match greatestBy key rest with
    | none => some x
    | some y => if key x.2 < key y.2 then some y else some x

/-- The newest valid checkpoint and its slot. -/
def NvArray.newestCheckpoint (v : NvArray) : Option (Nat × CheckpointRecord) :=
  greatestBy CheckpointRecord.sequence (validSlots 0 v.log.toList)

/-- The newest valid journal entry and its slot. -/
def NvArray.newestEntry (v : NvArray) : Option (Nat × JournalEntry) :=
  greatestBy JournalEntry.sequence (validSlots 0 v.journal.toList)

/-- Put something into a slot of the checkpoint log. -/
def NvArray.setLog (v : NvArray) (slot : Nat) (x : Slot CheckpointRecord) : NvArray :=
  { v with log := v.log.setIfInBounds slot x }

/-- Put something into a slot of the journal. -/
def NvArray.setJournal (v : NvArray) (slot : Nat) (x : Slot JournalEntry) : NvArray :=
  { v with journal := v.journal.setIfInBounds slot x }

/-- The slot after a log slot, passing over the slot of the newest valid checkpoint (R157). -/
def NvArray.slotAfter (v : NvArray) (slot : Nat) : Nat :=
  let next := (slot + 1) % 64
  match v.newestCheckpoint with
  | some (newest, _) => if next = newest then (next + 1) % 64 else next
  | none => next

/-- The active tariff area of live state has been carried by a checkpoint written successfully, or no bank is active
(R61; log 11). -/
def Part.areaCarried (u : Part) : Bool := u.tariff.activeArea.isNone || u.tariff.areaCarried

/-! ### The snapshot (R153, R154) -/

/-- A cause is latched, or is carried as latched (R134, R139, R153). -/
def RecordState.latched : RecordState → Bool
  | .quiet => false
  | .pending priorLatched => priorLatched
  | .present => true
  | .latchedAbsent => true

/-- What a checkpoint carries of a record. -/
def TamperRecord.carried (r : TamperRecord) : CarriedTamper :=
  { latched := r.state.latched, count := r.count, first := r.first, last := r.last }

/-- The code whose serial an activation in flight will spend: the head of the code queue, for a TARIFF_NOW. -/
def Codes.activatingSerial (c : Codes) : Option Nat :=
  match c.head with
  | some (.activating code) => some code.serial
  | some (.screening _ _) | some (.commit _ _) | none => none

/-- The activation is in its checkpoint step (R154). -/
def Tariff.inCheckpointStep (t : Tariff) : Option Activation :=
  match t.activation with
  | some a => if a.phase = .checkpoint then some a else none
  | none => none

/-- The active area that a snapshot names (R154). -/
def Part.snapshotArea (u : Part) : Option Area :=
  match u.tariff.inCheckpointStep with
  | some a => some a.area
  | none => u.tariff.activeArea

/-- The used-code list that a snapshot carries (R154). -/
def Part.snapshotSerials (u : Part) : Serials :=
  match u.tariff.inCheckpointStep with
  | some a =>
    if a.origin = .code then
      match u.codes.activatingSerial with
      | some x => u.codes.serials.mark x
      | none => u.codes.serials
    else u.codes.serials
  | none => u.codes.serials

/-- The checkpoint record of live state (R153, R154). -/
def Part.snapshot (u : Part) (sequence : Nat) (reasons : ReasonSet) : CheckpointRecord :=
  { sequence := sequence, stamp := u.stamp, reasons := reasons, lifecycle := u.lifecycle,
    account := { u.account with chargesSinceCheckpoint := 0 }, generation := u.codes.generation,
    serials := u.snapshotSerials, activeArea := u.snapshotArea, scheduleMarker := u.tariff.scheduleMarker,
    lastStandingDay := u.tariff.lastStandingDay, loadLimit := u.load.limit, extended := u.load.extended,
    tamper := u.tamper.records.map TamperRecord.carried, logical := u.supply.logical, record := u.supply.record,
    remoteOrder := u.codes.remoteOrder, nextJournalSequence := u.store.nextJournalSequence }

/-! ### Starting an attempt (R151, R154, R157, R159) -/

/-- The head of the code queue waits for an ordinary commit (R90). -/
def Codes.committing (c : Codes) : Bool :=
  match c.head with
  | some (.commit _ _) => true
  | some (.screening _ _) | some (.activating _) | none => false

/-- The greatest sequence number that can be written (R157, R159). -/
def lastSequence : Nat := 4294967295

/-- Start a checkpoint's first attempt: the snapshot is taken, charges since checkpoint returns to 0 (R23), the slot is no
longer valid, and the log position advances. When the sequence numbers are used up, nothing is written, and the position
stands (R157; log 48). -/
def Part.startCheckpoint (u : Part) (reasons : ReasonSet) : Part :=
  let writesNothing := lastSequence < u.store.nextSequence
  let attempt : CheckpointAttempt :=
    { record := u.snapshot u.store.nextSequence reasons, slot := u.store.nextSlot,
      firstSequence := u.store.nextSequence, retry := false, writesNothing := writesNothing, changedSince := false,
      carriesCode := u.codes.committing, carriesActivation := u.tariff.inCheckpointStep.isSome }
  let array := if writesNothing then u.array else u.array.setLog u.store.nextSlot .invalid
  { u with
    account := { u.account with chargesSinceCheckpoint := 0 },
    array := array,
    store := { u.store with
      waiting := none, inFlight := some (.checkpoint attempt),
      nextSlot := if writesNothing then u.store.nextSlot else array.slotAfter u.store.nextSlot,
      nextSequence := if writesNothing then u.store.nextSequence else u.store.nextSequence + 1 } }

/-- Start a class 2 write's first attempt. -/
def Part.startClass2 (u : Part) (w : Class2Write) (rest : List Class2Write) : Part :=
  let attempt := match w with
    | .bank area image => Attempt.bank area image false
    | .config item value => Attempt.config item value false
  { u with store := { u.store with class2 := rest, inFlight := some attempt } }

/-- Start a journal entry's first attempt: it takes the journal position, its slot is invalid until it succeeds, and the
next journal sequence number, which a checkpoint carries, moves on (R159, R156). When the numbers are used up, nothing is
written, and the position stands (log 48). -/
def Part.startJournal (u : Part) (r : JournalRequest) (rest : List JournalRequest) : Part :=
  let n := u.store.nextJournalSequence
  let slot := u.store.nextJournalSlot
  if lastSequence < n then
    { u with store := { u.store with journal := rest, inFlight := some (.journal ⟨n, r⟩ slot false true) } }
  else
    Part.markDue
      { u with
        array := u.array.setJournal slot .invalid,
        store := { u.store with
          journal := rest, inFlight := some (.journal ⟨n, r⟩ slot false false),
          nextJournalSlot := (slot + 1) % 32, nextJournalSequence := n + 1 } }

/-- When no write is in flight, start the next one in the order of R151: the waiting checkpoint, the oldest class 2 write,
which is not started after PFW (R161), the oldest journal entry. -/
def Part.startNext (u : Part) : Part :=
  match u.store.inFlight with
  | some _ => u
  | none =>
    if !u.mainOn then u
    else
      match u.store.waiting with
      | some reasons => u.startCheckpoint reasons
      | none =>
        match u.store.class2, u.power with
        | w :: rest, .running => u.startClass2 w rest
        | w :: rest, .starting => u.startClass2 w rest
        | _, _ =>
          match u.store.journal with
          | r :: rest => u.startJournal r rest
          | [] => u

/-! ### Submitting a write -/

/-- A checkpoint request: it places a checkpoint in the queue or joins the waiting one (R154). -/
def Part.requestCheckpoint (r : CheckpointReason) (u : Part) : Part :=
  let set := addReason r (u.store.waiting.getD 0#16)
  Part.startNext { u with store := { u.store with waiting := some set } }

/-- Submit a class 2 write (R151). -/
def Part.submitClass2 (w : Class2Write) (u : Part) : Part :=
  Part.startNext { u with store := { u.store with class2 := u.store.class2 ++ [w] } }

/-- Submit a journal entry, which is discarded when 8 entries wait (R159). -/
def Part.submitJournal (r : JournalRequest) (u : Part) : Part :=
  if 8 ≤ u.store.journal.length then u
  else Part.startNext { u with store := { u.store with journal := u.store.journal ++ [r] } }

/-- Request a journal entry of this moment: its time and its balance are those of the request (R158). -/
def Part.journal (d : JournalDetail) (u : Part) : Part :=
  u.submitJournal { stamp := u.stamp, battery := false, balance := u.account.balance, detail := d }

end Sys2Proof.Machine
end

