-- ==== Sys2Proof/Machine/Notices.lean ====
section
/-! DEFINITION. The notice controller: levels and routing (R178), placing (R179), the levels in service and the attention
line (R180), fetching and completing (R181, R182). -/

namespace Sys2Proof.Machine

/-! ### Levels and routing (R178) -/

/-- The level of a kind: fixed for five kinds, configured for the others. -/
def ConfigItems.levelOf (c : ConfigItems) (k : NoticeKind) : Nat :=
  match k with
  | .tamperRaised | .supplyPending | .relayFault => 4
  | .supplyChanged => 3
  | .codeResult => 2
  | .awaitingConfirm | .creditExhausted | .creditLow | .ecAvailable | .friendlyChanged | .loadTrip | .tariffChanged
  | .clockAdjusted | .bankReopened | .journalAdded => c.levels.get (kindIndex k)

/-- The routing of a kind: fixed for six kinds, configured for the others. For SUPPLY_PENDING and CODE_RESULT the placing
block names the port, so the entry here is not used. -/
def ConfigItems.routingOf (c : ConfigItems) (k : NoticeKind) : PerPort Bool :=
  match k with
  | .tamperRaised | .supplyChanged | .relayFault => ⟨true, true, true⟩
  | .supplyPending | .codeResult => ⟨false, false, false⟩
  | .bankReopened => ⟨false, false, true⟩
  | .awaitingConfirm | .creditExhausted | .creditLow | .ecAvailable | .friendlyChanged | .loadTrip | .tariffChanged
  | .clockAdjusted | .journalAdded => c.routings.get (kindIndex k)

/-! ### Levels in service and eligibility (R180) -/

/-- The highest level in service, or 0. -/
def Levels.highest (l : Levels) : Nat :=
  if l.four then 4 else if l.three then 3 else if l.two then 2 else if l.one then 1 else 0

/-- A level enters the set. -/
def Levels.enter (l : Levels) (level : Nat) : Levels :=
  match level with
  | 1 => { l with one := true }
  | 2 => { l with two := true }
  | 3 => { l with three := true }
  | 4 => { l with four := true }
  | _ => l

/-- The highest level leaves the set. -/
def Levels.dropHighest (l : Levels) : Levels :=
  if l.four then { l with four := false }
  else if l.three then { l with three := false }
  else if l.two then { l with two := false }
  else { l with one := false }

/-- The pending notices in order of kind number. -/
def NoticePort.listed (n : NoticePort) : List PendingNotice := n.pending.toList.filterMap id

/-- A pending notice is eligible when its level exceeds the highest level in service. -/
def NoticePort.eligible (n : NoticePort) (x : PendingNotice) : Bool := n.inService.highest < x.level

/-- At least one pending notice is eligible: what asserts the attention line. -/
def NoticePort.calls (n : NoticePort) : Bool := n.listed.any n.eligible

/-- The number of notices in the pending set. -/
def NoticePort.size (n : NoticePort) : Nat := n.listed.length

/-- A port's sets take a new value and its attention line is re-evaluated (R180). -/
def Part.putNotices (p : Port) (n : NoticePort) (u : Part) : Part :=
  { u with notices := u.notices.set p n, outputs := { u.outputs with attention := u.outputs.attention.set p n.calls } }

/-! ### Placing (R179) -/

/-- A pending set after a placing: the notice enters, or takes the new detail and level with its count raised. -/
def NoticePort.place (n : NoticePort) (x : Notice) (level : Nat) : NoticePort :=
  let i := kindIndex x.kind
  let count := match n.pending.get i with
    | some old => min 255 (old.count + 1)
    | none => 1
  { n with pending := n.pending.set i.val (some { notice := x, level := level, count := count }) i.isLt }

/-- Place a notice on one port. -/
def Part.placeOn (p : Port) (x : Notice) (u : Part) : Part :=
  u.putNotices p ((u.notices.get p).place x (u.config.live.levelOf x.kind))

/-- Place a notice on a port when the flag says so. -/
def Part.placeIf (b : Bool) (p : Port) (x : Notice) (u : Part) : Part := if b then u.placeOn p x else u

/-- Place a notice on the ports of its routing. -/
def Part.place (x : Notice) (u : Part) : Part :=
  let routing := u.config.live.routingOf x.kind
  ((u.placeIf routing.m .m x).placeIf routing.k .k x).placeIf routing.s .s x

/-! ### Fetching and completing (R181, R182) -/

/-- Of two notices the one to hand out first: the higher level, then the lower kind number, which is the earlier one. -/
def betterNotice : Option PendingNotice → PendingNotice → PendingNotice
  | none, y => y
  | some x, y => if x.level < y.level then y else x

/-- The eligible notice of the highest level, and of those the one with the lowest kind number. -/
def NoticePort.choice (n : NoticePort) : Option PendingNotice :=
  (n.listed.filter n.eligible).foldl (fun best y => some (betterNotice best y)) none

/-- The sets after a notice has been handed out. -/
def NoticePort.handOut (n : NoticePort) (x : PendingNotice) : NoticePort :=
  let i := kindIndex x.notice.kind
  { pending := n.pending.set i.val none i.isLt, inService := n.inService.enter x.level }

end Sys2Proof.Machine
end

