-- ==== Sys2Proof/Machine/TamperRecords.lean ====
section
/-! DEFINITION. The thirteen tamper records (R134), the end of a condition (R137) and the battery event buffer (R143). What
also moves the TAMPER member stands in Tamper.lean. -/

namespace Sys2Proof.Machine

/-- The record of a cause. -/
def Part.tamperRecord (u : Part) (c : TamperCause) : TamperRecord := u.tamper.records.get (causeIndex c)

/-- The condition of a cause (R133). -/
def Part.condition (u : Part) (c : TamperCause) : Bool := (u.tamperRecord c).condition

/-- A record takes a new value; a change of what a checkpoint carries sets the checkpoint-due flag (R134). The state is
compared as latched or not, as it is carried (R153); for PRESENT to LATCHED_ABSENT see `Part.absentEvidence` (log 65). -/
def Part.putRecord (c : TamperCause) (r : TamperRecord) (u : Part) : Part :=
  Part.markDueIf ((u.tamperRecord c).carried != r.carried)
    { u with tamper := { u.tamper with
        records := u.tamper.records.set (causeIndex c).val r (causeIndex c).isLt } }

/-- The debounce, and for causes 0 to 2 the release time, in ticks (R133); 0 stands for none. -/
def debounceTicks : TamperCause → Nat
  | .terminalCover | .mainCover => Config.milliseconds 50
  | .magnetic => Config.seconds 2
  | .metrologySilent => Config.seconds 60
  | .neutralMissing => Config.seconds 10
  | .bypass | .metrologyDivergence | .pulseIntegrity | .reverseEnergy | .interfaceLinkLost | .codeAttack
  | .retentionLost | .storeFault => 0

/-- From PFW until the next main start, cover events go to the battery event buffer (R141, R142; log 21). -/
def Part.onBattery (u : Part) : Bool := u.power == .stopped || u.power == .failing

/-- A cover event goes to the battery event buffer while it holds fewer than 4 (R143). -/
def Part.bufferEvent (cover : Cover) (opened : Bool) (u : Part) : Part :=
  if 4 ≤ u.tamper.buffer.length then u
  else
    let e : BatteryEvent :=
      { cover := cover, opened := opened, time := u.stamp, count := (u.tamperRecord (coverCause cover)).count }
    { u with tamper := { u.tamper with buffer := u.tamper.buffer ++ [e] } }

/-- The evidence of a record becoming LATCHED_ABSENT: a TAMPER_ABSENT entry (R137), for a cover on battery the buffer (R142)
with the checkpoint-due flag (R144, R161), for CODE_ATTACK while the main domain is stopped that flag alone (R142). That the
flag is set in these cases only, since the carried form stays latched, is the model's choice (log 65). -/
def Part.absentEvidence (c : TamperCause) (u : Part) : Part :=
  let entry := u.journal (.tamperAbsent c (u.tamperRecord c).count)
  match causeCover c with
  | some cover => if u.onBattery then (u.bufferEvent cover false).markDue else entry
  | none => if u.mainOn then entry else u.markDue

/-- A PRESENT record becomes LATCHED_ABSENT (R137). -/
def Part.becomeAbsent (c : TamperCause) (u : Part) : Part :=
  Part.absentEvidence c (u.putRecord c { u.tamperRecord c with state := .latchedAbsent, timer := none })

/-- The condition of a cause becomes false (R137). -/
def Part.conditionEnds (c : TamperCause) (u : Part) : Part :=
  let r := { u.tamperRecord c with condition := false }
  match r.state with
  | .quiet | .latchedAbsent => u.putRecord c r
  | .pending priorLatched =>
    u.putRecord c { r with state := if priorLatched then .latchedAbsent else .quiet, timer := none }
  | .present =>
    if c.hasRelease then u.putRecord c { r with timer := some (u.timeBase + debounceTicks c) }
    else Part.becomeAbsent c (u.putRecord c r)

end Sys2Proof.Machine
end

