-- ==== Sys2Proof/Machine/Flags.lean ====
section
/-! DEFINITION. The derived flags: the credit state and the account's causes (R13, R19, R20), the causes that count and
open-required (R99), the confirmation a closing needs (R103), the LOAD_LIMIT and TAMPER members (R122, R139), the expected
phase set (R109). -/

namespace Sys2Proof.Machine

/-! ### The account's flags -/

/-- The credit state, row by row of R19. -/
def creditStateOf (balance : Int) (ecOwed lowCredit friendlyDebtLimit : Nat) (friendly : Bool) : CreditState :=
  if 0 < balance then
    if 0 < ecOwed then .emergency
    else if (1000 * lowCredit : Int) < balance then .normal
    else .low
  else if friendly && decide (-(1000 * friendlyDebtLimit : Int) < balance) then .friendlyHold
  else .exhausted

/-- EC available (R13). -/
def ecAvailableOf (balance : Int) (ecOwed ecAmount ecThreshold : Nat) : Bool :=
  decide (0 < ecAmount) && decide (ecOwed = 0) && decide (balance < (1000 * ecThreshold : Int))

/-- NO_CREDIT (R20). -/
def noCreditOf (balance : Int) : Bool := decide (balance ≤ 0)

/-- DEBT_LIMIT (R20). -/
def debtLimitOf (balance : Int) (friendlyDebtLimit : Nat) : Bool :=
  decide (balance ≤ -(1000 * friendlyDebtLimit : Int))

/-! ### The supply decision -/

/-- The disconnect set as the controller reads it (R50, R99). -/
def Part.disconnectSet (u : Part) : CauseSet :=
  { u.bankValue bankDisconnectSet CauseSet.none with remoteOrder := true }

/-- The friendly set as the controller reads it (R50, R99). -/
def Part.friendlySet (u : Part) : CauseSet :=
  { u.bankValue bankFriendlySet CauseSet.none with remoteOrder := false }

/-- A cause counts: it is set, it is in the disconnect set, and it is not excused (R99). -/
def counts (set inDisconnect inFriendly friendly : Bool) : Bool := set && inDisconnect && !(friendly && inFriendly)

/-- The causes that count (R99). -/
def Part.counting (u : Part) : CauseSet :=
  let c := u.supply.causes
  let d := u.disconnectSet
  let f := u.friendlySet
  let friendly := u.tariff.friendly
  { noCredit := counts c.noCredit d.noCredit f.noCredit friendly,
    debtLimit := counts c.debtLimit d.debtLimit f.debtLimit friendly,
    loadLimit := counts c.loadLimit d.loadLimit f.loadLimit friendly,
    tamper := counts c.tamper d.tamper f.tamper friendly,
    remoteOrder := counts c.remoteOrder d.remoteOrder f.remoteOrder friendly }

/-- A closing from OPEN needs the customer's confirmation (R103). -/
def confirmationRequired (r : OpeningRecord) (reconnectConfirm : Bool) : Bool :=
  r.causes.loadLimit || r.causes.tamper || r.causes.remoteOrder || r.test ||
    ((r.causes.noCredit || r.causes.debtLimit) && reconnectConfirm)

/-- The expected phase set (R109): the last accepted report's set, or all three phases in PULSE_ONLY, before the first
report, and when that set is empty. -/
def Part.expectedPhases (u : Part) : PhaseSet :=
  match u.recon.mode, u.supply.reportedPhases with
  | .reported, some p => if p.any then p else PhaseSet.all
  | .reported, none => PhaseSet.all
  | .pulseOnly, _ => PhaseSet.all

/-! ### Members of the cause set -/

/-- LOAD_LIMIT follows from the limiter's own state (R122). -/
def Load.member (l : Load) : Bool := l.lockoutUntil.isSome || l.extended

/-- A cause holds TAMPER: its policy is DISCONNECT and it is latched or PENDING from LATCHED_ABSENT (R139). -/
def Part.holdsTamper (u : Part) (c : TamperCause) : Bool :=
  decide (u.policy c = .disconnect) && (u.tamperRecord c).state.latched

/-- The TAMPER member as R139 evaluates it. -/
def Part.tamperMember (u : Part) : Bool := allCauses.any u.holdsTamper

/-- CODE_ATTACK: either port is locked out (R94). -/
def Codes.attacked (c : Codes) : Bool := c.kPort.lockedUntil.isSome || c.sPort.lockedUntil.isSome

end Sys2Proof.Machine
end

