-- ==== Sys2Proof/Machine/Timers.lean ====
section
/-! DEFINITION. The timers of the part: when the time of each expiry has come, and what becomes of an expiry that another
event of its moment overtakes (log 53). -/

namespace Sys2Proof.Machine

/-! ### Link silence (R173) -/

/-- The exponent that sets a link's period. -/
def ConfigItems.linkExponent (c : ConfigItems) : Link → Nat
  | .m => c.nm
  | .k => c.nk

/-- The period T of a link in ticks (R173). -/
def Part.linkPeriod (u : Part) (l : Link) : Nat := Config.milliseconds (250 * 2 ^ u.config.live.linkExponent l)

/-- The silence of a link. -/
def Part.silence (u : Part) (l : Link) : Nat := u.timeBase - (u.links.get l).lastFrame

/-- An UP link's silence has reached T (R173). -/
def Part.suspectDue (u : Part) (l : Link) : Bool :=
  decide ((u.links.get l).state = .up) && decide (u.linkPeriod l ≤ u.silence l)

/-- A SUSPECT link's silence has reached 4 × T (R173). -/
def Part.lostDue (u : Part) (l : Link) : Bool :=
  decide ((u.links.get l).state = .suspect) && decide (4 * u.linkPeriod l ≤ u.silence l)

/-! ### Other times -/

/-- A receiver measures silence (R169). -/
def Receive.measuresSilence : Receive → Bool
  | .length | .body _ _ _ | .check _ _ _ | .drain _ => true
  | .stopped | .held | .hunt | .busy _ => false

/-- The silence of a port has lasted more than 20 ms (R169). -/
def Part.silenceDue (u : Part) (p : Port) : Bool :=
  (u.receivers.get p).state.measuresSilence && u.passed (some (u.receivers.get p).lastCharacter) (Config.milliseconds 20)

/-- A stage that goes on after PFW (R119). -/
def Stage.outlastsPfw : Stage → Bool
  | .pulse | .settle => true
  | .handshake | .zxWait | .delay | .verify => false

/-- The operation in progress stands in this stage, whose time in ticks has passed (R106 to R109, R119). -/
def Part.stageDue (u : Part) (stage : Stage) (ticks : Operation → Nat) : Bool :=
  match u.supply.relay with
  | .settled _ => false
  | .operating op =>
    decide (op.stage = stage) && (u.running || (u.active && stage.outlastsPfw)) && u.passed (some op.stageAt) (ticks op)

/-- The length of a day that trips are kept for, in ticks (R126). -/
def tripLife : Nat := Config.seconds 86400

/-- A cause whose timers run now: the covers always, the others while the main domain runs (R142). -/
def Part.timesCause (u : Part) (c : TamperCause) : Bool := (causeCover c).isSome || u.mainOn

/-- The debounce time of a record has passed (R136, R142). -/
def Part.debounceDue (u : Part) (c : TamperCause) : Bool :=
  let r := u.tamperRecord c
  match r.state with
  | .pending _ => u.timesCause c && u.reached r.timer && r.condition
  | .quiet | .present | .latchedAbsent => false

/-- The release time of a record has passed (R137, R142). -/
def Part.releaseDue (u : Part) (c : TamperCause) : Bool :=
  let r := u.tamperRecord c
  match r.state with
  | .present => u.timesCause c && u.reached r.timer && !r.condition
  | .quiet | .pending _ | .latchedAbsent => false

/-- The interval counter stands at its last value, so that a tick wraps it (R30). -/
def Pulse.atWrap (p : Pulse) : Bool := p.counter = 16777215

/-- The clock stands at its last value, so that a second wraps it (R66). -/
def Clock.atWrap (c : Clock) : Bool := c.count = 4294967295

/-- The time base has just completed a second (R148). -/
def Part.atSecond (u : Part) : Bool := decide (0 < u.timeBase) && decide (u.timeBase % 32768 = 0)

/-- The time of an expiry has come. An event that is no expiry has no time. -/
def Part.hasCome (u : Part) : Instr → Bool
  | .codeLockoutExpiry .k => u.reached u.codes.kPort.lockedUntil
  | .codeLockoutExpiry .s => u.reached u.codes.sPort.lockedUntil
  | .tripAgeOut => u.passed u.load.trips.head? tripLife
  | .loadLockoutExpiry => u.active && u.reached u.load.lockoutUntil
  | .tamperDebounceExpiry c => u.debounceDue c
  | .tamperReleaseExpiry c => u.releaseDue c
  | .handshakeTimeout => u.stageDue .handshake (fun op => Config.milliseconds (125 * 2 ^ op.mh))
  | .zxTimeout => u.stageDue .zxWait (fun _ => Config.milliseconds 100)
  | .relayDelayEnd => u.stageDue .delay (fun op => Config.microseconds op.relayDelay)
  | .coilPulseEnd => u.stageDue .pulse (fun op => Config.milliseconds op.pulseWidth)
  | .settleEnd => u.stageDue .settle (fun op => Config.milliseconds op.settleTime)
  | .blankingEnd => u.running && u.reached u.supply.blankingUntil
  | .bypassAriseTimerExpiry => u.active && u.passed u.supply.bypassSince (Config.seconds 5)
  | .bypassEndTimerExpiry => u.active && u.passed u.supply.bypassGoneSince (Config.seconds 5)
  | .jumpTimerExpiry => u.running && u.passed u.supply.jumpSince (Config.seconds 5)
  | .retryTimerExpiry => u.running && u.reached u.supply.retryAt
  | .receiveSilenceTimeout p => u.running && u.silenceDue p
  | .linkSuspect l => u.running && u.suspectDue l
  | .linkLost l => u.running && u.lostDue l
  | .windowTimeClose => u.running && u.passed (u.recon.window.map Window.openedAt) (Config.seconds 900)
  | .hourlyTimerExpiry => u.running && u.reached u.store.hourlyAt
  | .loadEvaluation => u.running && u.reached (some u.load.nextEvaluation)
  | .intervalCounterWrap => u.running && u.pulse.atWrap
  | .clockWrap => u.atSecond && u.clock.atWrap
  | _ => false

/-! ### Events of one moment (log 53) -/

/-- An expiry has its effect, unless an event of its moment has overtaken it. -/
def Part.unlessOvertaken (i : Instr) (f : Part → Part) (u : Part) : Part :=
  if u.overtaken.contains i then { u with overtaken := u.overtaken.erase i } else f u

/-- The part `v` that an event has made of `u` while `waiting` waits: an expiry whose time had come, and which the event has
given another time or none, is overtaken. -/
def Part.overtaking (u : Part) (waiting : List Instr) (v : Part) : Part :=
  { v with overtaken :=
      v.overtaken ++ waiting.filter (fun i => u.hasCome i && !v.hasCome i && !v.overtaken.contains i) }

end Sys2Proof.Machine
end

