-- ==== Sys2Proof/Machine/Supply.lean ====
section
/-! DEFINITION. The supply switch controller: the decision and what it does (R100, R102, R103), the start of an operation
(R105, R106) and the watch over the contacts (R115 to R117), with `answer` and `expire`, in which every meaning of a command
ends. The operation's own events stand in SwitchEvents.lean. -/

namespace Sys2Proof.Machine

/-- The logical supply state takes a new last settled state; a change sets the checkpoint-due flag (R101). -/
def Part.putLogical (l : Logical) (u : Part) : Part :=
  Part.markDueIf (u.supply.logical != l) { u with supply := { u.supply with logical := l } }

/-- The opening record takes a new value; a change sets the checkpoint-due flag (R101). -/
def Part.putOpeningRecord (r : OpeningRecord) (u : Part) : Part :=
  Part.markDueIf (u.supply.record != r) { u with supply := { u.supply with record := r } }

/-- The relay settles, and the logical supply state records it (R102, R110, R111). -/
def Part.settleRelay (st : Settled) (u : Part) : Part :=
  Part.putLogical (.settled st) { u with supply := { u.supply with relay := .settled st } }

/-- Counting causes enter the opening record (R103). -/
def Part.enterRecord (c : CauseSet) (u : Part) : Part :=
  u.putOpeningRecord { u.supply.record with causes := u.supply.record.causes.union c }

/-- The opening record at the start of an operation: a closing empties it, an opening enters the causes that count, a TEST
opening also sets the test mark (R103, R105, R118). -/
def Part.recordAtStart (dir : Direction) (reason : Reason) (u : Part) : OpeningRecord :=
  match dir with
  | .closing => OpeningRecord.empty
  | .opening =>
    { causes := u.supply.record.causes.union u.counting, test := u.supply.record.test || decide (reason = .test) }

/-- A closing that leaves OPEN or AWAITING_CONFIRM ends a present BYPASS at that moment (R116). -/
def Part.leaveBypassWatch (dir : Direction) (u : Part) : Part :=
  match dir, u.supply.relay with
  | .closing, .settled .opened => if u.condition .bypass then u.conditionEnds .bypass else u
  | .closing, .settled .awaitingConfirm => if u.condition .bypass then u.conditionEnds .bypass else u
  | _, _ => u

/-- The awaited set: participants whose link is not LOST (R106). -/
def Part.awaitedSet (u : Part) : PerLink Bool :=
  { m := u.config.live.participants.m && u.links.m.state != .lost,
    k := u.config.live.participants.k && u.links.k.state != .lost }

/-- An operation with the configuration items as they stand (R105). -/
def Part.newOperation (dir : Direction) (reason : Reason) (awaited : PerLink Bool) (u : Part) : Operation :=
  { direction := dir, reason := reason,
    stage := if awaited.m || awaited.k then .handshake else .zxWait,
    attempt := 1, synchronised := false, awaited := awaited, answered := ⟨false, false⟩, mh := u.config.live.mh,
    relayDelay := u.config.live.relayDelay, pulseWidth := u.config.live.pulseWidth,
    settleTime := u.config.live.settleTime, stageAt := u.timeBase }

/-- A switching operation starts (R105, R106). After PFW no operation starts (R119). A TEST operation awaits nobody and so
starts in ZX_WAIT; the retry timer is removed as FAULT_STUCK_CLOSED is left (R113). -/
def Part.startOperation (dir : Direction) (reason : Reason) (u : Part) : Part :=
  if u.running then
    let record := u.recordAtStart dir reason
    let awaited := if reason = .test then ⟨false, false⟩ else u.awaitedSet
    let u := u.leaveBypassWatch dir
    let u := u.putOpeningRecord record
    let u := u.putLogical .inProgress
    let u := { u with supply := { u.supply with
      relay := .operating (u.newOperation dir reason awaited), retryAt := none } }
    (u.placeIf awaited.m .m (.supplyPending dir reason)).placeIf awaited.k .k (.supplyPending dir reason)
  else u

/-- OPEN with open-required false: AWAITING_CONFIRM, or a closing with reason CLEARED (R103). -/
def Part.leaveOpen (u : Part) : Part :=
  if confirmationRequired u.supply.record (u.bankValue bankReconnectConfirm false) then
    (u.settleRelay .awaitingConfirm).place (.awaitingConfirm u.supply.record)
  else u.startOperation .closing .cleared

/-- What a settled state does on the decision (R102, R103). -/
def Part.actOn (st : Settled) (c : CauseSet) (u : Part) : Part :=
  match st with
  | .closed => if c.any then u.startOperation .opening .decision else u
  | .opened => if c.any then u.enterRecord c else (u.enterRecord c).leaveOpen
  | .awaitingConfirm => if c.any then (u.enterRecord c).settleRelay .opened else u
  | .stuckClosed => u.enterRecord c
  | .stuckOpen => u

/-- The controller recomputes open-required and acts on it (R100, R102). While an operation runs the decision is held;
before the decision of main start, and while the main domain is stopped, there is none (R98, R120). -/
def Part.recompute (u : Part) : Part :=
  if u.active then
    match u.supply.relay with
    | .operating _ => u
    | .settled st =>
      Part.actOn st u.counting { u with supply := { u.supply with openRequired := u.counting.any } }
  else u

/-- The copy of the cause set takes new members; on a change the controller recomputes (R98, R100). -/
def Part.handCauses (c : CauseSet) (u : Part) : Part :=
  if u.supply.causes = c then u else Part.recompute { u with supply := { u.supply with causes := c } }

/-! ### The watch over the contacts (R115 to R117) -/

/-- A qualification timer: it keeps its start while its condition lasts, starts when it begins, and is reset otherwise. -/
def qualify (holds : Bool) (since : Option Nat) (now : Nat) : Option Nat :=
  if holds then some (since.getD now) else none

/-- The relay rests in OPEN or AWAITING_CONFIRM. -/
def Relay.watchedForBypass : Relay → Bool
  | .settled .opened | .settled .awaitingConfirm => true
  | .settled .closed | .settled .stuckClosed | .settled .stuckOpen | .operating _ => false

/-- The relay rests in CLOSED. -/
def Relay.watchedForJump : Relay → Bool
  | .settled .closed => true
  | .settled .opened | .settled .awaitingConfirm | .settled .stuckClosed | .settled .stuckOpen | .operating _ => false

/-- The three timers after an event: outside blanking, sense on any phase runs the bypass timer while BYPASS is absent,
sense on no phase runs the end timer while it is present, and in CLOSED absence on every expected phase runs the jump
timer. -/
def Part.watchContacts (u : Part) : Part :=
  let clear := u.active && u.supply.blankingUntil.isNone
  let any := u.inputs.sense.any
  let bypass := u.condition .bypass
  let watched := clear && u.supply.relay.watchedForBypass
  { u with supply := { u.supply with
      bypassSince := qualify (watched && any && !bypass) u.supply.bypassSince u.timeBase,
      bypassGoneSince := qualify (watched && !any && bypass) u.supply.bypassGoneSince u.timeBase,
      jumpSince := qualify (clear && u.supply.relay.watchedForJump && u.inputs.sense.disjoint u.expectedPhases)
        u.supply.jumpSince u.timeBase } }

/-- The state after an event has left this part: the contact watch is brought up to date (R116, R117), and the expiries of
this moment that the event overtakes are noted (log 53). -/
def State.becomes (s : State) (u : Part) : State := { s with part := s.part.overtaking s.pending u.watchContacts }

/-- The part after an event, as the outcome of a command. -/
def answer (s : State) (f : Part → Part) : Host.Outcome State Fault Refusal := .next (s.becomes (f s.part))

/-- The part after an expiry, which does nothing when an event of its moment has overtaken it (log 53). -/
def expire (i : Instr) (s : State) (f : Part → Part) : Host.Outcome State Fault Refusal :=
  answer s (Part.unlessOvertaken i f)

end Sys2Proof.Machine
end

