-- ==== Sys2Proof/Machine/Tamper.lean ====
section
/-! DEFINITION. The tamper monitor: a condition arising (R135), a cause becoming present (R136), the TAMPER member (R139),
clearing (R140), and what PFW and main start do to the records (R141, R144). -/

namespace Sys2Proof.Machine

/-- The monitor evaluates TAMPER and its copy in the cause set follows, with no decision yet (R139). -/
def Part.evaluateTamperQuietly (u : Part) : Part :=
  { u with tamper := { u.tamper with member := u.tamperMember },
           supply := { u.supply with causes := { u.supply.causes with tamper := u.tamperMember } } }

/-- The monitor evaluates TAMPER and hands a change to the supply switch controller (R139). -/
def Part.evaluateTamper (u : Part) : Part :=
  let member := u.tamperMember
  Part.handCauses { u.supply.causes with tamper := member } { u with tamper := { u.tamper with member := member } }

/-- The record of a cause that becomes present: its count rises and its times are taken (R136). -/
def TamperRecord.presented (r : TamperRecord) (now : Stamp) : TamperRecord :=
  { r with
    state := .present, count := min 65535 (r.count + 1), first := some (r.first.getD now), last := some now,
    timer := none }

/-- A cause becomes present with the main domain at work: entry, notice, TAMPER, checkpoint (R136). -/
def Part.presentEvidence (c : TamperCause) (u : Part) : Part :=
  let r := u.tamperRecord c
  let policy := u.policy c
  let u := u.journal (.tamperPresent c r.count policy)
  let u := if policy = .record then u else u.place (.tamperRaised c r.count policy r.last)
  u.evaluateTamper.requestCheckpoint .tamper

/-- A cover becomes present on battery: the buffer and the checkpoint-due flag stand in for entry, notice and checkpoint;
the notice waits for main start behind the raised-on-battery mark (R142, R143). -/
def Part.presentOnBattery (cover : Cover) (u : Part) : Part :=
  let c := coverCause cover
  let u := u.putRecord c { u.tamperRecord c with raisedOnBattery := true }
  let u := (u.bufferEvent cover true).markDue
  if u.mainOn then u.evaluateTamper else u

/-- A cause becomes present (R136, R142). -/
def Part.becomePresent (c : TamperCause) (u : Part) : Part :=
  let u := u.putRecord c ((u.tamperRecord c).presented u.stamp)
  match causeCover c with
  | some cover => if u.onBattery then u.presentOnBattery cover else u.presentEvidence c
  | none => u.presentEvidence c

/-- A record enters PENDING, and for a cause without debounce becomes present in the same event (R135). -/
def Part.enterPending (c : TamperCause) (priorLatched : Bool) (u : Part) : Part :=
  let r := u.tamperRecord c
  if c.hasDebounce then
    u.putRecord c { r with state := .pending priorLatched, timer := some (u.timeBase + debounceTicks c) }
  else u.becomePresent c

/-- After PFW an arising of causes 2, 6 and 8 changes the condition alone (R141). -/
def droppedAtPfw : TamperCause → Bool
  | .magnetic | .metrologySilent | .neutralMissing => true
  | .terminalCover | .mainCover | .bypass | .metrologyDivergence | .pulseIntegrity | .reverseEnergy
  | .interfaceLinkLost | .codeAttack | .retentionLost | .storeFault => false

/-- The condition of a cause becomes true (R135). -/
def Part.conditionArises (c : TamperCause) (u : Part) : Part :=
  let r := { u.tamperRecord c with condition := true }
  let u := u.putRecord c r
  if u.power = .failing && droppedAtPfw c then u
  else
    match r.state with
    | .quiet => u.enterPending c false
    | .latchedAbsent => u.enterPending c true
    | .pending _ => u
    | .present => u.putRecord c { r with timer := none }

/-- The input of a cause gives its condition; an event that leaves it as it stands has no effect (R133). An ending is
followed by the evaluation of TAMPER that R139 asks for when a record returns to QUIET. -/
def Part.setCondition (c : TamperCause) (b : Bool) (u : Part) : Part :=
  if u.condition c = b then u
  else if b then u.conditionArises c
  else
    let u := u.conditionEnds c
    if u.mainOn then u.evaluateTamper else u

/-! ### Clearing (R140) -/

/-- A cause named by the code becomes QUIET when its record is LATCHED_ABSENT. -/
def Part.clearCause (u : Part) (c : TamperCause) : Part :=
  match (u.tamperRecord c).state with
  | .latchedAbsent => u.putRecord c { u.tamperRecord c with state := .quiet }
  | .quiet | .pending _ | .present => u

/-- Step 3 of a TAMPER_CLEAR naming a set of causes: one entry names those that became QUIET, then TAMPER is evaluated. -/
def Part.clearCauses (causes : List TamperCause) (u : Part) : Part :=
  let cleared := causes.filter (fun c => (u.tamperRecord c).state = .latchedAbsent)
  let u := causes.foldl Part.clearCause u
  let u := if cleared.isEmpty then u else u.journal (.tamperCleared cleared)
  u.evaluateTamper

/-! ### Power events (R141, R144) -/

/-- At PFW a PENDING record of cause 2, 6 or 8 returns to its prior state (R141). -/
def Part.dropPending (u : Part) (c : TamperCause) : Part :=
  match (u.tamperRecord c).state with
  | .pending priorLatched =>
    u.putRecord c
      { u.tamperRecord c with state := if priorLatched then .latchedAbsent else .quiet, timer := none }
  | .quiet | .present | .latchedAbsent => u

/-- The tamper monitor at PFW (R141). -/
def Part.tamperAtPfw (u : Part) : Part :=
  [TamperCause.magnetic, .metrologySilent, .neutralMissing].foldl Part.dropPending u

/-- When the main domain stops, the release timer of MAGNETIC stops with it and the record stays PRESENT (R141). A PENDING
record, which only a stop without PFW finds, stays PENDING without its timer (log 57). -/
def Part.tamperAtStop (u : Part) : Part :=
  u.putRecord .magnetic { u.tamperRecord .magnetic with timer := none }

/-- One event of the battery event buffer, submitted with its own time and count and the battery mark (R144 step 1). The
policy is the one in force at the flush (log 47). -/
def Part.flushEvent (u : Part) (e : BatteryEvent) : Part :=
  let c := coverCause e.cover
  let detail := if e.opened then JournalDetail.tamperPresent c e.count (u.policy c)
    else JournalDetail.tamperAbsent c e.count
  u.submitJournal { stamp := e.time, battery := true, balance := u.account.balance, detail := detail }

/-- The battery event buffer is flushed and emptied (R144 step 1). -/
def Part.flushBuffer (u : Part) : Part :=
  let u := u.tamper.buffer.foldl Part.flushEvent u
  { u with tamper := { u.tamper with buffer := [] } }

/-- The conditions that begin false at main start, in the order of R144 step 2. -/
def mainDomainCauses : List TamperCause :=
  [.bypass, .neutralMissing, .interfaceLinkLost, .metrologySilent, .metrologyDivergence, .pulseIntegrity, .reverseEnergy]

/-- One main-domain condition becomes false (R144 step 2). -/
def Part.endMainDomainCondition (u : Part) (c : TamperCause) : Part := u.setCondition c false

/-- The magnetic sensor is read at main start (R144 step 3): the record follows the sensor whatever the condition was. -/
def Part.readMagnetic (u : Part) : Part :=
  if u.inputs.magneticField then u.conditionArises .magnetic
  else u.conditionEnds .magnetic

/-- TAMPER_RAISED for a cause marked raised on battery, and its mark cleared (R144 step 4). -/
def Part.raiseFromBattery (u : Part) (c : TamperCause) : Part :=
  let r := u.tamperRecord c
  if r.raisedOnBattery then
    let u := u.putRecord c { r with raisedOnBattery := false }
    let policy := u.policy c
    if policy = .record then u else u.place (.tamperRaised c r.count policy r.last)
  else u

/-- Steps 2 to 4 of R144; step 4 takes the marked causes in the order of their numbers (log 56). -/
def Part.tamperAtMainStart (u : Part) : Part :=
  let u := mainDomainCauses.foldl Part.endMainDomainCondition u
  let u := u.readMagnetic
  allCauses.foldl Part.raiseFromBattery u

end Sys2Proof.Machine
end

