-- ==== Sys2Proof/Machine/Account.lean ====
section
/-! DEFINITION. The account unit: the derivation of its credit state (R3, R13, R19 to R21), energy charges (R4, R5), the
standing charge (R9), top-ups (R10, R11), grants (R14) and the administrative codes (R16 to R18). -/

namespace Sys2Proof.Machine

/-! ### The derivation -/

/-- The notices of a derivation, from the credit state and availability held before (R13, R21). -/
def Part.creditNotices (before : Account) (u : Part) : Part :=
  let a := u.account
  let st := a.creditState
  let u := if a.ecAvailable && !before.ecAvailable then u.place (.ecAvailable (u.bankValue bankEcAmount 0) a.balance) else u
  let u := if st = .low && before.creditState != .low then u.place (.creditLow st a.balance) else u
  let u := if st = .exhausted && before.creditState != .exhausted then u.place (.creditExhausted st a.balance) else u
  if (st = .friendlyHold) = (before.creditState = .friendlyHold) then u else u.place (.friendlyChanged st a.balance)

/-- The account with the credit state and EC availability that its fields, the bank and the friendly flag give (R13, R19). -/
def Part.derivedAccount (u : Part) : Account :=
  let a := u.account
  { a with
    creditState := creditStateOf a.balance a.ecOwed (u.bankValue bankLowCredit 0) (u.bankValue bankFriendlyDebtLimit 0)
      u.tariff.friendly,
    ecAvailable := ecAvailableOf a.balance a.ecOwed (u.bankValue bankEcAmount 0) (u.bankValue bankEcThreshold 0) }

/-- The account re-derives its credit state, EC availability and causes and places its notices; the copy in the cause set
follows, with no decision yet (R3, R13, R19 to R21; log 15). -/
def Part.deriveQuietly (u : Part) : Part :=
  let a := u.account
  let noCredit := noCreditOf a.balance
  let overDebt := debtLimitOf a.balance (u.bankValue bankFriendlyDebtLimit 0)
  let u := u.putAccount u.derivedAccount
  Part.creditNotices a
    { u with
      accountCauses := { noCredit := noCredit, debtLimit := overDebt },
      supply := { u.supply with causes := { u.supply.causes with noCredit := noCredit, debtLimit := overDebt } } }

/-- The derivation with its hand-over to the supply switch controller, which recomputes when a member changed (R100). -/
def Part.derive (u : Part) : Part :=
  let v := u.deriveQuietly
  if v.supply.causes = u.supply.causes then v else v.recompute

/-! ### Charges -/

/-- The lower bound of the balance: -2^47 (R1). -/
def minBalance : Int := -140737488355328

/-- The balance after a charge of `c` cmu (R5). -/
def chargedBalance (b : Int) (c : Nat) : Int := if b - c < minBalance then minBalance else b - c

/-- The part of a charge that is not taken at the lower bound (R5). -/
def notTaken (b : Int) (c : Nat) : Nat := if b - c < minBalance then (c - (b - minBalance)).toNat else 0

/-- After a charge of `c` cmu: the derivation, then a STEP checkpoint when charges since checkpoint has reached the
checkpoint step (R3, R23), in an order that no rule gives (log 38). A charge of 0 cmu requests none (log 45). -/
def Part.afterCharge (c : Nat) (u : Part) : Part :=
  let u := u.derive
  match u.activeBank with
  | none => u
  | some i =>
    if c != 0 && decide (1000 * bankCheckpointStep i ≤ u.account.chargesSinceCheckpoint) then u.requestCheckpoint .step
    else u

/-- N = e × p + r (R4). -/
def Part.chargeNumerator (u : Part) (e : Nat) : Nat := e * u.price + u.account.residue

/-- The charge in cmu for an energy of `e` mWh (R4). -/
def Part.chargeFor (u : Part) (e : Nat) : Nat := u.chargeNumerator e / 1000000

/-- The account after an energy charge of `e` mWh (R4, R5, R7). -/
def Part.chargedAccount (u : Part) (e : Nat) (shortfall : Bool) : Account :=
  let a := u.account
  let c := u.chargeFor e
  { a with
    balance := chargedBalance a.balance c,
    residue := u.chargeNumerator e % 1000000,
    energyCharged := a.energyCharged + c,
    uncollected := a.uncollected + notTaken a.balance c,
    energyPerBand := a.energyPerBand.setIfInBounds u.tariff.band ((a.energyPerBand[u.tariff.band]?).getD 0 + e),
    shortfallEnergy := if shortfall then a.shortfallEnergy + e else a.shortfallEnergy,
    chargesSinceCheckpoint := a.chargesSinceCheckpoint + c }

/-- An energy charge of `e` mWh at the current price (R4). -/
def Part.energyCharge (e : Nat) (shortfall : Bool) (u : Part) : Part :=
  Part.afterCharge (u.chargeFor e) (u.putAccount (u.chargedAccount e shortfall))

/-- The account after a standing charge of `c` cmu (R9). -/
def Account.standing (a : Account) (c : Nat) : Account :=
  { a with
    balance := chargedBalance a.balance c,
    uncollected := a.uncollected + notTaken a.balance c,
    standingCharged := a.standingCharged + c,
    chargesSinceCheckpoint := a.chargesSinceCheckpoint + c }

/-- The day's standing charge of `c` cmu (R9); a charge of 0 changes nothing. -/
def Part.standingCharge (c : Nat) (u : Part) : Part :=
  if c = 0 then u else Part.afterCharge c (u.putAccount (u.account.standing c))

/-! ### Top-ups and grants -/

/-- The division of a top-up of `v` minor units (R10). -/
def Account.split (a : Account) (v : Nat) : TopUpSplit :=
  let e := min v a.ecOwed
  let d := min a.debt ((v - e) * a.debtRate / 100)
  { e := e, d := d, q2 := v - e - d }

/-- The account after an accepted top-up (R10). -/
def Account.toppedUp (a : Account) (x : TopUpSplit) : Account :=
  { a with
    ecOwed := a.ecOwed - x.e, ecRepaidTotal := a.ecRepaidTotal + x.e,
    debt := a.debt - x.d, debtRecoveredTotal := a.debtRecoveredTotal + x.d,
    balance := a.balance + 1000 * x.q2, creditedToBalance := a.creditedToBalance + 1000 * x.q2 }

/-- The balance a top-up would give stands at or below the ceiling (R11). -/
def Part.underCeiling (u : Part) (x : TopUpSplit) : Bool :=
  decide (u.account.balance + 1000 * x.q2 ≤ (1000 * u.bankValue bankCeiling 0 : Nat))

/-- An emergency credit grant of `amount` minor units (R14). -/
def Account.granted (a : Account) (amount : Nat) : Account :=
  { a with
    balance := a.balance + 1000 * amount, ecOwed := amount, ecGrantedTotal := a.ecGrantedTotal + 1000 * amount }

/-- CREDIT_CLEAR (R16). -/
def Account.cleared (a : Account) : Account :=
  { a with clearAdjustment := a.clearAdjustment - a.balance, balance := 0, ecOwed := 0 }

end Sys2Proof.Machine
end

