-- ==== Sys2Proof/Machine/CodeQueue.lean ====
section
/-! DEFINITION. The code queue (R77), the head entry (R78), the results (R91), and the marking of serials (R81, R82). -/

namespace Sys2Proof.Machine

/-- The stage of the entry that is now at the head: screening, with the key slots and MID as they stand at this moment
(R78). -/
def headOf (queue : List CodeEntry) (slots : Vector KeySlot 4) (mid : Nat) : Option HeadStage :=
  match queue with
  | [] => none
  | _ :: _ => some (.screening slots mid)

/-- The head entry takes a stage (R78). -/
def Part.setHead (h : HeadStage) (u : Part) : Part := { u with codes := { u.codes with head := some h } }

/-- The head entry leaves the queue, and the entry behind it becomes the head (R77). -/
def Part.popHead (u : Part) : Part :=
  let rest := u.codes.queue.drop 1
  { u with codes := { u.codes with queue := rest, head := headOf rest u.codes.slots u.config.live.mid } }

/-- A result is settled: CODE_RESULT is placed on the head's origin port and the entry leaves the queue (R77, R91). -/
def Part.settleHead (result : CodeResult) (code : Option DecodedCode) (credit : Option (TopUpSplit × Int)) (u : Part) :
    Part :=
  match u.codes.queue with
  | [] => u
  | e :: _ => Part.popHead (u.placeOn e.port (.codeResult result code credit))

/-- An entry joins the tail of the queue; in an empty queue it becomes the head at once (R77). -/
def Part.joinQueue (e : CodeEntry) (u : Part) : Part :=
  let queue := u.codes.queue ++ [e]
  let head := match u.codes.queue with
    | [] => headOf queue u.codes.slots u.config.live.mid
    | _ :: _ => u.codes.head
  { u with codes := { u.codes with queue := queue, head := head } }

/-- A serial enters the live used-code list (R81); the list is carried in every checkpoint. -/
def Part.markSerial (s : Nat) (u : Part) : Part :=
  Part.markDue { u with codes := { u.codes with serials := u.codes.serials.mark s } }

/-- The commit of an applied code ends (R90): the result carries E, D and Q2 and the present balance for a CREDIT. -/
def Part.endCommit (stored : Bool) (u : Part) : Part :=
  match u.codes.head with
  | some (.commit code split) =>
    u.settleHead (if stored then .accepted else .acceptedStoreFault) (some code)
      (split.map (fun x => (x, u.account.balance)))
  | some (.screening _ _) | some (.activating _) | none => u

/-- The TARIFF_NOW at the head gets its result (R62, R88). -/
def Part.endActivating (result : CodeResult) (u : Part) : Part :=
  match u.codes.head with
  | some (.activating code) => u.settleHead result (some code) none
  | some (.screening _ _) | some (.commit _ _) | none => u

/-- At the completion of its activation a TARIFF_NOW spends its serial and is journaled (R62, R82, R92). The serial stands
in the checkpoint that completed the activation, so it sets no flag here (log 33). -/
def Part.spendActivating (u : Part) : Part :=
  match u.codes.head with
  | some (.activating code) =>
    Part.journal (.codeAccepted code.kind code.serial code.value .s)
      { u with codes := { u.codes with serials := u.codes.serials.mark code.serial } }
  | some (.screening _ _) | some (.commit _ _) | none => u

/-- At PFW every entry that has not reached its commit is discarded (R95). -/
def Part.discardCodes (u : Part) : Part :=
  match u.codes.head with
  | some (.commit _ _) | some (.activating _) =>
    { u with codes := { u.codes with queue := u.codes.queue.take 1 } }
  | some (.screening _ _) | none => { u with codes := { u.codes with queue := [], head := none } }

end Sys2Proof.Machine
end

