-- ==== Sys2Proof/Machine/Measurement.lean ====
section
/-! DEFINITION. The pulse capture unit (R28 to R35) and the reconciliation unit (R36 to R47). -/

namespace Sys2Proof.Machine

/-! ### Power and the estimate -/

/-- The power for an interval of `t` ticks at the pulse weight `w` (R32). -/
def powerOf (w t : Nat) : Nat := if t = 0 then Config.powerOfNoTicks w else w * 589824 / (5 * t)

/-- The interval that a rising-edge capture gives (R31). -/
def RisingCapture.interval (c : RisingCapture) : Option Nat :=
  if c.unmeasurable then none else if c.overflow then some (16777216 + c.count) else some c.count

/-- The ticks elapsed since the reference (R35). -/
def Pulse.elapsed (p : Pulse) : Nat := if p.overflow then 16777216 + p.counter else p.counter

/-- The value a read of the estimate supplies (R35). -/
def Part.suppliedEstimate (u : Part) : Nat :=
  let p := u.pulse
  if p.unmeasurable then 0
  else
    match p.lastInterval with
    | none => 0
    | some t => if p.elapsed ≤ t then p.estimate else powerOf u.config.live.pulseWeight p.elapsed

/-- A read of the estimate stores what it supplies (R35). -/
def Part.readEstimate (u : Part) : Part := { u with pulse := { u.pulse with estimate := u.suppliedEstimate } }

/-! ### Windows -/

/-- A window opens with every item 0 (R39). -/
def Part.openWindow (u : Part) : Part :=
  { u with recon := { u.recon with
      window := some { ep := 0, er := 0, exportTotal := 0, malformed := 0, openedAt := u.timeBase } } }

/-- The tolerance of a window (R40). -/
def Part.windowTolerance (u : Part) (x : Window) : Nat :=
  max (x.ep * u.bankValue bankTolerance 3 / 100) (2 * u.config.live.pulseWeight)

/-- The shortfall of a window: D when it exceeds the tolerance, at most 1,000,000 mWh (R40). -/
def Part.windowShortfall (u : Part) (x : Window) : Option Nat :=
  if x.er + u.windowTolerance x < x.ep then some (min 1000000 (x.ep - x.er)) else none

/-- The window is divergent in either direction (R40). -/
def Part.windowDivergent (u : Part) (x : Window) : Bool :=
  decide (x.er + u.windowTolerance x < x.ep) || decide (x.ep + u.windowTolerance x < x.er)

/-- The shortfall of a closing window is charged (R40, R43). -/
def Part.chargeShortfall (x : Window) (u : Part) : Part :=
  match u.windowShortfall x with
  | some d => u.energyCharge d true
  | none => u

/-- The consecutive-divergence count takes a value, and METROLOGY_DIVERGENCE follows it (R41). -/
def Part.setDivergence (n : Nat) (u : Part) : Part :=
  Part.setCondition .metrologyDivergence (decide (3 ≤ n)) { u with recon := { u.recon with divergence := n } }

/-- PULSE_INTEGRITY and REVERSE_ENERGY at the close of a window (R42; log 35). -/
def Part.windowConditions (x : Window) (u : Part) : Part :=
  let u := u.setCondition .pulseIntegrity (decide (16 ≤ x.malformed))
  u.setCondition .reverseEnergy (u.config.live.importOnly && decide (10000 < x.exportTotal))

/-- A judged close (R40): the shortfall, the count, the conditions, and a new window. -/
def Part.judgedClose (u : Part) : Part :=
  match u.recon.window with
  | none => u
  | some x =>
    let count := if u.windowDivergent x then min 65535 (u.recon.divergence + 1) else 0
    (((u.chargeShortfall x).setDivergence count).windowConditions x).openWindow

/-- An unjudged close (R43): the shortfall and the conditions; no new window. -/
def Part.unjudgedClose (u : Part) : Part :=
  match u.recon.window with
  | none => u
  | some x => ((Part.chargeShortfall x { u with recon := { u.recon with window := none } }).windowConditions x)

/-- The charging mode becomes PULSE_ONLY (R36). -/
def Part.enterPulseOnly (u : Part) : Part :=
  match u.recon.mode with
  | .pulseOnly => u
  | .reported =>
    let u := u.unjudgedClose
    Part.setCondition .metrologySilent true { u with recon := { u.recon with mode := .pulseOnly } }

/-! ### Pulses -/

/-- A pulse is plausible: it has no interval, or its power is at most 1.25 × Pmax (R32). -/
def Part.plausible (u : Part) (interval : Option Nat) : Bool :=
  match interval with
  | none => true
  | some t => decide (4 * powerOf u.config.live.pulseWeight t ≤ 5 * u.config.live.pmax)

/-- The pulse capture unit after a valid pulse of the given width (R31, R33 steps 1 to 3). -/
def Pulse.afterValid (p : Pulse) (weight width : Nat) (interval : Option Nat) : Pulse :=
  { counter := width, overflow := false, unmeasurable := false, capture := none, lastInterval := interval,
    estimate := match interval with
      | some t => powerOf weight t
      | none => 0,
    energyTotal := p.energyTotal + weight }

/-- The open window counts a valid pulse and closes by energy when Ep reaches the window size (R33 step 4, R39). -/
def Part.countPulse (u : Part) : Part :=
  match u.recon.window with
  | none => u
  | some x =>
    let ep := x.ep + u.config.live.pulseWeight
    let u := { u with recon := { u.recon with window := some { x with ep := ep } } }
    if 1000 * u.bankValue bankWindowSize 100 ≤ ep then u.judgedClose else u

/-- A valid pulse (R33). -/
def Part.validPulse (width : Nat) (interval : Option Nat) (u : Part) : Part :=
  let w := u.config.live.pulseWeight
  let u := Part.countPulse { u with pulse := u.pulse.afterValid w width interval }
  match u.recon.mode with
  | .pulseOnly => u.energyCharge w false
  | .reported => u

/-- A malformed pulse raises the open window's malformed count (R34). -/
def Part.malformedPulse (u : Part) : Part :=
  { u with
    pulse := { u.pulse with capture := none },
    recon := { u.recon with
      window := u.recon.window.map (fun x => { x with malformed := min 65535 (x.malformed + 1) }) } }

/-- The pulse of a rising-edge capture is judged at its falling edge (R29). -/
def Part.judgePulse (c : RisingCapture) (u : Part) : Part :=
  let width := u.timeBase - c.edgeAt
  if 328 ≤ width && decide (width ≤ 8192) && u.plausible c.interval then u.validPulse width c.interval
  else u.malformedPulse

/-! ### Reports (R37, R38) -/

/-- An accepted report hands its phase status on (R38). -/
def Part.handPhases (phases : PhaseSet) (neutral : Bool) (u : Part) : Part :=
  Part.setCondition .neutralMissing (!neutral) { u with supply := { u.supply with reportedPhases := some phases } }

/-- The window counts a charged report (R38). -/
def Part.countReport (importEnergy exportEnergy : Nat) (u : Part) : Part :=
  { u with recon := { u.recon with
      window := u.recon.window.map
        (fun x => { x with er := x.er + importEnergy, exportTotal := x.exportTotal + exportEnergy }) } }

/-- The resume report (R37). -/
def Part.resumeReport (phases : PhaseSet) (neutral : Bool) (u : Part) : Part :=
  let u := Part.handPhases phases neutral { u with recon := { u.recon with mode := .reported } }
  let u := if u.supply.blankingUntil.isSome then u else u.openWindow
  u.setCondition .metrologySilent false

/-- A report accepted in REPORTED mode (R38). -/
def Part.chargeReport (importEnergy exportEnergy : Nat) (phases : PhaseSet) (neutral : Bool) (u : Part) : Part :=
  Part.handPhases phases neutral ((u.energyCharge importEnergy false).countReport importEnergy exportEnergy)

/-- An accepted report by the charging mode (R37, R38). -/
def Part.acceptReport (importEnergy exportEnergy : Nat) (phases : PhaseSet) (neutral : Bool) (u : Part) : Part :=
  match u.recon.mode with
  | .pulseOnly => u.resumeReport phases neutral
  | .reported => u.chargeReport importEnergy exportEnergy phases neutral

end Sys2Proof.Machine
end

