-- ==== Sys2Proof/Machine/LoadLimit.lean ====
section
/-! DEFINITION. The load limiter: its member of the cause set (R122), the LOAD_LIMIT code (R123), the one-second evaluation
(R124), trips (R125, R126) and the ends of lockouts (R127, R128). -/

namespace Sys2Proof.Machine

/-- The limiter takes new items; its member of the cause set follows, and a change of the load limit or the
extended-lockout flag sets the checkpoint-due flag (R122). -/
def Part.putLoad (l : Load) (u : Part) : Part :=
  let changed := u.load.limit != l.limit || u.load.extended != l.extended
  let u := Part.markDueIf changed { u with load := l }
  u.handCauses { u.supply.causes with loadLimit := l.member }

/-- A LOAD_LIMIT code of value `v` (R123). -/
def Load.coded (l : Load) (v : Nat) : Load :=
  { l with
    limit := v, extended := false,
    lockoutUntil := if v = 0 then none else l.lockoutUntil,
    overLimit := if v = 0 then 0 else l.overLimit }

/-- A midnight event ends an extended lockout (R128). -/
def Part.loadMidnight (u : Part) : Part := u.putLoad { u.load with extended := false }

/-- The trip history after a trip at `now`: aged entries and then the oldest of three leave, and the trip enters
(R125 steps 1 and 2). -/
def tripsAfter (trips : List Nat) (now : Nat) : List Nat :=
  let kept := trips.filter (fun t => decide (now < t + tripLife))
  (if 3 ≤ kept.length then kept.drop (kept.length - 2) else kept) ++ [now]

/-- A trip (R125): the history, the lockout, LOAD_LIMIT, the notice and the entries in the order of R129. -/
def Part.loadTrip (i : Image) (u : Part) : Part :=
  let trips := tripsAfter u.load.trips u.timeBase
  let extended := decide (3 ≤ trips.length)
  let length := bankLockoutTime i
  let lockout := if extended then none else some length
  let estimate := u.pulse.estimate
  let limit := u.load.limit
  let hold := bankHoldTime i
  let u := u.putLoad
    { u.load with
      trips := trips, overLimit := 0, extended := u.load.extended || extended,
      lockoutUntil := if extended then u.load.lockoutUntil else some (u.timeBase + Config.seconds length) }
  let u := u.place (.loadTrip estimate limit hold trips.length lockout)
  let u := u.journal (.loadTrip estimate limit hold trips.length lockout)
  if extended then u.journal (.extendedLockout trips) else u

/-- The over-limit time takes a value. -/
def Part.setOverLimit (n : Nat) (u : Part) : Part := { u with load := { u.load with overLimit := n } }

/-- The one-second evaluation (R124). -/
def Part.evaluateLoad (u : Part) : Part :=
  let u := u.readEstimate
  let u := { u with load := { u.load with nextEvaluation := u.timeBase + Config.seconds 1 } }
  match u.activeBank with
  | none => u.setOverLimit 0
  | some i =>
    if u.load.member then u.setOverLimit 0
    else if u.load.limit = 0 then u.setOverLimit 0
    else if u.load.limit < u.pulse.estimate then
      let n := u.load.overLimit + 1
      if bankHoldTime i ≤ n then u.loadTrip i else u.setOverLimit n
    else u.setOverLimit 0

end Sys2Proof.Machine
end

