-- ==== Sys2Proof/Machine/Tariff.lean ====
section
/-! DEFINITION. The tariff engine and the calendar clock: walks (R53), the pending bank (R54 to R59), activation (R60 to
R63), midnight processing (R64, R65) and the setting of the clock (R66 to R69). -/

namespace Sys2Proof.Machine

/-- The seconds of a day. -/
def daySeconds : Nat := 86400

/-- The day number of a clock count (R51). -/
def dayOf (count : Nat) : Nat := count / daySeconds

/-! ### Walks (R52, R53) -/

/-- The tariff engine's state after a walk, or after the change to band 0 while the clock is invalid or no bank is active. -/
def Part.walked (u : Part) : Tariff :=
  if u.clock.valid then
    match u.activeBank with
    | some i =>
      let r := currentRecord i u.clock.count
      { u.tariff with currentRecord := some r, band := recordBand i r, friendly := recordFriendly i r }
    | none => { u.tariff with currentRecord := none, band := 0, friendly := false }
  else { u.tariff with currentRecord := none, band := 0, friendly := false }

/-- The walk alone. -/
def Part.walkQuietly (u : Part) : Part := { u with tariff := u.walked }

/-- The walk, with a change of the friendly flag handed to the account and the supply switch controller (R53). -/
def Part.walk (u : Part) : Part :=
  let v := u.walkQuietly
  if v.tariff.friendly = u.tariff.friendly then v else v.deriveQuietly.recompute

/-! ### The pending bank (R54, R55, R59) -/

/-- A schedule and its marker are cleared; the marker is carried in every checkpoint. -/
def Part.clearMarker (u : Part) : Part :=
  Part.markDueIf u.tariff.scheduleMarker.isSome { u with tariff := { u.tariff with scheduleMarker := none } }

/-- BANK_REOPENED to the S-port (R55, R62, R70, R178). -/
def Part.reopened (r : ReopenReason) (u : Part) : Part := u.place (.bankReopened r)

/-- Bytes are stored into the pending image, whose state becomes LOADING (R55). -/
def Part.writePending (off : Nat) (bytes : List Byte) (u : Part) : Part :=
  let before := u.tariff.pending
  let u := Part.clearMarker
    { u with tariff := { u.tariff with
        pendingImage := storeBytes u.tariff.pendingImage off bytes, pending := .loading } }
  match before with
  | .empty | .loading => u
  | .finished _ | .scheduled _ => u.reopened .written

/-- The pending bank is emptied, and a schedule with it (R59, R61 step 1). -/
def Part.emptyPending (u : Part) : Part :=
  Part.clearMarker { u with tariff := { u.tariff with pending := .empty, pendingImage := Image.zero } }

/-- The fingerprint that the pending state holds (R54). -/
def PendingState.fingerprint : PendingState → Option Nat
  | .empty => none
  | .loading => none
  | .finished f => some f
  | .scheduled f => some f

/-- A schedule exists (R54). -/
def PendingState.isScheduled : PendingState → Bool
  | .empty => false
  | .loading => false
  | .finished _ => false
  | .scheduled _ => true

/-! ### Activation (R60 to R63) -/

/-- No activation is in flight and the active area is carried by a checkpoint written successfully (R60, R61, R187). -/
def Part.canActivate (u : Part) : Bool := u.tariff.activation.isNone && u.areaCarried

/-- The area an activation writes: the one not active, or A when none is (R61). -/
def otherArea : Option Area → Area
  | none => .areaA
  | some .areaA => .areaB
  | some .areaB => .areaA

/-- Step 1 and the start of step 2 of R61; the pending bank is FINISHED or SCHEDULED. -/
def Part.startActivation (origin : ActivationOrigin) (u : Part) : Part :=
  match u.tariff.pending.fingerprint with
  | none => u
  | some f =>
    let area := otherArea u.tariff.activeArea
    let image := u.tariff.pendingImage
    let u := u.emptyPending
    let u := { u with tariff := { u.tariff with
      activation := some { image := image, fingerprint := f, area := area, origin := origin, phase := .bankWrite } } }
    u.submitClass2 (.bank area image)

/-- How the engine judges a TARIFF_NOW or TARIFF_MIDNIGHT value (R60). -/
def Part.bankRefusal (value : Nat) (u : Part) : Option CodeResult :=
  if u.canActivate then
    match u.tariff.pending.fingerprint with
    | none => some .bankState
    | some f => if f = value then none else some .bankMismatch
  else some .bankState

/-- TARIFF_MIDNIGHT takes effect (R63). -/
def Part.schedule (f : Nat) (u : Part) : Part :=
  Part.markDueIf (decide (u.tariff.scheduleMarker ≠ some f))
    { u with tariff := { u.tariff with pending := .scheduled f, scheduleMarker := some f } }

/-! ### Midnight processing (R64, R65) -/

/-- The standing charge of the active bank; with none active, no charge (R64 step 2). -/
def Part.dayCharge (u : Part) : Part :=
  match u.activeBank with
  | some i => u.standingCharge (bankStandingCharge i)
  | none => u

/-- The last standing-charge day becomes `day`, and the cumulative adjustment 0 (R64 step 3). -/
def Part.closeDay (day : Nat) (u : Part) : Part :=
  Part.markDue { u with tariff := { u.tariff with lastStandingDay := day }, clock := { u.clock with adjustment := 0 } }

/-- A midnight processing hands the load limiter a midnight event; where a backward setting made it, R65 and R128 disagree,
and the free value says (log 66). -/
def Midnight.reachesLimiter (m : Midnight) : Bool := !m.backward || Config.backwardSettingEndsLockout

/-- Steps 2 to 4 of R64 for the new day. -/
def Part.finishMidnight (m : Midnight) (u : Part) : Part :=
  let u := if u.tariff.lastStandingDay < m.day then u.dayCharge.closeDay m.day else u
  let u := u.requestCheckpoint .midnight
  if m.reachesLimiter then u.loadMidnight else u

/-- Step 1 of R64 starts the scheduled activation. A schedule that cannot start stays; none does (log 20). -/
def Part.midnightActivates (u : Part) : Bool := u.tariff.pending.isScheduled && u.canActivate

/-- Midnight events in order: one whose activation starts waits for it, and those behind it wait with it (R64). -/
def Part.runMidnights : List Midnight → Part → Part
  | [], u => { u with tariff := { u.tariff with midnight := none, midnightsWaiting := [] } }
  | m :: rest, u =>
    if u.midnightActivates then
      Part.startActivation .midnight
        { u with tariff := { u.tariff with midnight := some m, midnightsWaiting := rest } }
    else Part.runMidnights rest (u.finishMidnight m)

/-- A midnight processing; it waits while an earlier midnight processing has not ended (R64). -/
def Part.midnightEvent (m : Midnight) (u : Part) : Part :=
  match u.tariff.midnight with
  | some _ => { u with tariff := { u.tariff with midnightsWaiting := u.tariff.midnightsWaiting ++ [m] } }
  | none => u.runMidnights [m]

/-- The activation that a midnight waited for has ended: the midnight goes on with step 2 (R64). -/
def Part.continueMidnight (origin : ActivationOrigin) (u : Part) : Part :=
  match origin, u.tariff.midnight with
  | .midnight, some m => (u.finishMidnight m).runMidnights u.tariff.midnightsWaiting
  | _, _ => u

/-- `n` standing charges in day order (R65). -/
def Part.dayCharges : Nat → Part → Part
  | 0, u => u
  | n + 1, u => Part.dayCharges n u.dayCharge

/-- The catch-up of main start (R65). -/
def Part.catchUp (u : Part) : Part :=
  let day := dayOf u.clock.count
  if u.clock.valid && decide (u.tariff.lastStandingDay < day) then
    let u := (u.dayCharges (day - u.tariff.lastStandingDay)).closeDay day
    (u.requestCheckpoint .midnight).loadMidnight
  else u

/-! ### The end of an activation (R62) -/

/-- The active bank becomes the one written, which the activation's checkpoint has carried when it succeeded; the engine
walks, the change reaches the account and the tamper monitor, and the supply switch controller decides once (R53, R62, R100,
R139; logs 11 and 15). -/
def Part.switchBank (area : Area) (stored : Bool) (u : Part) : Part :=
  let u := { u with tariff := { u.tariff with activeArea := some area, areaCarried := stored, activation := none } }
  u.walkQuietly.deriveQuietly.evaluateTamperQuietly.recompute

/-- The activation completes, at its checkpoint's completion or at that checkpoint's second failure (R62). After a success
the checkpoint carries the area and the serial, so they set no flag (log 33). -/
def Part.completeActivation (stored : Bool) (u : Part) : Part :=
  match u.tariff.activation with
  | none => u
  | some a =>
    let u := Part.markDueIf (!stored) u
    let u := u.spendActivating
    let u := u.switchBank a.area stored
    let u := u.journal (.tariffActivated (bankVersion a.image) a.fingerprint a.area)
    let u := u.place (.tariffChanged (bankVersion a.image) a.fingerprint)
    let u := u.endActivating (if stored then .accepted else .acceptedStoreFault)
    u.continueMidnight a.origin

/-- The bank write has failed twice: the activation ends without effect (R62). -/
def Part.failActivation (u : Part) : Part :=
  match u.tariff.activation with
  | none => u
  | some a =>
    let u := { u with tariff := { u.tariff with activation := none } }
    let u := u.reopened .activationFailed
    let u := u.endActivating .activationFailed
    u.continueMidnight a.origin

/-! ### The clock (R66 to R69) -/

/-- A minute boundary: the walk, and a midnight event when the clock has passed into a later day (R53, R64; log 16, 17). -/
def Part.minuteBoundary (u : Part) : Part :=
  let day := dayOf u.clock.count
  let before := u.tariff.dayBefore
  let u := u.walk
  let u := { u with tariff := { u.tariff with dayBefore := day } }
  if u.clock.valid && decide (before < day) then u.midnightEvent ⟨day, false⟩ else u

/-- The count passes its last value (R66). -/
def Part.wrapClock (u : Part) : Part :=
  let u := { u with clock := { u.clock with count := 0, valid := false }, tariff := { u.tariff with dayBefore := 0 } }
  if u.active then u.walk else u

/-- The day in which the clock is last seen after a setting. A forward setting passes into its day; a backward one leaves a
midnight that the clock has run into to the minute boundary of that moment (R64, R69; log 17). -/
def dayBeforeSet (before old count : Nat) : Nat := if old < count then dayOf count else min before (dayOf count)

/-- The clock takes a count, becomes valid and gets a cumulative adjustment. -/
def Part.putClock (count : Nat) (adjustment : Int) (u : Part) : Part :=
  { u with
    clock := { count := count, valid := true, adjustment := adjustment },
    tariff := { u.tariff with dayBefore := dayBeforeSet u.tariff.dayBefore u.clock.count count } }

/-- A setting to a count is forward and crosses into a later day (R69 step 4). -/
def Part.crossesInto (u : Part) (count : Nat) : Bool :=
  decide (u.clock.count < count) && decide (u.tariff.dayBefore < dayOf count)

/-- The evidence of an applied change that is not 0 (R69 steps 1 and 2). -/
def Part.clockEvidence (before after : Nat) (u : Part) : Part :=
  if before = after then u
  else (u.journal (.clockAdjusted before after)).place (.clockAdjusted before after)

/-- An unclamped setting (R67): midnight processing, steps 1 to 4 of R64, runs at most once, when the setting crosses into a
later day (R69) or gives a day above the last standing-charge day (R65; log 18), a backward one too. Whether a backward one
reaches the load limiter is free, since R65 and R128 disagree (log 66). -/
def Part.setTimeUnclamped (count : Nat) (u : Part) : Part :=
  let old := u.clock
  let crossed := u.crossesInto count
  let backward := decide (count < old.count)
  let u := u.putClock count 0
  let u := u.clockEvidence old.count count
  let u := if old.valid && decide (old.count = count) then u else u.walk
  if crossed || decide (u.tariff.lastStandingDay < dayOf count) then u.midnightEvent ⟨dayOf count, backward⟩ else u

/-- The applied change of a clamped setting (R68). -/
def Clock.appliedChange (c : Clock) (count : Nat) : Int :=
  let low := max (max (-300) (-900 - c.adjustment)) (-(c.count : Int))
  let high := min (min 300 (900 - c.adjustment)) (4294967295 - (c.count : Int))
  min high (max low ((count : Int) - c.count))

/-- The count after a clamped setting. -/
def Clock.clampedCount (c : Clock) (count : Nat) : Nat := ((c.count : Int) + c.appliedChange count).toNat

/-- A clamped setting (R68, R69). -/
def Part.setTimeClamped (count : Nat) (u : Part) : Part :=
  let old := u.clock
  let after := old.clampedCount count
  if after = old.count then u
  else
    let crossed := u.crossesInto after
    let u := u.putClock after (old.adjustment + old.appliedChange count)
    let u := u.clockEvidence old.count after
    let u := u.walk
    if crossed then u.midnightEvent ⟨dayOf after, false⟩ else u

/-- A setting is clamped when the valid flag is set and the lifecycle is IN_SERVICE (R67, R68). -/
def Part.clampsTime (u : Part) : Bool := u.clock.valid && decide (u.lifecycle = .inService)

end Sys2Proof.Machine
end

