-- ==== Sys2Proof/Machine/Codes.lean ====
section
/-! DEFINITION. The code processor: the code body (R72), the check value (R74, R75), screening (R79, R80, R83), application
(R84 to R89), code lockout (R93, R94). -/

namespace Sys2Proof.Machine

/-! ### The code body (R72, R193) -/

/-- The decimal number that ASCII digits spell, the most significant first. -/
def decimalOf (digits : List Byte) : Nat := digits.foldl (fun n b => n * 10 + (b.toNat - 48)) 0

/-- The fields of a 79-bit body. -/
def bodyFields (n : Nat) : DecodedCode :=
  { kind := n / 2 ^ 74, serial := n / 2 ^ 54 % 2 ^ 20, value := n / 2 ^ 30 % 2 ^ 24, check := n % 2 ^ 30 }

/-- The decoded code, or none for a number of 2^79 or more. -/
def decodeDigits (digits : List Byte) : Option DecodedCode :=
  let n := decimalOf digits
  if n < 2 ^ 79 then some (bodyFields n) else none

/-! ### The check value (R74) -/

/-- Word `i` of a slot, for `i` from 0 to 3. -/
def KeySlot.word (s : KeySlot) : Nat → Word32
  | 0 => s.k0
  | 1 => s.k1
  | 2 => s.k2
  | _ => s.k3

/-- One round on the pair A, B. -/
def checkRound (s : KeySlot) (p0 p1 : Word32) (ab : Word32 × Word32) (i : Nat) : Word32 × Word32 :=
  let t := ab.1 + ab.2.rotateLeft 7 + s.word (i % 4) + BitVec.ofNat 32 i
  (ab.2, t ^^^ (if i % 2 = 0 then p0 else p1))

/-- The check value of a code under generation `g` with a slot. -/
def checkValue (mid : Nat) (s : KeySlot) (g : Nat) (c : DecodedCode) : Nat :=
  let p0 := BitVec.ofNat 32 (c.kind * 2 ^ 20 + c.serial)
  let p1 := BitVec.ofNat 32 (g * 2 ^ 24 + c.value)
  let ab := (List.range 12).foldl (checkRound s p0 p1) (BitVec.ofNat 32 mid ^^^ s.k0, p1 ^^^ s.k1)
  (ab.1 ^^^ ab.2).toNat % 2 ^ 30

/-- A code matches under a generation with that generation's slot; a slot not loaded matches none (R75). -/
def matchesUnder (slots : Vector KeySlot 4) (mid g : Nat) (c : DecodedCode) : Bool :=
  match slots[g]? with
  | some s => s.loaded && decide (checkValue mid s g c = c.check)
  | none => false

/-! ### Screening (R75, R79, R80) -/

/-- The check stage (R75). -/
def checkRefusal (slots : Vector KeySlot 4) (mid g : Nat) (c : DecodedCode) : Option CodeResult :=
  if matchesUnder slots mid g c then none
  else if decide (0 < g) && matchesUnder slots mid (g - 1) c then some .generationOld
  else some .checkFailed

/-- A kind of 0 to 9 is permitted on a port (R83). -/
def kindOnPort (kind : Nat) (p : Port) : Bool :=
  match p with
  | .m => false
  | .k => kind ≤ 5 || kind = 7
  | .s => true

/-- The kind and port stage (R79 stage 3). -/
def kindRefusal (c : DecodedCode) (p : Port) : Option CodeResult :=
  if 10 ≤ c.kind then some .kindUnknown else if kindOnPort c.kind p then none else some .kindNotOnPort

/-- The serial rules (R80). -/
def serialRefusal (l : Serials) (s : Nat) : Option CodeResult :=
  if s ≤ l.floor then some .tooOld
  else if l.used.contains s then some .alreadyUsed
  else if l.highest + 8192 < s then some .tooFarAhead
  else none

/-- Stages 2 to 4 of R79: the first stage that refuses. -/
def Part.screenRefusal (slots : Vector KeySlot 4) (mid : Nat) (p : Port) (c : DecodedCode) (u : Part) :
    Option CodeResult :=
  match checkRefusal slots mid u.codes.generation c with
  | some r => some r
  | none =>
    match kindRefusal c p with
    | some r => some r
    | none => serialRefusal u.codes.serials c.serial

/-! ### Value rules (R83) -/

/-- A KEY_ROLL value is G + 1, at most 3, with its slot loaded (R83, R89) in the slots captured when the code became head:
a LOAD_KEY taken during screening acts from the next entry to become head (R78). -/
def Codes.rollsTo (c : Codes) (slots : Vector KeySlot 4) (value : Nat) : Bool :=
  decide (value = c.generation + 1) &&
    match slots[value]? with
    | some s => s.loaded
    | none => false

/-- VALUE_RANGE unless the value is accepted. -/
def rangeRefusal (accepted : Bool) : Option CodeResult := if accepted then none else some .valueRange

/-- The value rules of a kind, with the kind's own refusals at the owning block (R83, R60) and CEILING (R11). The slots are
those captured for the code's screening (R78). -/
def Part.valueRefusal (slots : Vector KeySlot 4) (c : DecodedCode) (u : Part) : Option CodeResult :=
  match c.kind with
  | 0 =>
    if c.value = 0 then some .valueRange
    else if u.underCeiling (u.account.split c.value) then none
    else some .ceiling
  | 2 => rangeRefusal (c.value = 0 || within 100 150000 c.value)
  | 4 => rangeRefusal (c.value ≤ 50)
  | 5 => rangeRefusal (c.value < 2 ^ 13)
  | 6 => rangeRefusal (u.codes.rollsTo slots c.value)
  | 7 => rangeRefusal (c.value ≤ 1)
  | 8 => u.bankRefusal c.value
  | 9 => u.bankRefusal c.value
  | _ => none

/-! ### Application (R84 to R89) -/

/-- The causes that a TAMPER_CLEAR value names; 0 names all thirteen (R83). -/
def namedCauses (value : Nat) : List TamperCause :=
  if value = 0 then allCauses else allCauses.filter (fun c => value.testBit (causeIndex c).val)

/-- The lockouts and histories of both ports end (R86 step 1, R94). -/
def Codes.freed (c : Codes) : Codes := { c with kPort := PortCodes.empty, sPort := PortCodes.empty }

/-- CODE_ATTACK follows the lockouts (R94). -/
def Part.handAttack (u : Part) : Part := u.setCondition .codeAttack u.codes.attacked

/-- TAMPER_CLEAR, in its three steps (R86). -/
def Part.applyTamperClear (value : Nat) (u : Part) : Part :=
  let u := Part.handAttack { u with codes := u.codes.freed }
  let u := u.setDivergence 0
  u.clearCauses (namedCauses value)

/-- KEY_ROLL (R89). -/
def Part.applyKeyRoll (u : Part) : Part :=
  Part.markDue { u with codes := { u.codes with generation := u.codes.generation + 1, serials := Serials.empty } }

/-- SUPPLY_ORDER (R87). -/
def Part.applySupplyOrder (disconnect : Bool) (u : Part) : Part :=
  let u := Part.markDueIf (u.codes.remoteOrder != disconnect)
    { u with codes := { u.codes with remoteOrder := disconnect } }
  u.handCauses { u.supply.causes with remoteOrder := disconnect }

/-- The effect of an accepted code other than TARIFF_NOW, with its serial marked in the same moment (R82, R84 to R87, R89).
The serial of a KEY_ROLL enters no list. -/
def Part.applyCode (c : DecodedCode) (u : Part) : Part :=
  match c.kind with
  | 0 => Part.derive ((u.markSerial c.serial).putAccount (u.account.toppedUp (u.account.split c.value)))
  | 1 => Part.derive ((u.markSerial c.serial).putAccount u.account.cleared)
  | 2 => (u.markSerial c.serial).putLoad (u.load.coded c.value)
  | 3 => (u.markSerial c.serial).putAccount { u.account with debt := c.value }
  | 4 => (u.markSerial c.serial).putAccount { u.account with debtRate := c.value }
  | 5 => (u.markSerial c.serial).applyTamperClear c.value
  | 6 => u.applyKeyRoll
  | 7 => (u.markSerial c.serial).applySupplyOrder (c.value = 1)
  | 9 => (u.markSerial c.serial).schedule c.value
  | _ => u

/-- The division that an accepted CREDIT reports (R91). -/
def Part.reportedSplit (c : DecodedCode) (u : Part) : Option TopUpSplit :=
  if c.kind = 0 then some (u.account.split c.value) else none

/-- The journal entry of an accepted code (R92); `generation` is the one before a KEY_ROLL. -/
def codeEntry (c : DecodedCode) (p : Port) (generation : Nat) : JournalDetail :=
  if c.kind = 6 then .keyRolled generation (generation + 1) c.serial else .codeAccepted c.kind c.serial c.value p

/-- An accepted code: a TARIFF_NOW starts its activation (R88); any other is applied, and its checkpoint and its journal
entry are requested (R90, R92). The entry stands behind those that the effect requests, such as the TAMPER_ABSENT and
TAMPER_CLEARED entries of a TAMPER_CLEAR (R140), an order that no rule gives (log 62). -/
def Part.acceptCode (c : DecodedCode) (p : Port) (u : Part) : Part :=
  if c.kind = 8 then (u.setHead (.activating c)).startActivation .code
  else
    let split := u.reportedSplit c
    let generation := u.codes.generation
    let u := (u.applyCode c).setHead (.commit c split)
    let u := u.requestCheckpoint .code
    u.journal (codeEntry c p generation)

/-! ### Code lockout (R93, R94) -/

/-- The part's own time base in seconds (R93). -/
def Part.seconds (u : Part) : Nat := u.timeBase / 32768

/-- The codes of a port that takes them. -/
def Codes.portCodes (c : Codes) : Port → PortCodes
  | .s => c.sPort
  | .k => c.kPort
  | .m => PortCodes.empty

/-- Put the codes of a port. -/
def Codes.setPort (c : Codes) (p : Port) (x : PortCodes) : Codes :=
  match p with
  | .s => { c with sPort := x }
  | .k => { c with kPort := x }
  | .m => c

/-- A failure history with one more time: the oldest of five leaves first (R93). -/
def failuresWith (failures : List Nat) (now : Nat) : List Nat :=
  (if 5 ≤ failures.length then failures.drop (failures.length - 4) else failures) ++ [now]

/-- Five failures within 600 s (R93). -/
def locksOut (failures : List Nat) : Bool :=
  match failures with
  | [a, _, _, _, e] => e - a ≤ 600
  | _ => false

/-- A port's codes after a CHECK_FAILED result, `now` in seconds and `deadline` the tick 1,800 s away (R93). -/
def PortCodes.failed (x : PortCodes) (now deadline : Nat) : PortCodes :=
  let failures := failuresWith x.failures now
  if locksOut failures then { failures := [], lockedUntil := some deadline } else { x with failures := failures }

/-- A CHECK_FAILED result enters its port's history, and a lockout raises CODE_ATTACK (R93, R94). -/
def Part.enterFailure (p : Port) (u : Part) : Part :=
  let x := (u.codes.portCodes p).failed u.seconds (u.timeBase + Config.seconds 1800)
  Part.handAttack { u with codes := u.codes.setPort p x }

/-- A port's lockout expires (R94). -/
def Part.expireLockout (p : Port) (u : Part) : Part :=
  Part.handAttack
    { u with codes := u.codes.setPort p { u.codes.portCodes p with lockedUntil := none } }

/-! ### The head code (R78, R79) -/

/-- A refused code: CHECK_FAILED enters the failure history; the result is placed and the entry leaves (R91, R93). -/
def Part.refuseCode (r : CodeResult) (c : Option DecodedCode) (p : Port) (u : Part) : Part :=
  let u := if r = .checkFailed then u.enterFailure p else u
  u.settleHead r c none

/-- A decoded code is screened, valued and applied, or refused (R79). -/
def Part.judgeCode (slots : Vector KeySlot 4) (mid : Nat) (p : Port) (c : DecodedCode) (u : Part) : Part :=
  match u.screenRefusal slots mid p c with
  | some r => u.refuseCode r (some c) p
  | none =>
    match u.valueRefusal slots c with
    | some r => u.refuseCode r (some c) p
    | none => u.acceptCode c p

/-- The screening of the head code (R79): with no head in screening there is nothing to do. -/
def Part.screenHead (u : Part) : Part :=
  match u.codes.queue, u.codes.head with
  | e :: _, some (.screening slots mid) =>
    match decodeDigits e.digits with
    | none => u.refuseCode .malformed none e.port
    | some c => u.judgeCode slots mid e.port c
  | _, _ => u

end Sys2Proof.Machine
end

