-- ==== Sys2Proof/Machine/ClockCommands.lean ====
section
/-! DEFINITION. The meanings of the clock events and of the code processor's own events (R53, R66, R79, R94). -/

namespace Sys2Proof.Machine

/-- A minute boundary, while the main domain runs (R53, R64). -/
def Part.minuteDue (u : Part) : Part := if u.active then u.minuteBoundary else u

/-- The screening of the head code, while the main domain runs (R79). -/
def Part.screeningDue (u : Part) : Part := if u.active then u.screenHead else u

/-- MINUTE_BOUNDARY (R53). -/
def execMinuteBoundary (s : State) : Host.Outcome State Fault Refusal :=
  answer s Part.minuteDue

/-- CLOCK_WRAP (R66). -/
def execClockWrap (s : State) : Host.Outcome State Fault Refusal :=
  expire .clockWrap s Part.wrapClock

/-- CODE_SCREENING (R79). -/
def execCodeScreening (s : State) : Host.Outcome State Fault Refusal :=
  answer s Part.screeningDue

/-- CODE_LOCKOUT_EXPIRY (R94), in either power domain state. -/
def execCodeLockoutExpiry (p : Port) (s : State) : Host.Outcome State Fault Refusal :=
  expire (.codeLockoutExpiry p) s (Part.expireLockout p)

end Sys2Proof.Machine
end

