-- ==== Sys2Proof/Machine/MeterCommands.lean ====
section
/-! DEFINITION. The meanings of the events of the pulse line, the reconciliation window and the load limiter (R29, R30, R39,
R124, R126, R127). -/

namespace Sys2Proof.Machine

/-- The level of EP. -/
def Part.setEp (level : Bool) (u : Part) : Part := { u with inputs := { u.inputs with ep := level } }

/-- The rising-edge capture of this moment (R30). -/
def Part.takeCapture (u : Part) : Part :=
  let p := u.pulse
  let c : RisingCapture :=
    { count := p.counter, overflow := p.overflow, unmeasurable := p.unmeasurable, edgeAt := u.timeBase }
  { u with pulse := { p with capture := some c } }

/-- A rising edge on EP; after PFW it is not taken (R30, R46). -/
def Part.epRises (u : Part) : Part :=
  let u := u.setEp true
  if u.running then u.takeCapture else u

/-- A falling edge on EP judges the pulse whose rising edge was taken (R29, R46). -/
def Part.epFalls (u : Part) : Part :=
  let u := u.setEp false
  match u.pulse.capture with
  | some c => if u.running then u.judgePulse c else u
  | none => u

/-- The pulse capture unit after a wrap of the interval counter (R30). -/
def Pulse.wrapped (p : Pulse) : Pulse :=
  if p.unmeasurable then { p with counter := 0 }
  else if p.overflow then { p with counter := 0, unmeasurable := true, estimate := 0 }
  else { p with counter := 0, overflow := true }

/-- The interval counter wraps; the unit stops at PFW (R30, R46). -/
def Part.wrapCounter (u : Part) : Part := if u.running then { u with pulse := u.pulse.wrapped } else u

/-- The window's age reaches 900 s (R39). After PFW no window is open (R46). -/
def Part.windowExpires (u : Part) : Part := if u.running then u.judgedClose else u

/-- The one-second evaluation; none after PFW (R124, R130). -/
def Part.evaluationDue (u : Part) : Part := if u.running then u.evaluateLoad else u

/-- The ordinary lockout's timer expires (R127); it is main-domain state. -/
def Part.lockoutExpires (u : Part) : Part :=
  if u.active then u.putLoad { u.load with lockoutUntil := none } else u

/-- The oldest trip leaves the history, in either power domain state (R126). -/
def Part.tripAges (u : Part) : Part := { u with load := { u.load with trips := u.load.trips.drop 1 } }

/-- EP_RISING_EDGE (R30). -/
def execEpRisingEdge (s : State) : Host.Outcome State Fault Refusal :=
  answer s Part.epRises

/-- EP_FALLING_EDGE (R29). -/
def execEpFallingEdge (s : State) : Host.Outcome State Fault Refusal :=
  answer s Part.epFalls

/-- INTERVAL_COUNTER_WRAP (R30). -/
def execIntervalCounterWrap (s : State) : Host.Outcome State Fault Refusal :=
  expire .intervalCounterWrap s Part.wrapCounter

/-- WINDOW_TIME_CLOSE (R39). -/
def execWindowTimeClose (s : State) : Host.Outcome State Fault Refusal :=
  expire .windowTimeClose s Part.windowExpires

/-- LOAD_EVALUATION (R124). -/
def execLoadEvaluation (s : State) : Host.Outcome State Fault Refusal :=
  expire .loadEvaluation s Part.evaluationDue

/-- LOAD_LOCKOUT_EXPIRY (R127). -/
def execLoadLockoutExpiry (s : State) : Host.Outcome State Fault Refusal :=
  expire .loadLockoutExpiry s Part.lockoutExpires

/-- TRIP_AGE_OUT (R126). -/
def execTripAgeOut (s : State) : Host.Outcome State Fault Refusal :=
  expire .tripAgeOut s Part.tripAges

end Sys2Proof.Machine
end

