-- ==== Sys2Proof/Machine/Operands.lean ====
section
/-! DEFINITION. The operands that a request's payload spells (R190), and the configuration items by number, range and place
(R185, R186, R190). -/

namespace Sys2Proof.Machine

/-- Byte `n` of a payload whose length the port has admitted. -/
def byteAt (b : List Byte) (n : Nat) : Byte := (b[n]?).getD 0#8

/-! ### ENERGY_REPORT -/

def reportImport (b : List Byte) : Nat := field b 0 2
def reportExport (b : List Byte) : Nat := field b 2 2
def reportPhases (b : List Byte) : PhaseSet := PhaseSet.ofByte (byteAt b 4)
def reportNeutral (b : List Byte) : Bool := byteAt b 5 != 0#8

/-! ### The tariff requests -/

def writeOffset (b : List Byte) : Nat := field b 0 2
def writeData (b : List Byte) : List Byte := b.drop 2
def readBank (b : List Byte) : Nat := field b 0 1
def readOffset (b : List Byte) : Nat := field b 1 2
def readLength (b : List Byte) : Nat := field b 3 1

/-- The tests of R55 on an offset and a number of bytes. -/
def bankRangeOk (off n : Nat) : Bool := off ≤ 304 && 1 ≤ n && n ≤ 64 && decide (off + n ≤ 305)

/-! ### The one-number requests -/

/-- The group of READ_REGISTERS (R191). -/
def groupNumber (b : List Byte) : Nat := field b 0 1

/-- The count of SET_TIME and the sequence number of READ_JOURNAL. -/
def wholeNumber (b : List Byte) : Nat := field b 0 4

/-- The direction of RELAY_TEST: 0 opening, 1 closing (R118, R190). -/
def testDirection (b : List Byte) : Option Direction :=
  match field b 0 1 with
  | 0 => some .opening
  | 1 => some .closing
  | _ => none

/-! ### SUBMIT_CODE -/

/-- A character is one of the digits 0 to 9 (R76, R193). -/
def isDigit (c : Byte) : Bool := 0x30 ≤ c.toNat && c.toNat ≤ 0x39

/-- The payload is exactly 24 digits (R76). -/
def isCode (b : List Byte) : Bool := decide (b.length = 24) && b.all isDigit

/-! ### Configuration (R185, R186, R190) -/

/-- The kind whose level is configured, by its number. -/
def levelKind : Nat → Option NoticeKind
  | 5 => some .awaitingConfirm
  | 7 => some .creditExhausted
  | 8 => some .creditLow
  | 9 => some .ecAvailable
  | 10 => some .friendlyChanged
  | 11 => some .loadTrip
  | 12 => some .tariffChanged
  | 13 => some .clockAdjusted
  | 14 => some .bankReopened
  | 15 => some .journalAdded
  | _ => none

/-- The kind whose routing is configured, by its number: as the levels, without kind 14. -/
def routingKind (n : Nat) : Option NoticeKind := if n = 14 then none else levelKind n

/-- The item that a CONFIG_WRITE item number names; the other numbers are unknown. -/
def configItem (n : Nat) : Option ConfigItem :=
  match n with
  | 1 => some .mid
  | 2 => some .pulseWeight
  | 3 => some .pmax
  | 4 => some .importOnly
  | 5 => some .relayDelay
  | 6 => some .pulseWidth
  | 7 => some .settleTime
  | 8 => some .nm
  | 9 => some .nk
  | 10 => some .mh
  | 11 => some .participants
  | _ =>
    if 31 < n then (routingKind (n - 31)).map .routing
    else if 15 < n then (levelKind (n - 15)).map .level
    else none

/-- The range of an item (R185). Key slots take no CONFIG_WRITE. -/
def itemRange (item : ConfigItem) (v : Nat) : Bool :=
  match item with
  | .mid => v < 2 ^ 32
  | .pulseWeight => within 125 10000 v
  | .pmax => within 1000 150000 v
  | .importOnly => v ≤ 1
  | .relayDelay => v ≤ 9999
  | .pulseWidth => within 20 200 v
  | .settleTime => within 50 500 v
  | .nm => within 1 5 v
  | .nk => within 2 8 v
  | .mh => v ≤ 5
  | .participants => v ≤ 3
  | .level _ => within 1 4 v
  | .routing _ => v ≤ 7
  | .key _ => false

/-- An item of the configuration takes a number. A port set has bits 0 to 2 for M, K and S, and a flag is 0 or 1 (log 50). -/
def ConfigItems.putNumber (c : ConfigItems) (item : ConfigItem) (v : Nat) : ConfigItems :=
  match item with
  | .mid => { c with mid := v }
  | .pulseWeight => { c with pulseWeight := v }
  | .pmax => { c with pmax := v }
  | .importOnly => { c with importOnly := v.testBit 0 }
  | .relayDelay => { c with relayDelay := v }
  | .pulseWidth => { c with pulseWidth := v }
  | .settleTime => { c with settleTime := v }
  | .nm => { c with nm := v }
  | .nk => { c with nk := v }
  | .mh => { c with mh := v }
  | .participants => { c with participants := ⟨v.testBit 0, v.testBit 1⟩ }
  | .level kind => { c with levels := c.levels.set (kindIndex kind).val v (kindIndex kind).isLt }
  | .routing kind =>
    let ports : PerPort Bool := ⟨v.testBit 0, v.testBit 1, v.testBit 2⟩
    { c with routings := c.routings.set (kindIndex kind).val ports (kindIndex kind).isLt }
  | .key _ => c

/-- A key slot of the configuration takes key words, and its loaded flag is set. -/
def ConfigItems.putKey (c : ConfigItems) (slot : Fin 4) (k0 k1 k2 k3 : Word32) : ConfigItems :=
  { c with keys := c.keys.set slot.val { k0 := k0, k1 := k1, k2 := k2, k3 := k3, loaded := true } slot.isLt }

/-- An item of the configuration takes a value. -/
def ConfigItems.put (c : ConfigItems) (item : ConfigItem) (value : ConfigValue) : ConfigItems :=
  match item, value with
  | .key slot, .keyWords k0 k1 k2 k3 => c.putKey slot k0 k1 k2 k3
  | _, .number v => c.putNumber item v
  | _, .keyWords _ _ _ _ => c

/-- The slot that LOAD_KEY names (R186). -/
def keySlot (b : List Byte) : Option (Fin 4) :=
  match field b 0 1 with
  | 0 => some 0
  | 1 => some 1
  | 2 => some 2
  | 3 => some 3
  | _ => none

/-- Key word `i` of LOAD_KEY. -/
def keyWord (b : List Byte) (i : Nat) : Word32 := BitVec.ofNat 32 (field b (1 + 4 * i) 4)

end Sys2Proof.Machine
end

