-- ==== Sys2Proof/Machine/Responses.lean ====
section
/-! DEFINITION. The fields of the responses, of the notices' details and of the journal entries as bytes (R24, R48, R71, R97,
R121, R132, R147, R160, R165, R177, R191, R192, R195). -/

namespace Sys2Proof.Machine

/-! ### Shared fields -/

def oneByte (n : Nat) : List Byte := toBytes 1 n

/-- The balance takes 6 bytes (R191). -/
def balanceBytes (b : Int) : List Byte := toBytesSigned 6 b

def PerPort.bits (r : PerPort Bool) : Nat := r.m.toNat + 2 * r.k.toNat + 4 * r.s.toNat

def PerLink.bits (r : PerLink Bool) : Nat := r.m.toNat + 2 * r.k.toNat

/-- A list: a one-byte count and the items of `n` bytes (R191). -/
def listBytes (n : Nat) (items : List Nat) : List Byte := oneByte items.length ++ items.flatMap (toBytes n)

/-- The direction of an operation in progress. -/
def Relay.direction : Relay → Option Direction
  | .settled _ => none
  | .operating op => some op.direction

/-- The reason of an operation in progress. -/
def Relay.reason : Relay → Option Reason
  | .settled _ => none
  | .operating op => some op.reason

/-- The attempt count of an operation in progress. -/
def Relay.attempt : Relay → Option Nat
  | .settled _ => none
  | .operating op => some op.attempt

/-! ### READ_DISPLAY, READ_STATE, ENERGY_REPORT -/

/-- The fields of READ_DISPLAY (R192); the estimate has been read and stored (R48). -/
def Part.displayFields (u : Part) : List Byte :=
  balanceBytes u.account.balance ++ oneByte (creditStateNumber u.account.creditState)
    ++ [flagByte u.account.ecAvailable] ++ oneByte u.tariff.band ++ toBytes 3 u.price ++ toBytes 3 u.pulse.estimate
    ++ oneByte (relayNumber u.supply.relay)

/-- The fields of READ_STATE (R177). -/
def Part.stateFields (u : Part) : List Byte :=
  toBytes 4 u.config.live.mid ++ oneByte (lifecycleNumber u.lifecycle) ++ oneByte (relayNumber u.supply.relay)
    ++ optionBytes 1 (u.supply.relay.direction.map directionNumber)
    ++ optionBytes 1 (u.supply.relay.reason.map reasonNumber)
    ++ oneByte u.supply.causes.bits ++ oneByte (creditStateNumber u.account.creditState)
    ++ oneByte (modeNumber u.recon.mode) ++ toBytes 4 u.clock.count ++ [flagByte u.clock.valid]
    ++ optionBytes 2 (u.activeBank.map bankVersion)
    ++ oneByte (linkStateNumber u.links.m.state) ++ oneByte (linkStateNumber u.links.k.state)

/-- The fields of an accepted ENERGY_REPORT (R38). -/
def Part.reportFields (u : Part) : List Byte :=
  oneByte (creditStateNumber u.account.creditState) ++ oneByte (relayNumber u.supply.relay)

/-! ### READ_REGISTERS (R191) -/

/-- Group 1 (R24). -/
def Part.group1 (u : Part) : List Byte :=
  let a := u.account
  toBytes 8 a.creditedToBalance ++ toBytes 8 a.ecGrantedTotal ++ toBytes 8 a.energyCharged ++ toBytes 8 a.uncollected
    ++ toBytes 8 a.standingCharged ++ toBytesSigned 8 a.clearAdjustment ++ toBytes 8 a.ecRepaidTotal
    ++ toBytes 8 a.debtRecoveredTotal ++ a.energyPerBand.toList.flatMap (toBytes 8) ++ toBytes 8 a.shortfallEnergy
    ++ toBytes 3 a.ecOwed ++ toBytes 3 a.debt ++ oneByte a.debtRate

/-- The five values of the open window behind one qualifier, which is R48's marker (R191; log 25). -/
def Part.windowFields (u : Part) : List Byte :=
  match u.recon.window with
  | some x =>
    0#8 :: (toBytes 3 x.ep ++ toBytes 5 x.er ++ toBytes 5 x.exportTotal ++ toBytes 2 x.malformed
      ++ toBytes 2 (u.secondsSince x.openedAt))
  | none => 2#8 :: List.replicate 17 0#8

/-- Group 2 (R48). -/
def Part.group2 (u : Part) : List Byte :=
  toBytes 8 u.pulse.energyTotal ++ toBytes 2 u.recon.divergence ++ u.windowFields

/-- Group 3 (R71). -/
def Part.group3 (u : Part) : List Byte :=
  oneByte (pendingStateNumber u.tariff.pending) ++ toBytes 2 u.tariff.lastStandingDay
    ++ toBytesSigned 2 u.clock.adjustment

/-- The entries of a port in the code queue (R77). -/
def Codes.occupancy (c : Codes) (p : Port) : Nat := (c.queue.filter (fun e => e.port = p)).length

/-- The lockout fields of one port (R97). -/
def Part.lockoutFields (p : Port) (u : Part) : List Byte :=
  let x := u.codes.portCodes p
  [flagByte x.lockedUntil.isSome] ++ toBytes 2 ((x.lockedUntil.map u.secondsLeft).getD 0) ++ oneByte x.failures.length

/-- Group 4 (R97); the ports are those that take codes. -/
def Part.group4 (u : Part) : List Byte :=
  let c := u.codes
  oneByte c.generation ++ toBytes 3 c.serials.floor ++ toBytes 3 c.serials.highest ++ listBytes 3 c.serials.used
    ++ oneByte (c.occupancy .k) ++ oneByte (c.occupancy .s) ++ u.lockoutFields .k ++ u.lockoutFields .s

/-- Group 5: the supply switch (R121), then the load limiter (R132). -/
def Part.group5 (u : Part) : List Byte :=
  [flagByte u.supply.openRequired, u.supply.record.byte] ++ oneByte u.expectedPhases.bits
    ++ optionBytes 1 u.supply.relay.attempt ++ optionBytes 2 (u.supply.retryAt.map u.secondsLeft)
    ++ [flagByte u.supply.blankingUntil.isSome]
    ++ toBytes 3 u.load.limit ++ toBytes 2 u.load.overLimit ++ optionBytes 2 (u.load.lockoutUntil.map u.secondsLeft)
    ++ [flagByte u.load.extended] ++ listBytes 3 (u.load.trips.map u.secondsSince)

/-- The prior state of a PENDING record: 0 QUIET, 1 LATCHED_ABSENT (R134, R191). -/
def RecordState.prior : RecordState → Option Nat
  | .pending priorLatched => some priorLatched.toNat
  | .quiet => none
  | .present => none
  | .latchedAbsent => none

/-- The fields of one tamper record (R147). -/
def Part.causeFields (u : Part) (c : TamperCause) : List Byte :=
  let r := u.tamperRecord c
  oneByte (recordStateNumber r.state) ++ optionBytes 1 r.state.prior ++ [flagByte r.condition] ++ toBytes 2 r.count
    ++ optionStampBytes r.first ++ optionStampBytes r.last ++ oneByte (policyNumber (u.policy c))
    ++ optionBytes 1 (r.timer.map u.wholeSecondsLeft)

/-- Group 6: causes 0 to 6. -/
def Part.group6 (u : Part) : List Byte := (allCauses.take 7).flatMap u.causeFields

/-- Group 7: causes 7 to 12. -/
def Part.group7 (u : Part) : List Byte := (allCauses.drop 7).flatMap u.causeFields

/-- An item with its live value in `n` bytes and its unstored mark (R186). -/
def Part.itemFields (item : ConfigItem) (n v : Nat) (u : Part) : List Byte :=
  toBytes n v ++ [flagByte (u.config.unstored.contains item)]

/-- The loaded flag of a key slot in a byte of its own, and its unstored mark as for any item (R186; log 25). -/
def Part.slotFields (u : Part) (slot : Fin 4) : List Byte :=
  u.itemFields (.key slot) 1 (u.config.live.keys.get slot).loaded.toNat

/-- The kinds whose level is configured (R178). -/
def levelKinds : List NoticeKind :=
  [.awaitingConfirm, .creditExhausted, .creditLow, .ecAvailable, .friendlyChanged, .loadTrip, .tariffChanged,
   .clockAdjusted, .bankReopened, .journalAdded]

/-- The kinds whose routing is configured (R178). -/
def routingKinds : List NoticeKind :=
  [.awaitingConfirm, .creditExhausted, .creditLow, .ecAvailable, .friendlyChanged, .loadTrip, .tariffChanged,
   .clockAdjusted, .journalAdded]

/-- A configured level. -/
def Part.levelFields (u : Part) (k : NoticeKind) : List Byte :=
  u.itemFields (.level k) 1 (u.config.live.levels.get (kindIndex k))

/-- A configured routing. -/
def Part.routingFields (u : Part) (k : NoticeKind) : List Byte :=
  u.itemFields (.routing k) 1 (u.config.live.routings.get (kindIndex k)).bits

/-- The configuration items in the order of R185. -/
def Part.configFields (u : Part) : List Byte :=
  let c := u.config.live
  u.itemFields .mid 4 c.mid ++ [0, 1, 2, 3].flatMap u.slotFields ++ u.itemFields .pulseWeight 2 c.pulseWeight
    ++ u.itemFields .pmax 3 c.pmax ++ u.itemFields .importOnly 1 c.importOnly.toNat
    ++ u.itemFields .relayDelay 2 c.relayDelay ++ u.itemFields .pulseWidth 1 c.pulseWidth
    ++ u.itemFields .settleTime 2 c.settleTime ++ u.itemFields .nm 1 c.nm ++ u.itemFields .nk 1 c.nk
    ++ u.itemFields .mh 1 c.mh ++ u.itemFields .participants 1 c.participants.bits
    ++ levelKinds.flatMap u.levelFields ++ routingKinds.flatMap u.routingFields

/-- The store controller's fields (R165). -/
def Part.storeFields (u : Part) : List Byte :=
  let newest := u.array.newestCheckpoint.map Prod.snd
  let writing := match u.store.inFlight with
    | some (.checkpoint _) => true
    | some (.bank _ _ _) | some (.config _ _ _) | some (.journal _ _ _ _) | none => false
  optionBytes 4 (newest.map CheckpointRecord.sequence) ++ optionStampBytes (newest.map CheckpointRecord.stamp)
    ++ optionBytes 2 (newest.map (fun r => r.reasons.toNat)) ++ [flagByte u.checkpointDue]
    ++ [flagByte (u.store.waiting.isSome || writing)] ++ oneByte u.store.failureRun
    ++ oneByte u.store.journal.length ++ toBytes 4 u.store.nextJournalSequence

/-- Group 8: the store controller (R165), then the configuration items (R186). -/
def Part.group8 (u : Part) : List Byte := u.storeFields ++ u.configFields

/-- The fields of a group, or none outside 1 to 8 (R191). -/
def Part.registerGroup (n : Nat) (u : Part) : Option (List Byte) :=
  match n with
  | 1 => some u.group1
  | 2 => some u.group2
  | 3 => some u.group3
  | 4 => some u.group4
  | 5 => some u.group5
  | 6 => some u.group6
  | 7 => some u.group7
  | 8 => some u.group8
  | _ => none

/-! ### Notices (R192) -/

/-- A balance that may be absent, behind its qualifier (R191). -/
def optionBalanceBytes : Option Int → List Byte
  | some b => 0#8 :: balanceBytes b
  | none => 2#8 :: balanceBytes 0

/-- E, D, Q2 and the balance in a CODE_RESULT: optional values, present for an accepted CREDIT (R91, R191). -/
def creditBytes (credit : Option (TopUpSplit × Int)) : List Byte :=
  optionBytes 3 (credit.map (fun x => x.1.e)) ++ optionBytes 3 (credit.map (fun x => x.1.d))
    ++ optionBytes 3 (credit.map (fun x => x.1.q2)) ++ optionBalanceBytes (credit.map Prod.snd)

/-- The lockout fields of a trip: 0 ordinary or 1 extended, and the length of an ordinary lockout as an optional value
(R125, R191). -/
def tripBytes (lockout : Option Nat) : List Byte := flagByte lockout.isNone :: optionBytes 2 lockout

/-- The detail of a notice, item by item as the placing rule names them. -/
def Notice.detail : Notice → List Byte
  | .tamperRaised cause count policy last =>
    oneByte (causeIndex cause).val ++ toBytes 2 count ++ oneByte (policyNumber policy) ++ optionStampBytes last
  | .supplyPending dir reason => oneByte (directionNumber dir) ++ oneByte (reasonNumber reason)
  | .supplyChanged st dir reason attempt synchronised =>
    oneByte (settledNumber st) ++ oneByte (directionNumber dir) ++ oneByte (reasonNumber reason) ++ oneByte attempt
      ++ [flagByte synchronised]
  | .relayFault dir reason sense =>
    oneByte (directionNumber dir) ++ oneByte (reasonNumber reason) ++ oneByte sense.bits
  | .awaitingConfirm record => [record.byte]
  | .codeResult result code credit =>
    oneByte (codeResultNumber result) ++ optionBytes 1 (code.map DecodedCode.kind)
      ++ optionBytes 3 (code.map DecodedCode.serial) ++ optionBytes 3 (code.map DecodedCode.value) ++ creditBytes credit
  | .creditExhausted st balance => oneByte (creditStateNumber st) ++ balanceBytes balance
  | .creditLow st balance => oneByte (creditStateNumber st) ++ balanceBytes balance
  | .ecAvailable amount balance => toBytes 3 amount ++ balanceBytes balance
  | .friendlyChanged st balance => oneByte (creditStateNumber st) ++ balanceBytes balance
  | .loadTrip estimate limit hold entries lockout =>
    toBytes 3 estimate ++ toBytes 3 limit ++ toBytes 2 hold ++ oneByte entries ++ tripBytes lockout
  | .tariffChanged version fingerprint => toBytes 2 version ++ toBytes 3 fingerprint
  | .clockAdjusted before after => toBytes 4 before ++ toBytes 4 after
  | .bankReopened reason => oneByte (reopenNumber reason)
  | .journalAdded sequence kind => toBytes 4 sequence ++ oneByte kind

/-- The fields of a FETCH_NOTICE that hands a notice out, with the number left (R192). -/
def noticeFields (x : PendingNotice) (left : Nat) : List Byte :=
  let detail := x.notice.detail
  oneByte ((kindIndex x.notice.kind).val + 1) ++ oneByte x.level ++ oneByte x.count ++ oneByte detail.length ++ detail
    ++ oneByte left

/-! ### Journal entries (R195) -/

/-- The kind byte of an entry. -/
def JournalDetail.kindNumber : JournalDetail → Nat
  | .tamperPresent .. => 0
  | .tamperAbsent .. => 1
  | .tamperCleared .. => 2
  | .codeAccepted .. => 3
  | .keyRolled .. => 4
  | .tariffActivated .. => 5
  | .clockAdjusted .. => 6
  | .supplyOpened .. => 7
  | .supplyClosed .. => 8
  | .relayFault .. => 9
  | .participantAbsent .. => 10
  | .loadTrip .. => 11
  | .extendedLockout .. => 12
  | .ledgerRestored .. => 13
  | .storeFault .. => 14

/-- The detail of an entry. Trip times are in seconds of the time base (log 28), and the reason set of a LEDGER_RESTORED
without a record is 0 (log 60). -/
def JournalDetail.bytes : JournalDetail → List Byte
  | .tamperPresent cause count policy =>
    oneByte (causeIndex cause).val ++ toBytes 2 count ++ oneByte (policyNumber policy)
  | .tamperAbsent cause count => oneByte (causeIndex cause).val ++ toBytes 2 count
  | .tamperCleared causes => toBytes 2 (causeBits causes)
  | .codeAccepted kind serial value origin =>
    oneByte kind ++ toBytes 3 serial ++ toBytes 3 value ++ oneByte (portNumber origin)
  | .keyRolled before after serial => oneByte before ++ oneByte after ++ toBytes 3 serial
  | .tariffActivated version fingerprint area =>
    toBytes 2 version ++ toBytes 3 fingerprint ++ oneByte (areaNumber area)
  | .clockAdjusted before after => toBytes 4 before ++ toBytes 4 after
  | .supplyOpened reason attempt record => oneByte (reasonNumber reason) ++ oneByte attempt ++ [record.byte]
  | .supplyClosed reason attempt => oneByte (reasonNumber reason) ++ oneByte attempt
  | .relayFault dir reason sense =>
    oneByte (directionNumber dir) ++ oneByte (reasonNumber reason) ++ oneByte sense.bits
  | .participantAbsent port dir => oneByte (linkNumber port) ++ oneByte (directionNumber dir)
  | .loadTrip estimate limit hold entries lockout =>
    toBytes 3 estimate ++ toBytes 3 limit ++ toBytes 2 hold ++ oneByte entries ++ [flagByte lockout.isNone]
      ++ toBytes 2 (lockout.getD 0)
  | .extendedLockout trips => trips.flatMap (fun t => toBytes 4 (t / 32768))
  | .ledgerRestored (some (sequence, stamp, reasons)) slots =>
    1#8 :: (toBytes 4 sequence ++ stampBytes stamp ++ toBytes 2 reasons.toNat ++ oneByte slots)
  | .ledgerRestored none slots =>
    0#8 :: (toBytes 4 0 ++ 2#8 :: (toBytes 4 0 ++ toBytes 2 0 ++ oneByte slots))
  | .storeFault writeClass slotOrArea first retry =>
    oneByte writeClass ++ oneByte slotOrArea ++ toBytes 4 first ++ toBytes 4 retry

/-- The calendar count of a stamp, 0 with the invalid-time marker. -/
def Stamp.count : Stamp → Nat
  | .counted n => n
  | .invalid => 0

/-- The stamp holds a time. -/
def Stamp.isValid : Stamp → Bool
  | .counted _ => true
  | .invalid => false

/-- The bytes of an entry before its check word. -/
def JournalEntry.body (e : JournalEntry) : List Byte :=
  let r := e.request
  let detail := r.detail.bytes
  toBytes 4 e.sequence ++ toBytes 4 r.stamp.count ++ oneByte (r.stamp.isValid.toNat + 2 * r.battery.toNat)
    ++ oneByte r.detail.kindNumber ++ balanceBytes r.balance ++ oneByte detail.length ++ detail

/-- An entry with its check word (R158). -/
def JournalEntry.bytes (e : JournalEntry) : List Byte := e.body ++ toBytes 4 (crc32 e.body).toNat

/-- An entry in its place in a list that ascends by sequence number. -/
def insertEntry (e : JournalEntry) : List JournalEntry → List JournalEntry
  | [] => [e]
  | x :: rest => if e.sequence < x.sequence then e :: x :: rest else x :: insertEntry e rest

/-- The valid entries at or above a sequence number, oldest first, at most 4 (R160). -/
def Part.journalFrom (n : Nat) (u : Part) : List JournalEntry :=
  let entries := (validSlots 0 u.array.journal.toList).map Prod.snd
  (((entries.filter (fun e => n ≤ e.sequence)).foldl (fun l e => insertEntry e l) [])).take 4

/-- The fields of READ_JOURNAL (R195). Once the numbers are used up the next one is sent as 0 (log 52). -/
def Part.journalFields (n : Nat) (u : Part) : List Byte :=
  let entries := u.journalFrom n
  toBytes 4 u.store.nextJournalSequence ++ oneByte entries.length ++ entries.flatMap JournalEntry.bytes

end Sys2Proof.Machine
end

