-- ==== Sys2Proof/Machine/SwitchEvents.lean ====
section
/-! DEFINITION. The events of a switching operation (R106 to R112, R119), of blanking (R115), of the contact watch (R116,
R117), of the retry timer (R113), and the requests that start an operation (R104, R118). -/

namespace Sys2Proof.Machine

/-! ### Stages -/

/-- The operation takes new values. -/
def Part.putOperation (op : Operation) (u : Part) : Part := { u with supply := { u.supply with relay := .operating op } }

/-- The operation enters a stage now. -/
def Part.enterStage (stage : Stage) (op : Operation) (u : Part) : Part :=
  u.putOperation { op with stage := stage, stageAt := u.timeBase }

/-- The coil drives take levels. -/
def Part.drive (openCoil closeCoil : Bool) (u : Part) : Part :=
  { u with outputs := { u.outputs with openCoil := openCoil, closeCoil := closeCoil } }

/-- PULSE begins: the coil of the direction is driven, and the other is not (R108). -/
def Part.startPulse (op : Operation) (u : Part) : Part :=
  (u.enterStage .pulse op).drive (decide (op.direction = .opening)) (decide (op.direction = .closing))

/-- DELAY begins; a delay of 0 ends at once (R107). -/
def Part.startDelay (synchronised : Bool) (op : Operation) (u : Part) : Part :=
  let op := { op with synchronised := synchronised }
  if op.relayDelay = 0 then u.startPulse op else u.enterStage .delay op

/-! ### The handshake (R106) -/

/-- Every awaited port has answered. -/
def Operation.allAnswered (op : Operation) : Bool :=
  (!op.awaited.m || op.answered.m) && (!op.awaited.k || op.answered.k)

/-- A SWITCH_READY from a link's port: an awaited port is marked answered, and the last answer ends HANDSHAKE (R106). -/
def Part.ready (l : Link) (u : Part) : Part :=
  match u.supply.relay with
  | .settled _ => u
  | .operating op =>
    if decide (op.stage = .handshake) && op.awaited.get l then
      let op := { op with answered := op.answered.set l true }
      if op.allAnswered then u.enterStage .zxWait op else u.putOperation op
    else u

/-- PARTICIPANT_ABSENT for a port that has not answered (R106). -/
def Part.absentEntry (op : Operation) (l : Link) (u : Part) : Part :=
  if op.awaited.get l && !op.answered.get l then u.journal (.participantAbsent l op.direction) else u

/-- T_h has passed. The entry of the M-port is requested before that of the K-port (log 59). After PFW the operation goes no
further (R119). -/
def Part.endHandshake (u : Part) : Part :=
  match u.supply.relay with
  | .settled _ => u
  | .operating op =>
    if decide (op.stage = .handshake) && u.running then
      ((u.absentEntry op .m).absentEntry op .k).enterStage .zxWait op
    else u

/-! ### ZX_WAIT, DELAY, PULSE (R107, R108) -/

/-- ZX_WAIT ends, at an edge or at its timeout. -/
def Part.endZxWait (synchronised : Bool) (u : Part) : Part :=
  match u.supply.relay with
  | .settled _ => u
  | .operating op => if decide (op.stage = .zxWait) && u.running then u.startDelay synchronised op else u

/-- DELAY ends. -/
def Part.endDelay (u : Part) : Part :=
  match u.supply.relay with
  | .settled _ => u
  | .operating op => if decide (op.stage = .delay) && u.running then u.startPulse op else u

/-- The pulse width ends: the drive ends and SETTLE begins; a pulse in progress at PFW runs on (R119). -/
def Part.endPulse (u : Part) : Part :=
  match u.supply.relay with
  | .settled _ => u
  | .operating op => if op.stage = .pulse then (u.drive false false).enterStage .settle op else u

/-! ### VERIFY (R109 to R112) -/

/-- The attempt succeeds (R109). -/
def Part.verifies (op : Operation) (u : Part) : Bool :=
  match op.direction with
  | .opening => !u.inputs.sense.any
  | .closing => u.inputs.sense.covers u.expectedPhases

/-- The state a successful operation settles in (R110). -/
def settledBy : Direction → Settled
  | .opening => .opened
  | .closing => .closed

/-- The fault state of a direction (R111). -/
def stuckBy : Direction → Settled
  | .opening => .stuckClosed
  | .closing => .stuckOpen

/-- The journal entry of a success (R110). -/
def successEntry (op : Operation) (record : OpeningRecord) : JournalDetail :=
  match op.direction with
  | .opening => .supplyOpened op.reason op.attempt record
  | .closing => .supplyClosed op.reason op.attempt

/-- A blanking interval begins, or one that runs is moved on: only a beginning closes the window (R44, R115). -/
def Part.startBlanking (u : Part) : Part :=
  let u := if u.supply.blankingUntil.isSome then u else u.unjudgedClose
  { u with supply := { u.supply with blankingUntil := some (u.timeBase + Config.seconds 2) } }

/-- VERIFY succeeds (R110, R112). The entry carries the balance before the shortfall of the window that blanking closes, by
the model's order of the effects (log 32). -/
def Part.succeed (op : Operation) (u : Part) : Part :=
  let st := settledBy op.direction
  let u := u.place (.supplyChanged st op.direction op.reason op.attempt op.synchronised)
  let u := u.journal (successEntry op u.supply.record)
  let u := u.startBlanking.settleRelay st
  (u.requestCheckpoint .relay).recompute

/-- The retry timer starts with FAULT_STUCK_CLOSED and with no other state (R113). -/
def Part.startRetryTimer (st : Settled) (u : Part) : Part :=
  { u with supply := { u.supply with
      retryAt := if st = .stuckClosed then some (u.timeBase + Config.seconds 3600) else none } }

/-- VERIFY fails on the third attempt (R111, R112). DEDUCED, unsafe (log 64): R107 has the synchronisation reported in the
results of R111 too, but R111, R121 and R195 give RELAY_FAULT direction, reason and sense alone, and the model follows them:
a fault reports no synchronisation. -/
def Part.fault (op : Operation) (u : Part) : Part :=
  let st := stuckBy op.direction
  let sense := u.inputs.sense
  let u := (u.settleRelay st).startRetryTimer st
  let u := u.place (.relayFault op.direction op.reason sense)
  let u := u.journal (.relayFault op.direction op.reason sense)
  (u.requestCheckpoint .relay).recompute

/-- VERIFY fails: a further attempt, which does not start after PFW, or the fault (R111, R119). After PFW the operation rests
in VERIFY with its attempt count as it stands (log 55). -/
def Part.failAttempt (op : Operation) (u : Part) : Part :=
  if 3 ≤ op.attempt then u.fault op
  else if u.running then u.enterStage .zxWait { op with attempt := op.attempt + 1 }
  else u.enterStage .verify op

/-- The settle time ends, and the contact sense is judged (R109). -/
def Part.endSettle (u : Part) : Part :=
  match u.supply.relay with
  | .settled _ => u
  | .operating op =>
    if op.stage = .settle then if u.verifies op then u.succeed op else u.failAttempt op else u

/-! ### Blanking and the contact watch (R115 to R117) -/

/-- The blanking interval ends; after PFW it ends with the main domain (R115; log 36). -/
def Part.endBlanking (u : Part) : Part :=
  if u.running && u.supply.blankingUntil.isSome then
    let u := { u with supply := { u.supply with blankingUntil := none } }
    match u.recon.mode with
    | .reported => u.openWindow
    | .pulseOnly => u
  else u

/-- Sense has been present for 5 s (R116). -/
def Part.bypassArises (u : Part) : Part :=
  if u.supply.bypassSince.isSome then u.setCondition .bypass true else u

/-- Sense has been absent for 5 s (R116). -/
def Part.bypassEnds (u : Part) : Part :=
  if u.supply.bypassGoneSince.isSome then u.setCondition .bypass false else u

/-- The expected phases have been absent for 5 s in CLOSED (R117). -/
def Part.jump (u : Part) : Part :=
  if u.supply.jumpSince.isSome && u.supply.relay.watchedForJump then u.startOperation .closing .jump else u

/-! ### The retry timer (R113) -/

/-- The retry timer expires in FAULT_STUCK_CLOSED. -/
def Part.retry (u : Part) : Part :=
  match u.supply.relay, u.supply.retryAt with
  | .settled .stuckClosed, some _ =>
    if u.supply.openRequired then u.startOperation .opening .retry else u.startRetryTimer .stuckClosed
  | _, _ => u

/-! ### Requests that start an operation (R104, R118) -/

/-- The reason of the closing that CONFIRM_RECONNECT starts, or none when it is answered NOT_AWAITING (R104). -/
def Part.confirmReason (u : Part) : Option Reason :=
  match u.supply.relay with
  | .settled .awaitingConfirm => some .confirmed
  | .settled .stuckOpen => if u.supply.openRequired then none else some .recovery
  | .settled .closed => none
  | .settled .opened => none
  | .settled .stuckClosed => none
  | .operating _ => none

/-- An operation is in progress. -/
def Relay.isOperating : Relay → Bool
  | .settled _ => false
  | .operating _ => true

end Sys2Proof.Machine
end

