-- ==== Sys2Proof/Machine/Requests.lean ====
section
/-! DEFINITION. The requests: their kinds, ports, lifecycles and payload lengths (R171, R190), and the effect and reply of
each at its owning block (R172). -/

namespace Sys2Proof.Machine

/-! ### Replies -/

/-- What a request answers: its status byte and the fields that follow. -/
structure Reply where
  status : Byte
  fields : List Byte
  deriving DecidableEq, Repr

/-- The statuses, in the order of R171's table. -/
def Status.ok : Byte := 0x00
def Status.queued : Byte := 0x01
def Status.clamped : Byte := 0x02
def Status.frameError : Byte := 0x03
def Status.notPermitted : Byte := 0x04
def Status.outOfRange : Byte := 0x05
def Status.queueFull : Byte := 0x06
def Status.lockedOut : Byte := 0x07
def Status.malformed : Byte := 0x08
def Status.notAvailable : Byte := 0x09
def Status.notAwaiting : Byte := 0x0A
def Status.noNotice : Byte := 0x0B
def Status.bankState : Byte := 0x0C
def Status.bankInvalid : Byte := 0x0D

/-- The status alone. -/
def justStatus (status : Byte) : Reply := { status := status, fields := [] }

/-- OK with fields. -/
def okWith (fields : List Byte) : Reply := { status := Status.ok, fields := fields }

/-! ### The supervision of the links (R173, R174) -/

/-- A link's monitor takes a state. -/
def Part.putLinkState (l : Link) (st : LinkState) (u : Part) : Part :=
  { u with links := u.links.set l { u.links.get l with state := st } }

/-- A link becomes LOST, and the change is handed on (R174). -/
def Part.loseLink (l : Link) (u : Part) : Part :=
  let u := u.putLinkState l .lost
  match l with
  | .m => u.enterPulseOnly
  | .k => u.setCondition .interfaceLinkLost true

/-- A link is judged against thresholds that have just changed (R173). -/
def Part.judgeLink (l : Link) (u : Part) : Part :=
  let u := if u.suspectDue l then u.putLinkState l .suspect else u
  if u.lostDue l then u.loseLink l else u

/-! ### Each request's effect -/

/-- ENERGY_REPORT (R38). -/
def Part.energyReport (b : List Byte) (u : Part) : Part × Reply :=
  if 60000 < reportImport b || 60000 < reportExport b then (u, justStatus Status.outOfRange)
  else
    let u := u.acceptReport (reportImport b) (reportExport b) (reportPhases b) (reportNeutral b)
    (u, okWith u.reportFields)

/-- SWITCH_READY (R106). -/
def Part.switchReady (p : Port) (u : Part) : Part × Reply :=
  match portLink p with
  | some l => (u.ready l, justStatus Status.ok)
  | none => (u, justStatus Status.ok)

/-- The quota of a port in the code queue (R76, R77). -/
def codeQuota : Port → Nat
  | .m => 0
  | .k => 2
  | .s => 3

/-- SUBMIT_CODE, in the order of R76's tests. -/
def Part.submitCode (p : Port) (b : List Byte) (u : Part) : Part × Reply :=
  if (u.codes.portCodes p).lockedUntil.isSome then (u, justStatus Status.lockedOut)
  else if !isCode b then (u, justStatus Status.malformed)
  else if 4 ≤ u.codes.queue.length || codeQuota p ≤ u.codes.occupancy p then (u, justStatus Status.queueFull)
  else
    let u := u.joinQueue { port := p, digits := b }
    (u, { status := Status.queued, fields := oneByte u.codes.queue.length })

/-- TAKE_EC (R14). -/
def Part.takeEc (u : Part) : Part × Reply :=
  if u.account.ecAvailable then
    (Part.derive (u.putAccount (u.account.granted (u.bankValue bankEcAmount 0))), justStatus Status.ok)
  else (u, justStatus Status.notAvailable)

/-- CONFIRM_RECONNECT (R104). -/
def Part.confirmReconnect (u : Part) : Part × Reply :=
  match u.confirmReason with
  | some r => (u.startOperation .closing r, justStatus Status.ok)
  | none => (u, justStatus Status.notAwaiting)

/-- READ_DISPLAY: the estimate is read and stored (R48, R192). -/
def Part.readDisplay (u : Part) : Part × Reply :=
  let u := u.readEstimate
  (u, okWith u.displayFields)

/-- READ_STATE (R177). -/
def Part.readState (u : Part) : Part × Reply := (u, okWith u.stateFields)

/-- READ_REGISTERS (R191). -/
def Part.readRegisters (b : List Byte) (u : Part) : Part × Reply :=
  match u.registerGroup (groupNumber b) with
  | some fields => (u, okWith fields)
  | none => (u, justStatus Status.outOfRange)

/-- TARIFF_WRITE (R55). -/
def Part.tariffWrite (b : List Byte) (u : Part) : Part × Reply :=
  if bankRangeOk (writeOffset b) (writeData b).length then
    (u.writePending (writeOffset b) (writeData b), justStatus Status.ok)
  else (u, justStatus Status.outOfRange)

/-- TARIFF_FINISH (R56). -/
def Part.tariffFinish (u : Part) : Part × Reply :=
  match u.tariff.pending with
  | .empty => (u, justStatus Status.bankState)
  | .finished f => (u, okWith (toBytes 3 f))
  | .scheduled f => (u, okWith (toBytes 3 f))
  | .loading =>
    match bankFault u.tariff.pendingImage with
    | some off => (u, { status := Status.bankInvalid, fields := toBytes 2 off })
    | none =>
      let f := fingerprintOf u.tariff.pendingImage
      ({ u with tariff := { u.tariff with pending := .finished f } }, okWith (toBytes 3 f))

/-- TARIFF_DISCARD (R59). -/
def Part.tariffDiscard (u : Part) : Part × Reply := (u.emptyPending, justStatus Status.ok)

/-- TARIFF_READ (R59). -/
def Part.tariffRead (b : List Byte) (u : Part) : Part × Reply :=
  if bankRangeOk (readOffset b) (readLength b) then
    match readBank b with
    | 0 =>
      match u.activeBank with
      | some i => (u, okWith (slice i (readOffset b) (readLength b)))
      | none => (u, justStatus Status.bankState)
    | 1 => (u, okWith (slice u.tariff.pendingImage (readOffset b) (readLength b)))
    | _ => (u, justStatus Status.outOfRange)
  else (u, justStatus Status.outOfRange)

/-- The fields of SET_TIME: the applied change and the count after it (R67, R68). -/
def timeFields (applied : Int) (after : Nat) : List Byte := toBytesSigned 5 applied ++ toBytes 4 after

/-- SET_TIME (R67 to R69). -/
def Part.setTime (b : List Byte) (u : Part) : Part × Reply :=
  let count := wholeNumber b
  let old := u.clock
  if u.clampsTime then
    let status := if old.clampedCount count = count then Status.ok else Status.clamped
    (u.setTimeClamped count,
      { status := status, fields := timeFields (old.appliedChange count) (old.clampedCount count) })
  else (u.setTimeUnclamped count, okWith (timeFields ((count : Int) - old.count) count))

/-- READ_JOURNAL (R160). -/
def Part.readJournal (b : List Byte) (u : Part) : Part × Reply := (u, okWith (u.journalFields (wholeNumber b)))

/-- FETCH_NOTICE (R181). -/
def Part.fetchNotice (p : Port) (u : Part) : Part × Reply :=
  let n := u.notices.get p
  match n.choice with
  | some x =>
    let after := n.handOut x
    (u.putNotices p after, okWith (noticeFields x after.size))
  | none => (u, { status := Status.noNotice, fields := oneByte n.size })

/-- NOTICE_DONE (R182). -/
def Part.noticeDone (p : Port) (u : Part) : Part × Reply :=
  let n := u.notices.get p
  let after := { n with inService := n.inService.dropHighest }
  (u.putNotices p after, okWith (oneByte after.inService.highest))

/-! ### Configuration requests (R186) -/

/-- A waiting write is a configuration write. -/
def Class2Write.isConfig : Class2Write → Bool
  | .bank _ _ => false
  | .config _ _ => true

/-- 8 configuration item writes wait in the write queue (R186). -/
def Part.configQueueFull (u : Part) : Bool := decide (8 ≤ (u.store.class2.filter Class2Write.isConfig).length)

/-- An item is marked unstored. -/
def Configuration.markUnstored (c : Configuration) (item : ConfigItem) : Configuration :=
  if c.unstored.contains item then c else { c with unstored := c.unstored ++ [item] }

/-- A change of n_m or n_k is judged at once (R173). -/
def Part.judgeAfter (item : ConfigItem) (u : Part) : Part :=
  match item with
  | .nm => u.judgeLink .m
  | .nk => u.judgeLink .k
  | .mid | .pulseWeight | .pmax | .importOnly | .relayDelay | .pulseWidth | .settleTime | .mh | .participants
  | .level _ | .routing _ | .key _ => u

/-- The live copy takes a value, the check engine takes a key slot, and the write of the item is handed over (R73, R186). That
the write is handed over before a link is judged, and so before the writes that a loss leads to, is the model's choice (log
67). -/
def Part.putItem (item : ConfigItem) (value : ConfigValue) (u : Part) : Part :=
  let live := u.config.live.put item value
  let u := { u with
    config := { u.config with live := live }.markUnstored item,
    codes := { u.codes with slots := live.keys } }
  Part.judgeAfter item (u.submitClass2 (.config item value))

/-- An item write that has passed its range checks: refused while 8 wait (R186). -/
def Part.writeItem (item : ConfigItem) (value : ConfigValue) (u : Part) : Part × Reply :=
  if u.configQueueFull then (u, justStatus Status.notPermitted) else (u.putItem item value, justStatus Status.ok)

/-- CONFIG_WRITE (R186). -/
def Part.configWrite (b : List Byte) (u : Part) : Part × Reply :=
  match configItem (field b 0 1) with
  | none => (u, justStatus Status.outOfRange)
  | some item =>
    if itemRange item (field b 1 4) then u.writeItem item (.number (field b 1 4))
    else (u, justStatus Status.outOfRange)

/-- LOAD_KEY (R186). -/
def Part.loadKey (b : List Byte) (u : Part) : Part × Reply :=
  match keySlot b with
  | none => (u, justStatus Status.outOfRange)
  | some slot =>
    u.writeItem (.key slot) (.keyWords (keyWord b 0) (keyWord b 1) (keyWord b 2) (keyWord b 3))

/-- ACTIVATE_INITIAL_BANK (R187). -/
def Part.activateInitialBank (u : Part) : Part × Reply :=
  if u.canActivate && u.tariff.pending.fingerprint.isSome then
    (u.startActivation .initial, justStatus Status.ok)
  else (u, justStatus Status.bankState)

/-- RELAY_TEST in PROVISIONING (R118). -/
def Part.relayTest (b : List Byte) (u : Part) : Part × Reply :=
  match testDirection b with
  | none => (u, justStatus Status.outOfRange)
  | some dir =>
    if u.supply.relay.isOperating then (u, justStatus Status.notPermitted)
    else (u.startOperation dir .test, justStatus Status.ok)

/-- A configuration write is in flight. -/
def Store.writesConfig (t : Store) : Bool :=
  match t.inFlight with
  | some (.config _ _ _) => true
  | some (.checkpoint _) | some (.bank _ _ _) | some (.journal _ _ _ _) | none => false

/-- The conditions of ENTER_SERVICE (R188). -/
def Part.mayEnterService (u : Part) : Bool :=
  decide (u.config.live.mid ≠ 0) && (u.config.live.keys.get 0).loaded && u.activeBank.isSome && u.clock.valid
    && !u.store.class2.any Class2Write.isConfig && !u.store.writesConfig && u.config.unstored.isEmpty

/-- ENTER_SERVICE (R188). -/
def Part.enterService (u : Part) : Part × Reply :=
  if u.mayEnterService then
    (Part.requestCheckpoint .service (Part.markDue { u with lifecycle := .inService }), justStatus Status.ok)
  else (u, justStatus Status.notPermitted)

/-! ### Kinds and permissions (R171, R190) -/

/-- The requests, in the order of their kinds. -/
inductive ReqKind where
  | energyReport | switchReady | submitCode | takeEc | confirmReconnect | readDisplay | readState | readRegisters
  | tariffWrite | tariffFinish | tariffDiscard | tariffRead | setTime | readJournal | fetchNotice | noticeDone
  | configWrite | loadKey | activateInitialBank | relayTest | enterService
  deriving DecidableEq, Repr

/-- The kind byte of a request. -/
def ReqKind.byte : ReqKind → Byte
  | .energyReport => 0x01
  | .switchReady => 0x02
  | .submitCode => 0x03
  | .takeEc => 0x04
  | .confirmReconnect => 0x05
  | .readDisplay => 0x06
  | .readState => 0x07
  | .readRegisters => 0x08
  | .tariffWrite => 0x09
  | .tariffFinish => 0x0A
  | .tariffDiscard => 0x0B
  | .tariffRead => 0x0C
  | .setTime => 0x0D
  | .readJournal => 0x0E
  | .fetchNotice => 0x0F
  | .noticeDone => 0x10
  | .configWrite => 0x11
  | .loadKey => 0x12
  | .activateInitialBank => 0x13
  | .relayTest => 0x14
  | .enterService => 0x15

/-- The request that a kind byte names. -/
def reqKindOf (kind : Byte) : Option ReqKind :=
  match kind.toNat with
  | 0x01 => some .energyReport
  | 0x02 => some .switchReady
  | 0x03 => some .submitCode
  | 0x04 => some .takeEc
  | 0x05 => some .confirmReconnect
  | 0x06 => some .readDisplay
  | 0x07 => some .readState
  | 0x08 => some .readRegisters
  | 0x09 => some .tariffWrite
  | 0x0A => some .tariffFinish
  | 0x0B => some .tariffDiscard
  | 0x0C => some .tariffRead
  | 0x0D => some .setTime
  | 0x0E => some .readJournal
  | 0x0F => some .fetchNotice
  | 0x10 => some .noticeDone
  | 0x11 => some .configWrite
  | 0x12 => some .loadKey
  | 0x13 => some .activateInitialBank
  | 0x14 => some .relayTest
  | 0x15 => some .enterService
  | _ => none

/-- The port is one of those the table of R171 lists for the request. -/
def ReqKind.onPort (k : ReqKind) (p : Port) : Bool :=
  match k with
  | .energyReport => p = .m
  | .switchReady => p = .m || p = .k
  | .submitCode => p = .k || p = .s
  | .takeEc | .confirmReconnect | .readDisplay => p = .k
  | .readState | .fetchNotice | .noticeDone => true
  | .readRegisters | .tariffWrite | .tariffFinish | .tariffDiscard | .tariffRead | .setTime | .readJournal
  | .configWrite | .loadKey | .activateInitialBank | .relayTest | .enterService => p = .s

/-- The request is listed for PROVISIONING alone. -/
def ReqKind.provisioningOnly : ReqKind → Bool
  | .configWrite | .loadKey | .activateInitialBank | .relayTest | .enterService => true
  | .energyReport | .switchReady | .submitCode | .takeEc | .confirmReconnect | .readDisplay | .readState
  | .readRegisters | .tariffWrite | .tariffFinish | .tariffDiscard | .tariffRead | .setTime | .readJournal
  | .fetchNotice | .noticeDone => false

/-- The payload length is one the request admits (R190). A SUBMIT_CODE of any length reaches its owner (R76). -/
def ReqKind.admits (k : ReqKind) (n : Nat) : Bool :=
  match k with
  | .energyReport => n = 6
  | .submitCode => true
  | .readRegisters | .relayTest => n = 1
  | .tariffWrite => within 3 66 n
  | .tariffRead | .setTime | .readJournal => n = 4
  | .configWrite => n = 5
  | .loadKey => n = 17
  | .switchReady | .takeEc | .confirmReconnect | .readDisplay | .readState | .tariffFinish | .tariffDiscard
  | .fetchNotice | .noticeDone | .activateInitialBank | .enterService => n = 0

/-- The request is permitted on the port in the lifecycle (R171). -/
def ReqKind.permitted (k : ReqKind) (p : Port) (l : Lifecycle) : Bool :=
  k.onPort p && (!k.provisioningOnly || decide (l = .provisioning))

/-- The effect and the reply of a request at its owning block. -/
def ReqKind.effect (k : ReqKind) (p : Port) (b : List Byte) (u : Part) : Part × Reply :=
  match k with
  | .energyReport => u.energyReport b
  | .switchReady => u.switchReady p
  | .submitCode => u.submitCode p b
  | .takeEc => u.takeEc
  | .confirmReconnect => u.confirmReconnect
  | .readDisplay => u.readDisplay
  | .readState => u.readState
  | .readRegisters => u.readRegisters b
  | .tariffWrite => u.tariffWrite b
  | .tariffFinish => u.tariffFinish
  | .tariffDiscard => u.tariffDiscard
  | .tariffRead => u.tariffRead b
  | .setTime => u.setTime b
  | .readJournal => u.readJournal b
  | .fetchNotice => u.fetchNotice p
  | .noticeDone => u.noticeDone p
  | .configWrite => u.configWrite b
  | .loadKey => u.loadKey b
  | .activateInitialBank => u.activateInitialBank
  | .relayTest => u.relayTest b
  | .enterService => u.enterService

/-- A request at the port controller: NOT_PERMITTED, OUT_OF_RANGE for its payload length, or its owner's reply (R171). -/
def Part.perform (kind : Byte) (p : Port) (b : List Byte) (u : Part) : Part × Reply :=
  match reqKindOf kind with
  | none => (u, justStatus Status.notPermitted)
  | some k =>
    if k.permitted p u.lifecycle then
      if k.admits b.length then k.effect p b u else (u, justStatus Status.outOfRange)
    else (u, justStatus Status.notPermitted)

end Sys2Proof.Machine
end

