-- ==== Sys2Proof/Machine/Ports.lean ====
section
/-! DEFINITION. The port controller: the receive states (R168, R169), the judgement and the taking of a frame (R170, R172),
the link supervision (R173, R174) and the port reset (R175). -/

namespace Sys2Proof.Machine

/-! ### Frames (R167) -/

/-- The start byte of a frame. -/
def startByte : Byte := 0xC3

/-- The length byte of a frame with this payload. -/
def lengthByte (payload : List Byte) : Byte := BitVec.ofNat 8 (min 255 (payload.length + 1))

/-- The two check bytes of a frame. -/
def frameCheck (length : Byte) (kept : List Byte) : Nat := (crc16 (length :: kept)).toNat

/-- The bytes of a frame, a request's or a response's, in order of transmission. -/
def frameBytes (kind : Byte) (payload : List Byte) : List Byte :=
  startByte :: lengthByte payload :: kind :: payload
    ++ toBytes 2 (frameCheck (lengthByte payload) (kind :: payload))

/-! ### The receiver -/

/-- A port's receiver takes a state. -/
def Part.setReceive (p : Port) (st : Receive) (u : Part) : Part :=
  { u with receivers := u.receivers.set p { u.receivers.get p with state := st } }

/-- A port's receiver takes a state at a character, from which silence is measured (R169). -/
def Part.hear (p : Port) (st : Receive) (u : Part) : Part :=
  { u with receivers := u.receivers.set p { state := st, lastCharacter := u.timeBase } }

/-- A frame error is taken: FRAME_ERROR with response kind 0xFF (R170). -/
def Part.frameError (p : Port) (u : Part) : Part :=
  u.setReceive p (.busy (frameBytes 0xFF [Status.frameError]))

/-! ### Taking a request (R170, R172 to R174) -/

/-- The monitor of a link after a valid frame: UP, with its silence at 0 (R173). -/
def Part.restartLink (l : Link) (u : Part) : Part :=
  { u with links := u.links.set l { state := .up, lastFrame := u.timeBase } }

/-- A valid frame makes its port's link UP; the K-link leaving LOST ends INTERFACE_LINK_LOST (R173, R174). -/
def Part.linkUp (p : Port) (u : Part) : Part :=
  match p with
  | .s => u
  | .m => u.restartLink .m
  | .k =>
    let lost := decide (u.links.k.state = .lost)
    let u := u.restartLink .k
    if lost then u.setCondition .interfaceLinkLost false else u

/-- A valid frame begins to be taken: the receiver enters BUSY and the link comes up (R170, R174). -/
def Part.beginTaking (p : Port) (kind : Byte) (u : Part) : Part :=
  (u.setReceive p (.busy (frameBytes (kind + 0x80) []))).linkUp p

/-- A valid frame is taken: the request has its effect, and the response is formed just after (R170, R172). -/
def Part.takeFrame (p : Port) (kind : Byte) (payload : List Byte) (u : Part) : Part :=
  let answered := (u.beginTaking p kind).perform kind p payload
  answered.1.setReceive p
    (.busy (frameBytes (kind + 0x80) (answered.2.status :: answered.2.fields)))

/-- A frame whose check matches (R170). -/
def Part.takeChecked (p : Port) (kind : Byte) (payload : List Byte) (u : Part) : Part :=
  if 0x80 ≤ kind.toNat then u.frameError p else u.takeFrame p kind payload

/-- The frame is complete and is judged (R170); `kept` holds the kind and the payload. -/
def Part.judgeFrame (p : Port) (length : Byte) (kept : List Byte) (first second : Byte) (u : Part) : Part :=
  match kept with
  | [] => u.frameError p
  | kind :: payload =>
    if frameCheck length kept = beNat [first, second] then u.takeChecked p kind payload else u.frameError p

/-- A byte of the body is kept; the last due leads to CHECK (R168). -/
def afterBody (length : Byte) (due : Nat) (kept : List Byte) (c : Byte) : Receive :=
  if due ≤ 1 then .check length (kept ++ [c]) none else .body length (due - 1) (kept ++ [c])

/-- What a length byte leads to (R168, R169). -/
def afterLength (c : Byte) : Receive :=
  if 1 ≤ c.toNat && c.toNat ≤ 201 then .body c c.toNat [] else .drain true

/-- A character without error (R168). -/
def Part.receiveGood (p : Port) (c : Byte) (u : Part) : Part :=
  match (u.receivers.get p).state with
  | .stopped => u
  | .held => u
  | .hunt => u.hear p (if c = startByte then .length else .hunt)
  | .length => u.hear p (afterLength c)
  | .body length due kept => u.hear p (afterBody length due kept c)
  | .check length kept none => u.hear p (.check length kept (some c))
  | .check length kept (some first) =>
    Part.judgeFrame p length kept first c (u.hear p (.check length kept (some first)))
  | .drain owed => u.hear p (.drain owed)
  | .busy frame => u.hear p (.busy frame)

/-- A character error (R168, R169). -/
def Part.receiveBad (p : Port) (u : Part) : Part :=
  match (u.receivers.get p).state with
  | .stopped => u
  | .held => u
  | .hunt => u.hear p .hunt
  | .length => u.hear p (.drain false)
  | .body _ _ _ => u.hear p (.drain false)
  | .check _ _ _ => u.hear p (.drain false)
  | .drain owed => u.hear p (.drain owed)
  | .busy frame => u.hear p (.busy frame)

/-- More than 20 ms without a character (R169). -/
def Part.receiveSilence (p : Port) (u : Part) : Part :=
  match (u.receivers.get p).state with
  | .length => u.setReceive p .hunt
  | .body _ _ _ => u.setReceive p .hunt
  | .check _ _ _ => u.setReceive p .hunt
  | .drain false => u.setReceive p .hunt
  | .drain true => u.frameError p
  | .stopped => u
  | .held => u
  | .hunt => u
  | .busy _ => u

/-- The last stop bit of the response has been sent: HUNT, or STOPPED after PFW (R170, R176). -/
def Part.endResponse (p : Port) (u : Part) : Part :=
  match (u.receivers.get p).state with
  | .busy _ => u.setReceive p (if u.running then .hunt else .stopped)
  | .stopped | .held | .hunt | .length | .body _ _ _ | .check _ _ _ | .drain _ => u

/-! ### A whole frame (log 12) -/

/-- The characters of a frame received one after another. -/
def Part.receiveAll (p : Port) (bytes : List Byte) (u : Part) : Part :=
  bytes.foldl (fun v c => v.receiveGood p c) u

/-- A receiver in HUNT hears a whole frame: it takes the frame at its last byte. -/
def Part.hearFrame (p : Port) (kind : Byte) (payload : List Byte) (u : Part) : Part :=
  (u.hear p .hunt).takeChecked p kind payload

/-- A request's frame arrives whole. In HUNT it is taken; in every other state, and when it is longer than a frame can be,
its bytes are received as R168 says (log 12). -/
def Part.frameArrives (p : Port) (kind : Byte) (payload : List Byte) (u : Part) : Part :=
  match (u.receivers.get p).state with
  | .hunt => if payload.length ≤ 200 then u.hearFrame p kind payload else u.receiveAll p (frameBytes kind payload)
  | .stopped => u
  | .held => u
  | .busy _ => u
  | .length | .body _ _ _ | .check _ _ _ | .drain _ => u.receiveAll p (frameBytes kind payload)

/-! ### Link supervision (R173, R174, R176) -/

/-- A link's silence reaches T; the supervision stops at PFW (R173, R176). -/
def Part.suspectLink (l : Link) (u : Part) : Part :=
  if u.running && decide ((u.links.get l).state = .up) then u.putLinkState l .suspect else u

/-- A link's silence reaches 4 × T (R173, R174). -/
def Part.linkExpires (l : Link) (u : Part) : Part :=
  if u.running && decide ((u.links.get l).state = .suspect) then u.loseLink l else u

/-! ### Port reset (R175) -/

/-- The port reset input takes a level. -/
def Part.setResetInput (p : Port) (b : Bool) (u : Part) : Part :=
  { u with inputs := { u.inputs with portReset := u.inputs.portReset.set p b } }

/-- The levels in service of a port are cleared, and its line re-evaluated (R175, R180). -/
def Part.clearLevels (p : Port) (u : Part) : Part :=
  u.putNotices p { u.notices.get p with inService := Levels.none }

/-- The receiver of a port in reset. After PFW a receiver in STOPPED stays so, and one in BUSY enters HELD (log 49). -/
def Receive.inReset : Receive → Receive
  | .stopped => .stopped
  | .held | .hunt | .length | .body _ _ _ | .check _ _ _ | .drain _ | .busy _ => .held

/-- A port reset is asserted (R175). -/
def Part.assertReset (p : Port) (u : Part) : Part :=
  let u := u.setResetInput p true
  if u.mainOn then (u.setReceive p (u.receivers.get p).state.inReset).clearLevels p else u

/-- A port reset is released: HUNT, or STOPPED after PFW (R175, R176). -/
def Part.releaseReset (p : Port) (u : Part) : Part :=
  let u := u.setResetInput p false
  match (u.receivers.get p).state with
  | .held => u.setReceive p (if u.running then .hunt else .stopped)
  | .stopped | .hunt | .length | .body _ _ _ | .check _ _ _ | .drain _ | .busy _ => u

end Sys2Proof.Machine
end

