-- ==== Sys2Proof/Machine/PortCommands.lean ====
section
/-! DEFINITION. The meanings of the events on the serial lines, the port resets and the link silences (R168 to R176). -/

namespace Sys2Proof.Machine

/-- A character, with its stop bit low or not (R168, R169). -/
def Part.receive (p : Port) (c : Byte) (stopBitLow : Bool) (u : Part) : Part :=
  if stopBitLow then u.receiveBad p else u.receiveGood p c

/-- CHARACTER_RECEIVED (R168). -/
def execCharacterReceived (p : Port) (c : Byte) (stopBitLow : Bool) (s : State) : Host.Outcome State Fault Refusal :=
  answer s (Part.receive p c stopBitLow)

/-- RECEIVE_SILENCE_TIMEOUT (R169). -/
def execReceiveSilenceTimeout (p : Port) (s : State) : Host.Outcome State Fault Refusal :=
  expire (.receiveSilenceTimeout p) s (Part.receiveSilence p)

/-- RESPONSE_SENT (R170). -/
def execResponseSent (p : Port) (s : State) : Host.Outcome State Fault Refusal :=
  answer s (Part.endResponse p)

/-- PORT_RESET_ASSERT (R175). -/
def execPortResetAssert (p : Port) (s : State) : Host.Outcome State Fault Refusal :=
  answer s (Part.assertReset p)

/-- PORT_RESET_RELEASE (R175). -/
def execPortResetRelease (p : Port) (s : State) : Host.Outcome State Fault Refusal :=
  answer s (Part.releaseReset p)

/-- LINK_SUSPECT (R173). -/
def execLinkSuspect (l : Link) (s : State) : Host.Outcome State Fault Refusal :=
  expire (.linkSuspect l) s (Part.suspectLink l)

/-- LINK_LOST (R174). -/
def execLinkLost (l : Link) (s : State) : Host.Outcome State Fault Refusal :=
  expire (.linkLost l) s (Part.linkExpires l)

end Sys2Proof.Machine
end

