-- ==== Sys2Proof/Machine/StoreEvents.lean ====
section
/-! DEFINITION. The end of each kind of write attempt (R152, R154, R156, R157, R159, R161, R186) and the hourly timer
(R155). While an attempt's end is handled the attempt stays in flight, so that what it prompts waits its turn; the next
attempt is chosen at the end (R151; log 14). -/

namespace Sys2Proof.Machine

/-- The attempt in flight takes a new value. -/
def Part.putInFlight (a : Option Attempt) (u : Part) : Part := { u with store := { u.store with inFlight := a } }

/-- The attempt has ended and the next one is chosen (R151). -/
def Part.endAttempt (u : Part) : Part := Part.startNext (u.putInFlight none)

/-- The failure run takes a value (R152). -/
def Part.setFailureRun (n : Nat) (u : Part) : Part := { u with store := { u.store with failureRun := n } }

/-- A failed attempt: the run rises, and at 2 with STORE_FAULT false the condition arises (R152). -/
def Part.noteFailure (u : Part) : Part :=
  let run := min 255 (u.store.failureRun + 1)
  let u := u.setFailureRun run
  if decide (2 ≤ run) && !u.condition .storeFault then u.setCondition .storeFault true else u

/-- The number of a tariff area or, as 2, the configuration area in a STORE_FAULT entry (R195; log 27). -/
def configAreaNumber : Nat := 2

/-- The STORE_FAULT entry of a failed retry, of class 2 or 3 (R152, R195). -/
def Part.faultEntry (writeClass slotOrArea : Nat) (u : Part) : Part :=
  u.journal (.storeFault writeClass slotOrArea 0 0)

/-! ### Checkpoints -/

/-- The code and the activation that a checkpoint served learn its outcome (R90, R62). Where one checkpoint serves both, the
code's result is placed first, with the balance before the charge of a midnight that waited for the activation (log 58). -/
def Part.reportCheckpoint (c : CheckpointAttempt) (stored : Bool) (u : Part) : Part :=
  let u := if c.carriesCode then u.endCommit stored else u
  if c.carriesActivation then u.completeActivation stored else u

/-- A checkpoint written successfully has carried the area that it names (R61; log 11). -/
def Part.noteCarried (named : Option Area) (u : Part) : Part :=
  { u with tariff := { u.tariff with areaCarried := u.tariff.areaCarried || decide (named = u.tariff.activeArea) } }

/-- A checkpoint reads back: its slot is valid, the run is 0, the flag is set only by changes since the snapshot, and
STORE_FAULT ends (R152, R156). -/
def Part.checkpointStored (c : CheckpointAttempt) (u : Part) : Part :=
  let u := { u with array := u.array.setLog c.slot (.valid c.record), checkpointDue := c.changedSince }
  let u := (u.setFailureRun 0).setCondition .storeFault false
  ((u.noteCarried c.record.activeArea).reportCheckpoint c true).endAttempt

/-- The retry of a checkpoint: the same snapshot under the next slot and sequence number (R152, R157). -/
def Part.retryCheckpoint (c : CheckpointAttempt) (u : Part) : Part :=
  let n := u.store.nextSequence
  let slot := u.store.nextSlot
  let writesNothing := decide (lastSequence < n)
  let array := if writesNothing then u.array else u.array.setLog slot .invalid
  let attempt := { c with
    record := { c.record with sequence := n }, slot := slot, retry := true, writesNothing := writesNothing }
  { u with
    array := array,
    store := { u.store with
      inFlight := some (.checkpoint attempt),
      nextSlot := if writesNothing then u.store.nextSlot else array.slotAfter slot,
      nextSequence := if writesNothing then n else n + 1 } }

/-- A checkpoint has failed twice (R152). The slot its entry names is the retry's (log 51). A number that is
used up is sent as 0 (log 52). -/
def Part.checkpointLost (c : CheckpointAttempt) (u : Part) : Part :=
  let u := u.journal (.storeFault 1 c.slot c.firstSequence c.record.sequence)
  (u.noteFailure.reportCheckpoint c false).endAttempt

/-- A checkpoint attempt ends. An attempt that wrote nothing has failed (R157). -/
def Part.endCheckpoint (c : CheckpointAttempt) (readBack : Bool) (u : Part) : Part :=
  if readBack && !c.writesNothing then u.checkpointStored c
  else if c.retry then u.checkpointLost c
  else (u.retryCheckpoint c).noteFailure

/-! ### Tariff banks -/

/-- A tariff area takes contents. -/
def Part.putArea (a : Area) (x : AreaContents) (u : Part) : Part :=
  match a with
  | .areaA => { u with array := { u.array with areaA := x } }
  | .areaB => { u with array := { u.array with areaB := x } }

/-- The activation enters its checkpoint step (R61 step 3). -/
def Tariff.reachCheckpoint (t : Tariff) : Tariff :=
  { t with activation := t.activation.map (fun a => { a with phase := .checkpoint }) }

/-- A bank write reads back: the activation requests its checkpoint (R61). -/
def Part.bankStored (a : Area) (i : Image) (u : Part) : Part :=
  let u := (u.putArea a (.image i)).setFailureRun 0
  let u := Part.requestCheckpoint .activation { u with tariff := u.tariff.reachCheckpoint }
  u.endAttempt

/-- A bank write attempt ends. After PFW a failed attempt is not retried and the activation goes no further (R161). DESIGN
CHOICE, unsafe (log 63): of the effects that R62 gives a write which fails twice, R161 excludes BANK_REOPENED alone; the model
then places no CODE_RESULT ACTIVATION_FAILED for a TARIFF_NOW either, a retry in flight at PFW included, and leaves the
activation, and a midnight that waits for it, to the stop. -/
def Part.endBankWrite (a : Area) (i : Image) (retry readBack : Bool) (u : Part) : Part :=
  if readBack then u.bankStored a i
  else
    let u := u.putArea a .damaged
    if retry then
      let u := (u.faultEntry 2 (areaNumber a)).noteFailure
      (if u.running then u.failActivation else u).endAttempt
    else if u.running then (u.putInFlight (some (.bank a i true))).noteFailure
    else u.noteFailure.endAttempt

/-! ### Configuration items -/

/-- A later write of the item waits. -/
def Store.awaitsItem (t : Store) (item : ConfigItem) : Bool :=
  t.class2.any (fun w => match w with
    | .config i _ => decide (i = item)
    | .bank _ _ => false)

/-- A later write of the item waits, or PFW discarded one that waited (R186; log 23). -/
def Store.keepsMark (t : Store) (item : ConfigItem) : Bool := t.awaitsItem item || t.discarded.contains item

/-- An item is stored: its mark is cleared unless a later write of it waits or was discarded (R186; log 23). -/
def Part.itemStored (item : ConfigItem) (value : ConfigValue) (u : Part) : Part :=
  let unstored := if u.store.keepsMark item then u.config.unstored else u.config.unstored.filter (fun i => i != item)
  { u with
    array := { u.array with config := u.array.config.put item value },
    config := { u.config with unstored := unstored } }

/-- A configuration write attempt ends (R152, R186). A failed first attempt is retried after PFW too: R161 takes the retry from
bank writes alone (log 22). -/
def Part.endConfigWrite (item : ConfigItem) (value : ConfigValue) (retry readBack : Bool) (u : Part) : Part :=
  if readBack then ((u.itemStored item value).setFailureRun 0).endAttempt
  else if retry then ((u.faultEntry 2 configAreaNumber).noteFailure).endAttempt
  else (u.putInFlight (some (.config item value true))).noteFailure

/-! ### Journal entries -/

/-- JOURNAL_ADDED for an entry that has been written (R159). That of a flushed battery event is lost at step 4 of main start
(R183; log 24), so it is not placed. -/
def Part.noticeEntry (e : JournalEntry) (u : Part) : Part :=
  if e.request.battery then u else u.place (.journalAdded e.sequence e.request.detail.kindNumber)

/-- A journal entry reads back: its slot is valid, and the notice of it follows (R159). -/
def Part.entryStored (e : JournalEntry) (slot : Nat) (u : Part) : Part :=
  let u := Part.setFailureRun 0 { u with array := u.array.setJournal slot (.valid e) }
  (u.noticeEntry e).endAttempt

/-- A journal write attempt ends (R152, R159). -/
def Part.endJournalWrite (e : JournalEntry) (slot : Nat) (retry writesNothing readBack : Bool) (u : Part) : Part :=
  if readBack && !writesNothing then u.entryStored e slot
  else if retry then ((u.faultEntry 3 slot).noteFailure).endAttempt
  else (u.putInFlight (some (.journal e slot true writesNothing))).noteFailure

/-! ### The hourly timer (R155) -/

/-- The hourly timer starts at 3,600 s. -/
def Part.startHourly (u : Part) : Part :=
  { u with store := { u.store with hourlyAt := some (u.timeBase + Config.seconds 3600) } }

/-- A checkpoint is requested when the checkpoint-due flag is set. -/
def Part.requestIfDue (r : CheckpointReason) (u : Part) : Part := if u.checkpointDue then u.requestCheckpoint r else u

/-- The hourly timer expires; after PFW it stops. -/
def Part.hourly (u : Part) : Part :=
  if u.running && u.store.hourlyAt.isSome then (u.startHourly).requestIfDue .hourly else u

end Sys2Proof.Machine
end

