-- ==== Sys2Proof/Machine/PowerEvents.lean ====
section
/-! DEFINITION. The power events (R149): PFW (8.6), the stop of the main domain (R161), main start with its scans, the
recovery and the five steps (R157, R159, R162 to R164), and the retention reset. -/

namespace Sys2Proof.Machine

/-! ### PFW (section 8.6) -/

/-- The receiver of a port at PFW: STOPPED, apart from one in BUSY (R176). -/
def Receive.atPfw : Receive → Receive
  | .busy frame => .busy frame
  | .stopped | .held | .hunt | .length | .body _ _ _ | .check _ _ _ | .drain _ => .stopped

/-- One port's receiver at PFW. -/
def Part.stopPort (p : Port) (u : Part) : Part := u.setReceive p (u.receivers.get p).state.atPfw

/-- Every port's receiver at PFW. -/
def Part.stopReceiving (u : Part) : Part := ((u.stopPort .m).stopPort .k).stopPort .s

/-- The pulse in progress is not judged (R46). -/
def Part.dropCapture (u : Part) : Part := { u with pulse := { u.pulse with capture := none } }

/-- The item of a configuration write. -/
def Class2Write.item : Class2Write → Option ConfigItem
  | .config item _ => some item
  | .bank _ _ => none

/-- Waiting class 2 writes are discarded, which leaves their items unstored (R186), and the hourly timer stops (R161). -/
def Part.storeAtPfw (u : Part) : Part :=
  { u with store := { u.store with
      class2 := [], hourlyAt := none, discarded := u.store.class2.filterMap Class2Write.item } }

/-- The pending bank is lost; the schedule marker stands for main start (R63, R70; log 61). -/
def Tariff.losePending (t : Tariff) : Tariff := { t with pending := .empty, pendingImage := Image.zero }

/-- PFW: every block takes its action, and the power-fail checkpoint is requested (R46, R70, R95, R119, R130, R141, R161,
R176). The shortfall of the closing window is charged before that request (log 54). -/
def Part.powerFails (u : Part) : Part :=
  if u.running then
    let u := { u with power := .failing, tariff := u.tariff.losePending }
    let u := u.stopReceiving.discardCodes.storeAtPfw
    let u := u.unjudgedClose.dropCapture.tamperAtPfw
    u.requestCheckpoint .powerFail
  else u

/-! ### The stop of the main domain (R149, R161) -/

/-- A write cut short: `whole` says whether its slot or area holds the whole record (R161; log 8, 22). -/
def Part.cutWrite (whole : Bool) (u : Part) : Part :=
  match u.store.inFlight with
  | none => u
  | some (.checkpoint c) =>
    if whole && !c.writesNothing then { u with array := u.array.setLog c.slot (.valid c.record) } else u
  | some (.bank a i _) => u.putArea a (if whole then .image i else .damaged)
  | some (.config item value _) =>
    if whole then { u with array := { u.array with config := u.array.config.put item value } } else u
  | some (.journal e slot _ writesNothing) =>
    if whole && !writesNothing then { u with array := u.array.setJournal slot (.valid e) } else u

/-- The pending bank, the activation with its buffer and the midnights that wait for it are lost with the main domain (R62,
R70; log 61). -/
def Tariff.atStop (t : Tariff) : Tariff :=
  { t.losePending with activation := none, midnight := none, midnightsWaiting := [] }

/-- The main domain stops: the write in flight is cut short, drives and attention lines fall, the ports, the queues and the
activation stop, and the release timer of MAGNETIC with them (R70, R108, R141, R149, R161, R176, R183). -/
def Part.stopMain (whole : Bool) (u : Part) : Part :=
  if u.mainOn then
    let u := u.cutWrite whole
    Part.tamperAtStop
      { u with
        power := .stopped, tariff := u.tariff.atStop,
        outputs := { openCoil := false, closeCoil := false, attention := ⟨false, false, false⟩ },
        receivers := ⟨{ u.receivers.m with state := .stopped }, { u.receivers.k with state := .stopped },
                      { u.receivers.s with state := .stopped }⟩,
        codes := { u.codes with queue := [], head := none },
        store := { u.store with waiting := none, class2 := [], journal := [], inFlight := none, hourlyAt := none } }
  else u

/-! ### The retention reset (R149, R163) -/

/-- Every retention item is lost and starts at its reset value, and the retention domain carries the lost mark. The main
domain has no supply at that moment; the array and the inputs stand (R148, R150). -/
def Part.loseRetention (u : Part) : Part :=
  let u := u.stopMain false
  { Part.newPart with inputs := u.inputs, array := u.array, overtaken := u.overtaken }

/-! ### Main start: the values it gives (R28, R36, R70, R96, R120, R131, R151, R162) -/

/-- The tariff engine's main-domain items at main start (R54, R70). -/
def Tariff.atMainStart (t : Tariff) : Tariff :=
  { t.atStop with currentRecord := none, band := 0, friendly := false }

/-- The controller's main-domain items before step 1 (R98, R120). -/
def Supply.atMainStart (x : Supply) : Supply :=
  { x with
    causes := CauseSet.none, openRequired := false, reportedPhases := none, retryAt := none, blankingUntil := none,
    bypassSince := none, bypassGoneSince := none, jumpSince := none }

/-- The main domain as its supply is established; the first evaluation comes one second later (R124). -/
def Part.mainValues (u : Part) : Part :=
  { u with
    power := .starting,
    outputs := { openCoil := false, closeCoil := false, attention := ⟨false, false, false⟩ },
    pulse := Pulse.atMainStart, recon := { mode := .reported, window := none, divergence := 0 },
    tariff := u.tariff.atMainStart, codes := { u.codes with queue := [], head := none },
    supply := u.supply.atMainStart,
    load := { u.load with overLimit := 0, lockoutUntil := none, nextEvaluation := u.timeBase + Config.seconds 1 },
    store := Store.idle,
    receivers := ⟨⟨.stopped, u.timeBase⟩, ⟨.stopped, u.timeBase⟩, ⟨.stopped, u.timeBase⟩⟩,
    notices := ⟨NoticePort.empty, NoticePort.empty, NoticePort.empty⟩ }

/-! ### Scans and recovery (R157, R159, R163, R164) -/

/-- The log position that the scan finds (R157). -/
def Part.scanLog (u : Part) : Part :=
  match u.array.newestCheckpoint with
  | some (slot, r) =>
    { u with store := { u.store with nextSlot := (slot + 1) % 64, nextSequence := r.sequence + 1 } }
  | none => { u with store := { u.store with nextSlot := 0, nextSequence := 1 } }

/-- The journal position that the scan finds (R159). -/
def Part.scanJournal (u : Part) : Part :=
  match u.array.newestEntry with
  | some (slot, e) =>
    { u with store := { u.store with nextJournalSlot := (slot + 1) % 32, nextJournalSequence := e.sequence + 1 } }
  | none => { u with store := { u.store with nextJournalSlot := 0, nextJournalSequence := 1 } }

/-- A slot has never been written. -/
def Slot.isBlank {α : Type} : Slot α → Bool
  | .blank => true
  | .invalid => false
  | .valid _ => false

/-- A record as recovery restores it (R146). -/
def CarriedTamper.restored (c : CarriedTamper) : TamperRecord :=
  { state := if c.latched then .latchedAbsent else .quiet, condition := false, count := c.count, first := c.first,
    last := c.last, timer := none, raisedOnBattery := false }

/-- Every retention item but the time base at its new-part value (R163). -/
def Part.newRetention (u : Part) : Part :=
  { u with
    lifecycle := .provisioning, clock := { count := 0, valid := false, adjustment := 0 },
    account := Account.newPart, accountCauses := { noCredit := true, debtLimit := true },
    tariff := Tariff.newPart, codes := { Codes.newPart with slots := u.codes.slots },
    supply := { u.supply with logical := .unset, record := OpeningRecord.empty },
    load := { u.load with limit := 0, extended := false, trips := [] },
    tamper := Tamper.newPart, checkpointDue := false }

/-- The items of a checkpoint record placed in live state over new retention items (R164). -/
def Part.restore (r : CheckpointRecord) (u : Part) : Part :=
  { u with
    lifecycle := r.lifecycle,
    account := { r.account with chargesSinceCheckpoint := 0 },
    codes := { u.codes with generation := r.generation, serials := r.serials, remoteOrder := r.remoteOrder },
    tariff := { u.tariff with
      activeArea := r.activeArea, lastStandingDay := r.lastStandingDay, scheduleMarker := r.scheduleMarker },
    load := { u.load with limit := r.loadLimit, extended := r.extended },
    tamper := { u.tamper with records := r.tamper.map CarriedTamper.restored },
    supply := { u.supply with logical := r.logical, record := r.record },
    store := { u.store with nextJournalSequence := max u.store.nextJournalSequence r.nextJournalSequence } }

/-- RETENTION_LOST arises and, within the same event, ends (R146). -/
def Part.retentionLost (u : Part) : Part :=
  (u.setCondition .retentionLost true).setCondition .retentionLost false

/-- The cover switches and the magnetic sensor are read (R146). -/
def Part.readSwitches (u : Part) : Part :=
  let u := u.setCondition .terminalCover u.inputs.terminalCoverOpen
  let u := u.setCondition .mainCover u.inputs.mainCoverOpen
  u.setCondition .magnetic u.inputs.magneticField

/-- The evidence of a recovery: LEDGER_RESTORED, then RETENTION_LOST (R164). -/
def Part.recoveryEvidence (found : Option CheckpointRecord) (u : Part) : Part :=
  let slots := (validSlots 0 u.array.log.toList).length
  let named := found.map (fun r => (r.sequence, r.stamp, r.reasons))
  (u.journal (.ledgerRestored named slots)).retentionLost

/-- The recovery after a retention reset (R163, R164). -/
def Part.recover (u : Part) : Part :=
  let u := { u.newRetention with lostMark := false }
  let u :=
    if u.array.log.toList.all Slot.isBlank then u
    else
      match u.array.newestCheckpoint with
      | some (_, r) => (u.restore r).recoveryEvidence (some r)
      | none => u.recoveryEvidence none
  u.readSwitches

/-! ### The main-start sequence (R162) -/

/-- The relay state that main start resolves (R120). -/
def Part.resolvedRelay (u : Part) : Settled :=
  match u.supply.logical with
  | .settled .awaitingConfirm => .awaitingConfirm
  | .settled .stuckClosed => .stuckClosed
  | .settled .stuckOpen => .stuckOpen
  | .settled .closed | .settled .opened | .inProgress | .unset => if u.inputs.sense.any then .closed else .opened

/-- Step 1: the relay state, recorded in the logical supply state (R120; log 43). -/
def Part.resolveRelay (u : Part) : Part :=
  let st := u.resolvedRelay
  (u.settleRelay st).startRetryTimer st

/-- The configuration area is read into the live copy and the key slots into the check engine (R96, R185, R186). -/
def Part.readConfig (u : Part) : Part :=
  { u with
    config := { live := u.array.config, unstored := [] },
    codes := { u.codes with slots := u.array.config.keys } }

/-- A receiver as its port starts (R176). -/
def startedReceiver (inReset : Bool) : Receive := if inReset then .held else .hunt

/-- Step 4, ports and notices: both links SUSPECT with silence 0, every pending set empty (R162, R176, R183). -/
def Part.startPorts (u : Part) : Part :=
  let r := u.inputs.portReset
  { u with
    receivers := ⟨⟨startedReceiver r.m, u.timeBase⟩, ⟨startedReceiver r.k, u.timeBase⟩, ⟨startedReceiver r.s, u.timeBase⟩⟩,
    links := ⟨⟨.suspect, u.timeBase⟩, ⟨.suspect, u.timeBase⟩⟩,
    notices := ⟨NoticePort.empty, NoticePort.empty, NoticePort.empty⟩,
    outputs := { u.outputs with attention := ⟨false, false, false⟩ } }

/-- A schedule that the failure lost (R70 step 2). -/
def Part.loseSchedule (u : Part) : Part :=
  match u.tariff.scheduleMarker with
  | some _ => Part.reopened .scheduleLost u.clearMarker
  | none => u

/-- Step 4, the tariff engine: the lost schedule, the walk, the catch-up (R65, R70). -/
def Part.startTariff (u : Part) : Part :=
  let u := u.loseSchedule.walkQuietly
  let u := { u with tariff := { u.tariff with dayBefore := dayOf u.clock.count } }
  u.catchUp

/-- Step 4 as a whole; the account re-derives its credit state after the tariff engine's steps (R26, R162). -/
def Part.startBlocks (u : Part) : Part := u.startPorts.openWindow.startTariff.deriveQuietly.tamperAtMainStart

/-- Step 5: the cause set as its owners hand it (R98), TAMPER evaluated (R144), and the decision (R120). -/
def Part.decideAtStart (u : Part) : Part :=
  let member := u.tamperMember
  let causes : CauseSet :=
    { noCredit := u.accountCauses.noCredit, debtLimit := u.accountCauses.debtLimit, loadLimit := u.load.member,
      tamper := member, remoteOrder := u.codes.remoteOrder }
  Part.recompute
    { u with
      power := .running, tamper := { u.tamper with member := member }, supply := { u.supply with causes := causes } }

/-- The main-start sequence with the checkpoints of step 3 and after step 5; the hourly timer then starts (R162). -/
def Part.startSequence (u : Part) : Part :=
  let u := u.resolveRelay.flushBuffer
  let u := u.requestIfDue .mainStart
  let u := u.startBlocks.decideAtStart
  (u.requestIfDue .mainStart).startHourly

/-- Main start (R162). A main domain that still runs stops first: a PFW always ends in a main start (R149; log 13). -/
def Part.startMain (u : Part) : Part :=
  let u := (u.stopMain false).mainValues
  let u := u.scanLog.scanJournal
  let u := if u.lostMark then u.recover else u
  u.readConfig.startSequence

end Sys2Proof.Machine
end

