-- ==== Sys2Proof/Machine/PowerCommands.lean ====
section
/-! DEFINITION. The meanings of the power events (R149). -/

namespace Sys2Proof.Machine

/-- POWER_FAIL_WARNING (R149). -/
def execPowerFailWarning (s : State) : Host.Outcome State Fault Refusal :=
  answer s Part.powerFails

/-- MAIN_DOMAIN_STOP (R149). -/
def execMainDomainStop (cutLandsWhole : Bool) (s : State) : Host.Outcome State Fault Refusal :=
  answer s (Part.stopMain cutLandsWhole)

/-- MAIN_START (R162). -/
def execMainStart (s : State) : Host.Outcome State Fault Refusal :=
  answer s Part.startMain

/-- RETENTION_RESET (R149). -/
def execRetentionReset (s : State) : Host.Outcome State Fault Refusal :=
  answer s Part.loseRetention

end Sys2Proof.Machine
end

