-- ==== Sys2Proof/Machine/RequestCommands.lean ====
section
/-! DEFINITION. The meanings of the requests: the frame of each arrives on its port, and what the request does stands in
Requests.lean (R168 to R172). -/

namespace Sys2Proof.Machine

/-- ENERGY_REPORT (R38). -/
def execEnergyReport (p : Port) (b : List Byte) (s : State) : Host.Outcome State Fault Refusal :=
  answer s (Part.frameArrives p ReqKind.energyReport.byte b)

/-- SWITCH_READY (R106). -/
def execSwitchReady (p : Port) (b : List Byte) (s : State) : Host.Outcome State Fault Refusal :=
  answer s (Part.frameArrives p ReqKind.switchReady.byte b)

/-- SUBMIT_CODE (R76). -/
def execSubmitCode (p : Port) (b : List Byte) (s : State) : Host.Outcome State Fault Refusal :=
  answer s (Part.frameArrives p ReqKind.submitCode.byte b)

/-- TAKE_EC (R14). -/
def execTakeEc (p : Port) (b : List Byte) (s : State) : Host.Outcome State Fault Refusal :=
  answer s (Part.frameArrives p ReqKind.takeEc.byte b)

/-- CONFIRM_RECONNECT (R104). -/
def execConfirmReconnect (p : Port) (b : List Byte) (s : State) : Host.Outcome State Fault Refusal :=
  answer s (Part.frameArrives p ReqKind.confirmReconnect.byte b)

/-- READ_DISPLAY (R24, R48). -/
def execReadDisplay (p : Port) (b : List Byte) (s : State) : Host.Outcome State Fault Refusal :=
  answer s (Part.frameArrives p ReqKind.readDisplay.byte b)

/-- READ_STATE (R177). -/
def execReadState (p : Port) (b : List Byte) (s : State) : Host.Outcome State Fault Refusal :=
  answer s (Part.frameArrives p ReqKind.readState.byte b)

/-- READ_REGISTERS (R191). -/
def execReadRegisters (p : Port) (b : List Byte) (s : State) : Host.Outcome State Fault Refusal :=
  answer s (Part.frameArrives p ReqKind.readRegisters.byte b)

/-- TARIFF_WRITE (R55). -/
def execTariffWrite (p : Port) (b : List Byte) (s : State) : Host.Outcome State Fault Refusal :=
  answer s (Part.frameArrives p ReqKind.tariffWrite.byte b)

/-- TARIFF_FINISH (R56). -/
def execTariffFinish (p : Port) (b : List Byte) (s : State) : Host.Outcome State Fault Refusal :=
  answer s (Part.frameArrives p ReqKind.tariffFinish.byte b)

/-- TARIFF_DISCARD (R59). -/
def execTariffDiscard (p : Port) (b : List Byte) (s : State) : Host.Outcome State Fault Refusal :=
  answer s (Part.frameArrives p ReqKind.tariffDiscard.byte b)

/-- TARIFF_READ (R59). -/
def execTariffRead (p : Port) (b : List Byte) (s : State) : Host.Outcome State Fault Refusal :=
  answer s (Part.frameArrives p ReqKind.tariffRead.byte b)

/-- SET_TIME (R67, R68). -/
def execSetTime (p : Port) (b : List Byte) (s : State) : Host.Outcome State Fault Refusal :=
  answer s (Part.frameArrives p ReqKind.setTime.byte b)

/-- READ_JOURNAL (R160). -/
def execReadJournal (p : Port) (b : List Byte) (s : State) : Host.Outcome State Fault Refusal :=
  answer s (Part.frameArrives p ReqKind.readJournal.byte b)

/-- FETCH_NOTICE (R181). -/
def execFetchNotice (p : Port) (b : List Byte) (s : State) : Host.Outcome State Fault Refusal :=
  answer s (Part.frameArrives p ReqKind.fetchNotice.byte b)

/-- NOTICE_DONE (R182). -/
def execNoticeDone (p : Port) (b : List Byte) (s : State) : Host.Outcome State Fault Refusal :=
  answer s (Part.frameArrives p ReqKind.noticeDone.byte b)

/-- CONFIG_WRITE (R186). -/
def execConfigWrite (p : Port) (b : List Byte) (s : State) : Host.Outcome State Fault Refusal :=
  answer s (Part.frameArrives p ReqKind.configWrite.byte b)

/-- LOAD_KEY (R186). -/
def execLoadKey (p : Port) (b : List Byte) (s : State) : Host.Outcome State Fault Refusal :=
  answer s (Part.frameArrives p ReqKind.loadKey.byte b)

/-- ACTIVATE_INITIAL_BANK (R187). -/
def execActivateInitialBank (p : Port) (b : List Byte) (s : State) : Host.Outcome State Fault Refusal :=
  answer s (Part.frameArrives p ReqKind.activateInitialBank.byte b)

/-- RELAY_TEST (R118). -/
def execRelayTest (p : Port) (b : List Byte) (s : State) : Host.Outcome State Fault Refusal :=
  answer s (Part.frameArrives p ReqKind.relayTest.byte b)

/-- ENTER_SERVICE (R188). -/
def execEnterService (p : Port) (b : List Byte) (s : State) : Host.Outcome State Fault Refusal :=
  answer s (Part.frameArrives p ReqKind.enterService.byte b)

/-- UNKNOWN_REQUEST_KIND (R171). -/
def execUnknownRequestKind (p : Port) (kind : Byte) (b : List Byte) (s : State) : Host.Outcome State Fault Refusal :=
  answer s (Part.frameArrives p kind b)

end Sys2Proof.Machine
end

