-- ==== Sys2Proof/Machine/StoreCommands.lean ====
section
/-! DEFINITION. The meanings of the ends of write attempts and of the hourly timer (R152, R155, R159). An attempt end that
finds no attempt of its kind in flight is not an event of the part and has no effect. -/

namespace Sys2Proof.Machine

/-- The end of the checkpoint attempt in flight (R152). -/
def Part.checkpointEnds (readBack : Bool) (u : Part) : Part :=
  match u.store.inFlight with
  | some (.checkpoint c) => u.endCheckpoint c readBack
  | some (.bank _ _ _) | some (.config _ _ _) | some (.journal _ _ _ _) | none => u

/-- The end of the bank write attempt in flight (R152). -/
def Part.bankEnds (readBack : Bool) (u : Part) : Part :=
  match u.store.inFlight with
  | some (.bank a i retry) => u.endBankWrite a i retry readBack
  | some (.checkpoint _) | some (.config _ _ _) | some (.journal _ _ _ _) | none => u

/-- The end of the configuration write attempt in flight (R152). -/
def Part.configEnds (readBack : Bool) (u : Part) : Part :=
  match u.store.inFlight with
  | some (.config item value retry) => u.endConfigWrite item value retry readBack
  | some (.checkpoint _) | some (.bank _ _ _) | some (.journal _ _ _ _) | none => u

/-- The end of the journal write attempt in flight (R152, R159). -/
def Part.journalEnds (readBack : Bool) (u : Part) : Part :=
  match u.store.inFlight with
  | some (.journal e slot retry writesNothing) => u.endJournalWrite e slot retry writesNothing readBack
  | some (.checkpoint _) | some (.bank _ _ _) | some (.config _ _ _) | none => u

/-- CHECKPOINT_ATTEMPT_END (R152). -/
def execCheckpointAttemptEnd (readBack : Bool) (s : State) : Host.Outcome State Fault Refusal :=
  answer s (Part.checkpointEnds readBack)

/-- BANK_WRITE_ATTEMPT_END (R152). -/
def execBankWriteAttemptEnd (readBack : Bool) (s : State) : Host.Outcome State Fault Refusal :=
  answer s (Part.bankEnds readBack)

/-- CONFIG_WRITE_ATTEMPT_END (R152). -/
def execConfigWriteAttemptEnd (readBack : Bool) (s : State) : Host.Outcome State Fault Refusal :=
  answer s (Part.configEnds readBack)

/-- JOURNAL_WRITE_ATTEMPT_END (R159). -/
def execJournalWriteAttemptEnd (readBack : Bool) (s : State) : Host.Outcome State Fault Refusal :=
  answer s (Part.journalEnds readBack)

/-- HOURLY_TIMER_EXPIRY (R155). -/
def execHourlyTimerExpiry (s : State) : Host.Outcome State Fault Refusal :=
  expire .hourlyTimerExpiry s Part.hourly

end Sys2Proof.Machine
end

