-- ==== Sys2Proof/Machine/SwitchCommands.lean ====
section
/-! DEFINITION. The meanings of the events of the supply switch (R106 to R117). What each does stands in SwitchEvents.lean. -/

namespace Sys2Proof.Machine

/-- The main domain runs: the controller takes its events (R98, R149). -/
def Part.whileActive (f : Part → Part) (u : Part) : Part := if u.active then f u else u

/-- The contact-sense lines take new levels; the watch follows in `answer` (R116, R117). -/
def Part.senseChanges (sense : PhaseSet) (u : Part) : Part := { u with inputs := { u.inputs with sense := sense } }

/-- HANDSHAKE_TIMEOUT (R106). -/
def execHandshakeTimeout (s : State) : Host.Outcome State Fault Refusal :=
  expire .handshakeTimeout s Part.endHandshake

/-- ZX_EDGE (R107). -/
def execZxEdge (s : State) : Host.Outcome State Fault Refusal :=
  answer s (Part.endZxWait true)

/-- ZX_TIMEOUT (R107). -/
def execZxTimeout (s : State) : Host.Outcome State Fault Refusal :=
  expire .zxTimeout s (Part.endZxWait false)

/-- RELAY_DELAY_END (R107). -/
def execRelayDelayEnd (s : State) : Host.Outcome State Fault Refusal :=
  expire .relayDelayEnd s Part.endDelay

/-- COIL_PULSE_END (R108). -/
def execCoilPulseEnd (s : State) : Host.Outcome State Fault Refusal :=
  expire .coilPulseEnd s (Part.whileActive Part.endPulse)

/-- SETTLE_END (R109). -/
def execSettleEnd (s : State) : Host.Outcome State Fault Refusal :=
  expire .settleEnd s (Part.whileActive Part.endSettle)

/-- BLANKING_END (R115). -/
def execBlankingEnd (s : State) : Host.Outcome State Fault Refusal :=
  expire .blankingEnd s Part.endBlanking

/-- CONTACT_SENSE_CHANGE (R116). -/
def execContactSenseChange (sense : PhaseSet) (s : State) : Host.Outcome State Fault Refusal :=
  answer s (Part.senseChanges sense)

/-- BYPASS_ARISE_TIMER_EXPIRY (R116). -/
def execBypassAriseTimerExpiry (s : State) : Host.Outcome State Fault Refusal :=
  expire .bypassAriseTimerExpiry s (Part.whileActive Part.bypassArises)

/-- BYPASS_END_TIMER_EXPIRY (R116). -/
def execBypassEndTimerExpiry (s : State) : Host.Outcome State Fault Refusal :=
  expire .bypassEndTimerExpiry s (Part.whileActive Part.bypassEnds)

/-- JUMP_TIMER_EXPIRY (R117). -/
def execJumpTimerExpiry (s : State) : Host.Outcome State Fault Refusal :=
  expire .jumpTimerExpiry s (Part.whileActive Part.jump)

/-- RETRY_TIMER_EXPIRY (R113). -/
def execRetryTimerExpiry (s : State) : Host.Outcome State Fault Refusal :=
  expire .retryTimerExpiry s (Part.whileActive Part.retry)

end Sys2Proof.Machine
end

