-- ==== Sys2Proof/Machine/TamperCommands.lean ====
section
/-! DEFINITION. The meanings of the tamper inputs and of the debounce and release timers (R133, R136, R137, R141, R142). -/

namespace Sys2Proof.Machine

/-- The level of a cover switch. -/
def Inputs.setCover (i : Inputs) (cover : Cover) (opened : Bool) : Inputs :=
  match cover with
  | .terminal => { i with terminalCoverOpen := opened }
  | .main => { i with mainCoverOpen := opened }

/-- A cover switch changes; the cover monitor runs in either power domain state (R133, R142). -/
def Part.coverChanges (cover : Cover) (opened : Bool) (u : Part) : Part :=
  Part.setCondition (coverCause cover) opened { u with inputs := u.inputs.setCover cover opened }

/-- The magnetic sensor changes; it is not read while the main domain is stopped (R133, R142, R144). -/
def Part.magnetChanges (field : Bool) (u : Part) : Part :=
  let u := { u with inputs := { u.inputs with magneticField := field } }
  if u.mainOn then u.setCondition .magnetic field else u

/-- A record's debounce expires with its condition true (R136). -/
def Part.debounceExpires (c : TamperCause) (u : Part) : Part :=
  let r := u.tamperRecord c
  match r.state with
  | .pending _ => if r.timer.isSome && r.condition && u.timesCause c then u.becomePresent c else u
  | .quiet | .present | .latchedAbsent => u

/-- A record's release time expires with its condition false (R137). -/
def Part.releaseExpires (c : TamperCause) (u : Part) : Part :=
  let r := u.tamperRecord c
  match r.state with
  | .present => if r.timer.isSome && !r.condition && u.timesCause c then u.becomeAbsent c else u
  | .quiet | .pending _ | .latchedAbsent => u

/-- COVER_SWITCH_CHANGE (R133). -/
def execCoverSwitchChange (cover : Cover) (opened : Bool) (s : State) : Host.Outcome State Fault Refusal :=
  answer s (Part.coverChanges cover opened)

/-- MAGNETIC_SENSOR_CHANGE (R133). -/
def execMagneticSensorChange (field : Bool) (s : State) : Host.Outcome State Fault Refusal :=
  answer s (Part.magnetChanges field)

/-- TAMPER_DEBOUNCE_EXPIRY (R136). -/
def execTamperDebounceExpiry (c : TamperCause) (s : State) : Host.Outcome State Fault Refusal :=
  expire (.tamperDebounceExpiry c) s (Part.debounceExpires c)

/-- TAMPER_RELEASE_EXPIRY (R137). -/
def execTamperReleaseExpiry (c : TamperCause) (s : State) : Host.Outcome State Fault Refusal :=
  expire (.tamperReleaseExpiry c) s (Part.releaseExpires c)

end Sys2Proof.Machine
end

