-- ==== Sys2Proof/Machine/Dispatch.lean ====
section
/-! DEFINITION. exec: one arm per command, each one direct call of its meaning. -/

namespace Sys2Proof.Machine

def exec (i : Instr) (s : State) : Host.Outcome State Fault Refusal :=
  match i with
  | .energyReport p b => Sys2Proof.Machine.execEnergyReport p b s
  | .switchReady p b => Sys2Proof.Machine.execSwitchReady p b s
  | .submitCode p b => Sys2Proof.Machine.execSubmitCode p b s
  | .takeEc p b => Sys2Proof.Machine.execTakeEc p b s
  | .confirmReconnect p b => Sys2Proof.Machine.execConfirmReconnect p b s
  | .readDisplay p b => Sys2Proof.Machine.execReadDisplay p b s
  | .readState p b => Sys2Proof.Machine.execReadState p b s
  | .readRegisters p b => Sys2Proof.Machine.execReadRegisters p b s
  | .tariffWrite p b => Sys2Proof.Machine.execTariffWrite p b s
  | .tariffFinish p b => Sys2Proof.Machine.execTariffFinish p b s
  | .tariffDiscard p b => Sys2Proof.Machine.execTariffDiscard p b s
  | .tariffRead p b => Sys2Proof.Machine.execTariffRead p b s
  | .setTime p b => Sys2Proof.Machine.execSetTime p b s
  | .readJournal p b => Sys2Proof.Machine.execReadJournal p b s
  | .fetchNotice p b => Sys2Proof.Machine.execFetchNotice p b s
  | .noticeDone p b => Sys2Proof.Machine.execNoticeDone p b s
  | .configWrite p b => Sys2Proof.Machine.execConfigWrite p b s
  | .loadKey p b => Sys2Proof.Machine.execLoadKey p b s
  | .activateInitialBank p b => Sys2Proof.Machine.execActivateInitialBank p b s
  | .relayTest p b => Sys2Proof.Machine.execRelayTest p b s
  | .enterService p b => Sys2Proof.Machine.execEnterService p b s
  | .unknownRequestKind p kind b => Sys2Proof.Machine.execUnknownRequestKind p kind b s
  | .characterReceived p c stopBitLow => Sys2Proof.Machine.execCharacterReceived p c stopBitLow s
  | .receiveSilenceTimeout p => Sys2Proof.Machine.execReceiveSilenceTimeout p s
  | .responseSent p => Sys2Proof.Machine.execResponseSent p s
  | .portResetAssert p => Sys2Proof.Machine.execPortResetAssert p s
  | .portResetRelease p => Sys2Proof.Machine.execPortResetRelease p s
  | .linkSuspect l => Sys2Proof.Machine.execLinkSuspect l s
  | .linkLost l => Sys2Proof.Machine.execLinkLost l s
  | .epRisingEdge => Sys2Proof.Machine.execEpRisingEdge s
  | .epFallingEdge => Sys2Proof.Machine.execEpFallingEdge s
  | .intervalCounterWrap => Sys2Proof.Machine.execIntervalCounterWrap s
  | .windowTimeClose => Sys2Proof.Machine.execWindowTimeClose s
  | .minuteBoundary => Sys2Proof.Machine.execMinuteBoundary s
  | .clockWrap => Sys2Proof.Machine.execClockWrap s
  | .codeScreening => Sys2Proof.Machine.execCodeScreening s
  | .codeLockoutExpiry p => Sys2Proof.Machine.execCodeLockoutExpiry p s
  | .checkpointAttemptEnd readBack => Sys2Proof.Machine.execCheckpointAttemptEnd readBack s
  | .bankWriteAttemptEnd readBack => Sys2Proof.Machine.execBankWriteAttemptEnd readBack s
  | .configWriteAttemptEnd readBack => Sys2Proof.Machine.execConfigWriteAttemptEnd readBack s
  | .journalWriteAttemptEnd readBack => Sys2Proof.Machine.execJournalWriteAttemptEnd readBack s
  | .hourlyTimerExpiry => Sys2Proof.Machine.execHourlyTimerExpiry s
  | .loadEvaluation => Sys2Proof.Machine.execLoadEvaluation s
  | .loadLockoutExpiry => Sys2Proof.Machine.execLoadLockoutExpiry s
  | .tripAgeOut => Sys2Proof.Machine.execTripAgeOut s
  | .coverSwitchChange cover opened => Sys2Proof.Machine.execCoverSwitchChange cover opened s
  | .magneticSensorChange field => Sys2Proof.Machine.execMagneticSensorChange field s
  | .tamperDebounceExpiry cause => Sys2Proof.Machine.execTamperDebounceExpiry cause s
  | .tamperReleaseExpiry cause => Sys2Proof.Machine.execTamperReleaseExpiry cause s
  | .handshakeTimeout => Sys2Proof.Machine.execHandshakeTimeout s
  | .zxEdge => Sys2Proof.Machine.execZxEdge s
  | .zxTimeout => Sys2Proof.Machine.execZxTimeout s
  | .relayDelayEnd => Sys2Proof.Machine.execRelayDelayEnd s
  | .coilPulseEnd => Sys2Proof.Machine.execCoilPulseEnd s
  | .settleEnd => Sys2Proof.Machine.execSettleEnd s
  | .blankingEnd => Sys2Proof.Machine.execBlankingEnd s
  | .contactSenseChange sense => Sys2Proof.Machine.execContactSenseChange sense s
  | .bypassAriseTimerExpiry => Sys2Proof.Machine.execBypassAriseTimerExpiry s
  | .bypassEndTimerExpiry => Sys2Proof.Machine.execBypassEndTimerExpiry s
  | .jumpTimerExpiry => Sys2Proof.Machine.execJumpTimerExpiry s
  | .retryTimerExpiry => Sys2Proof.Machine.execRetryTimerExpiry s
  | .powerFailWarning => Sys2Proof.Machine.execPowerFailWarning s
  | .mainDomainStop cutLandsWhole => Sys2Proof.Machine.execMainDomainStop cutLandsWhole s
  | .mainStart => Sys2Proof.Machine.execMainStart s
  | .retentionReset => Sys2Proof.Machine.execRetentionReset s

end Sys2Proof.Machine
end

