-- ==== Sys2Proof/Machine/Tick.lean ====
section
/-! DEFINITION. One tick of the part's own time base, which a step on an empty queue takes (log 4), and the timer events
that have fallen due after it (log 5). -/

namespace Sys2Proof.Machine

/-! ### What a tick moves -/

/-- The interval counter after a tick; at a wrap the event sets it (R30). -/
def Pulse.ticked (p : Pulse) : Pulse := if p.atWrap then p else { p with counter := p.counter + 1 }

/-- This tick completes a second, which the clock counts (R66, R148; log 19). -/
def Part.secondEnds (u : Part) : Bool := (u.timeBase + 1) % 32768 = 0

/-- The clock after a second; at a wrap the event sets it (R66). -/
def Clock.ticked (c : Clock) : Clock := if c.atWrap then c else { c with count := c.count + 1 }

/-- The part after a tick: the time base, the clock at each second, and the interval counter until PFW (R30, R46, R148). -/
def Part.ticked (u : Part) : Part :=
  { u with
    timeBase := u.timeBase + 1,
    clock := if u.secondEnds then u.clock.ticked else u.clock,
    pulse := if u.running then u.pulse.ticked else u.pulse }

/-! ### What has fallen due -/

/-- An event that is due, or nothing. -/
def dueIf (b : Bool) (i : Instr) : List Instr := if b then [i] else []

/-- The expiries of the timers, in the order in which they are queued (log 5): those of the retention domain and the tamper
records, the stages of an operation, the other timers of the supply switch, the blocks that PFW stops. -/
def timers : List Instr :=
  [.codeLockoutExpiry .k, .codeLockoutExpiry .s, .tripAgeOut, .loadLockoutExpiry]
    ++ allCauses.flatMap (fun c => [.tamperDebounceExpiry c, .tamperReleaseExpiry c])
    ++ [.handshakeTimeout, .zxTimeout, .relayDelayEnd, .coilPulseEnd, .settleEnd]
    ++ [.blankingEnd, .bypassAriseTimerExpiry, .bypassEndTimerExpiry, .jumpTimerExpiry, .retryTimerExpiry]
    ++ [.receiveSilenceTimeout .m, .receiveSilenceTimeout .k, .receiveSilenceTimeout .s, .linkSuspect .m, .linkLost .m,
        .linkSuspect .k, .linkLost .k, .windowTimeClose, .hourlyTimerExpiry, .loadEvaluation]

/-- A code stands at the head in screening, which ends at the next tick: R78 gives the bound of 1 ms alone (log 46). -/
def Codes.screening (c : Codes) : Bool :=
  match c.head with
  | some (.screening _ _) => true
  | some (.commit _ _) | some (.activating _) | none => false

/-- The events of the counters that this tick wraps and of a minute that it completes; `u` is the part before the tick. -/
def Part.dueCounters (u : Part) : List Instr :=
  dueIf (u.running && u.pulse.atWrap) .intervalCounterWrap
    ++ dueIf (u.secondEnds && u.clock.atWrap) .clockWrap
    ++ dueIf (u.secondEnds && u.active && !u.clock.atWrap && decide ((u.clock.count + 1) % 60 = 0)) .minuteBoundary

/-- Every event that has fallen due with a tick, in the order in which it is queued (log 5); `u` is the part before it. -/
def Part.due (u : Part) : List Instr :=
  u.dueCounters ++ timers.filter u.ticked.hasCome ++ dueIf (u.running && u.codes.screening) .codeScreening

/-- A tick: time passes, and the events that fall due join the queue. -/
def tick (s : State) : State := { part := s.part.ticked, pending := s.pending ++ s.part.due }

end Sys2Proof.Machine
end

