-- ==== Sys2Proof/Safety.lean ====
section
/-! DEFINITION. What statements about the part are said with: the state just before a request's effect, the response owed,
the part without what a chain of effects may change, and the invariants. -/

namespace Sys2Proof.Machine

/-! ### Requests -/

/-- The port's receiver waits for a frame (R167). -/
def Part.hunting (u : Part) (p : Port) : Prop := (u.receivers.get p).state = .hunt

/-- The part as a request of this kind finds it: its frame has been heard, its receiver is BUSY, its link is UP (R170, R172,
R173). -/
def Part.taking (p : Port) (kind : Byte) (u : Part) : Part := (u.hear p .hunt).beginTaking p kind

/-- The part after a request: its effect, and the response owed (R167, R170). -/
def Part.owing (p : Port) (kind : Byte) (r : Reply) (u : Part) : Part :=
  u.setReceive p (.busy (frameBytes (kind + 0x80) (r.status :: r.fields)))

/-- The state after a request with this reply, whose effect left the part `v`. -/
def State.replied (s : State) (p : Port) (kind : Byte) (r : Reply) (v : Part) : State := s.becomes (v.owing p kind r)

/-- The command that is a request of this kind. -/
def ReqKind.command (k : ReqKind) (p : Port) (b : List Byte) : Instr :=
  match k with
  | .energyReport => .energyReport p b
  | .switchReady => .switchReady p b
  | .submitCode => .submitCode p b
  | .takeEc => .takeEc p b
  | .confirmReconnect => .confirmReconnect p b
  | .readDisplay => .readDisplay p b
  | .readState => .readState p b
  | .readRegisters => .readRegisters p b
  | .tariffWrite => .tariffWrite p b
  | .tariffFinish => .tariffFinish p b
  | .tariffDiscard => .tariffDiscard p b
  | .tariffRead => .tariffRead p b
  | .setTime => .setTime p b
  | .readJournal => .readJournal p b
  | .fetchNotice => .fetchNotice p b
  | .noticeDone => .noticeDone p b
  | .configWrite => .configWrite p b
  | .loadKey => .loadKey p b
  | .activateInitialBank => .activateInitialBank p b
  | .relayTest => .relayTest p b
  | .enterService => .enterService p b

/-- The response frame that a port owes or sends. -/
def Part.response (u : Part) (p : Port) : Option (List Byte) :=
  match (u.receivers.get p).state with
  | .busy frame => some frame
  | .stopped | .held | .hunt | .length | .body _ _ _ | .check _ _ _ | .drain _ => none

/-- Commands one after another; the first that does not answer a next state ends the run. -/
def execAll : List Instr → State → Host.Outcome State Fault Refusal
  | [], s => .next s
  | c :: rest, s =>
    match exec c s with
    | .next t => execAll rest t
    | .fault r => .fault r
    | .refused r => .refused r

/-- The commands that a frame's characters are, without character errors. -/
def characters (p : Port) (bytes : List Byte) : List Instr := bytes.map (fun c => .characterReceived p c false)

/-! ### What a chain of effects may change

`sansStore` blanks what a store operation may change, `sansNotices` what a placing may change, `core` what the chain behind
a tamper condition or a supply decision may change, `derived` what a derivation of the account may change. -/

/-- The account without charges since checkpoint, which a snapshot clears (R23). -/
def Account.money (a : Account) : Account := { a with chargesSinceCheckpoint := 0 }

/-- The array without its log and its journal. -/
def NvArray.areas (v : NvArray) : NvArray :=
  { v with log := Vector.replicate 64 .blank, journal := Vector.replicate 32 .blank }

/-- The part without what a store operation may change. -/
def Part.sansStore (u : Part) : Part :=
  { u with account := u.account.money, checkpointDue := false, store := Store.idle, array := u.array.areas }

/-- The part without what a placing may change. -/
def Part.sansNotices (u : Part) : Part :=
  { u with
    outputs := { u.outputs with attention := ⟨false, false, false⟩ },
    notices := ⟨NoticePort.empty, NoticePort.empty, NoticePort.empty⟩ }

/-- The controller without what a decision may change. -/
def Supply.rest (x : Supply) : Supply :=
  { x with
    causes := CauseSet.none, openRequired := false, relay := .settled .opened, logical := .unset,
    record := OpeningRecord.empty, retryAt := none }

/-- The part without what the chain behind a tamper condition or a supply decision may change. -/
def Part.core (u : Part) : Part :=
  { u with
    outputs := { u.outputs with attention := ⟨false, false, false⟩ }, account := u.account.money,
    supply := u.supply.rest, tamper := Tamper.newPart, checkpointDue := false, store := Store.idle,
    array := u.array.areas, notices := ⟨NoticePort.empty, NoticePort.empty, NoticePort.empty⟩ }

/-- The account without charges since checkpoint and what a derivation gives (R3). -/
def Account.books (a : Account) : Account :=
  { a with chargesSinceCheckpoint := 0, creditState := .normal, ecAvailable := false }

/-- The part without what a derivation and the decision behind it may change. -/
def Part.derived (u : Part) : Part :=
  { u.core with account := u.account.books, accountCauses := { noCredit := false, debtLimit := false } }

/-! ### The contact watch (R116, R117) -/

/-- The part without its contact-watch timers, which every command brings up to date. -/
def Part.unwatched (u : Part) : Part :=
  { u with supply := { u.supply with bypassSince := none, bypassGoneSince := none, jumpSince := none } }

/-- The contact-watch timers are up to date. -/
def Part.Watched (u : Part) : Prop := u.watchContacts = u

/-! ### The start of a switching operation (R105, R106, R118) -/

/-- `v` is `u` in which an operation has started: its items as R105 fixes them, its first stage, the awaited set with a
SUPPLY_PENDING on the port of each member, the logical supply state in progress, the opening record of R103. -/
structure Part.Started (u v : Part) (dir : Direction) (reason : Reason) (awaited : PerLink Bool) : Prop where
  core : v.core = u.core
  relay : v.supply.relay = .operating
    { direction := dir, reason := reason, stage := if awaited.m || awaited.k then .handshake else .zxWait, attempt := 1,
      synchronised := false, awaited := awaited, answered := ⟨false, false⟩, mh := u.config.live.mh,
      relayDelay := u.config.live.relayDelay, pulseWidth := u.config.live.pulseWidth,
      settleTime := u.config.live.settleTime, stageAt := u.timeBase }
  logical : v.supply.logical = .inProgress
  record : v.supply.record =
    if dir = .closing then { causes := CauseSet.none, test := false }
    else { causes := u.supply.record.causes.union u.counting, test := u.supply.record.test || decide (reason = .test) }
  causes : v.supply.causes = u.supply.causes
  decision : v.supply.openRequired = u.supply.openRequired
  retry : v.supply.retryAt = none
  pending : ∀ l : Link, awaited.get l = true →
    ∃ x, (v.notices.get (linkPort l)).pending.get (kindIndex .supplyPending) = some x ∧
      x.notice = .supplyPending dir reason ∧ x.level = 4

/-- The participants whose link is not LOST (R106). -/
def Part.participants (u : Part) : PerLink Bool :=
  { m := u.config.live.participants.m && u.links.m.state != .lost,
    k := u.config.live.participants.k && u.links.k.state != .lost }

/-! ### What an event requests and places (R154, R159, R179) -/

/-- A checkpoint with this reason waits or is being written (R154). -/
def Part.Requested (r : CheckpointReason) (u : Part) : Prop :=
  (∃ reasons, u.store.waiting = some reasons ∧ reasons.getLsbD (checkpointReasonNumber r) = true) ∨
    ∃ x, u.store.inFlight = some (.checkpoint x) ∧ x.record.reasons.getLsbD (checkpointReasonNumber r) = true

/-- The journal request of this moment with this detail (R158). -/
def Part.entryNow (d : JournalDetail) (u : Part) : JournalRequest :=
  { stamp := u.stamp, battery := false, balance := u.account.balance, detail := d }

/-- A journal entry waits or is being written (R158, R159). -/
def Part.Journaled (r : JournalRequest) (u : Part) : Prop :=
  r ∈ u.store.journal ∨ ∃ (e : JournalEntry) (slot : Nat) (retry writesNothing : Bool),
    u.store.inFlight = some (.journal e slot retry writesNothing) ∧ e.request = r

/-- A notice is pending on a port (R179). -/
def Part.Holds (p : Port) (x : Notice) (u : Part) : Prop :=
  ∃ y, (u.notices.get p).pending.get (kindIndex x.kind) = some y ∧ y.notice = x

/-- A notice is pending on each port of its routing (R178, R179). -/
def Part.Placed (x : Notice) (u : Part) : Prop :=
  ∀ p : Port, (u.config.live.routingOf x.kind).get p = true → u.Holds p x

/-- No notice of this kind has been placed between `u` and `v`. -/
def Part.PlacesNone (k : NoticeKind) (u v : Part) : Prop :=
  ∀ p : Port, (v.notices.get p).pending.get (kindIndex k) = (u.notices.get p).pending.get (kindIndex k)

/-- `v` is `u` in which STORE_FAULT has arisen. Nothing changes beyond the chain behind a tamper condition, and a record
that was not present becomes present with its entry, its notice and its checkpoint (R135, R136, R138, R145, R152). -/
structure Part.StoreFaultArisen (u v : Part) : Prop where
  core : v.core = u.core
  condition : v.condition .storeFault = true
  presented : (u.tamperRecord .storeFault).state = .quiet ∨ (u.tamperRecord .storeFault).state = .latchedAbsent →
    let r := u.tamperRecord .storeFault
    let count := min 65535 (r.count + 1)
    v.tamperRecord .storeFault =
      { r with
        state := .present, condition := true, count := count, first := some (r.first.getD u.stamp),
        last := some u.stamp, timer := none } ∧
    v.Requested .tamper ∧ v.Placed (.tamperRaised .storeFault count .warn (some u.stamp)) ∧
    (u.store.journal.length < 8 → v.Journaled (u.entryNow (.tamperPresent .storeFault count .warn)))

/-! ### The account (R22) -/

/-- The balance is what its totals say (R22). -/
def Account.Identity (a : Account) : Prop :=
  a.balance = (a.creditedToBalance : Int) + a.ecGrantedTotal - ((a.energyCharged : Int) - a.uncollected)
    - a.standingCharged + a.clearAdjustment

/-- The identity holds in the live account, in every record of the log and in the record being written. -/
def Part.Ledger (u : Part) : Prop :=
  u.account.Identity ∧
  (∀ r : CheckpointRecord, Slot.valid r ∈ u.array.log.toList → r.account.Identity) ∧
  (∀ c : CheckpointAttempt, u.store.inFlight = some (.checkpoint c) → c.record.account.Identity)

/-- The credit state, EC availability and the two causes, with their copy in the cause set, are those that the balance, EC
owed, the friendly flag and the active bank give (R13, R19, R20). -/
def Part.AccountDerived (u : Part) : Prop :=
  let a := u.account
  let debtLimit := u.bankValue bankFriendlyDebtLimit 0
  a.creditState = creditStateOf a.balance a.ecOwed (u.bankValue bankLowCredit 0) debtLimit u.tariff.friendly ∧
  a.ecAvailable = ecAvailableOf a.balance a.ecOwed (u.bankValue bankEcAmount 0) (u.bankValue bankEcThreshold 0) ∧
  u.accountCauses = { noCredit := noCreditOf a.balance, debtLimit := debtLimitOf a.balance debtLimit } ∧
  u.supply.causes.noCredit = noCreditOf a.balance ∧ u.supply.causes.debtLimit = debtLimitOf a.balance debtLimit

/-! ### The coils (R108) -/

/-- A coil is driven only in PULSE, and it is the one of the operation's direction. -/
def Part.CoilsFollowPulse (u : Part) : Prop :=
  (u.outputs.openCoil = true →
    ∃ op, u.supply.relay = .operating op ∧ op.stage = .pulse ∧ op.direction = .opening) ∧
  (u.outputs.closeCoil = true →
    ∃ op, u.supply.relay = .operating op ∧ op.stage = .pulse ∧ op.direction = .closing)

/-! ### The attention lines (R180, R183) -/

/-- Each attention line is asserted exactly while a notice of its port is eligible and the main domain has its supply. -/
def Part.LinesFollowNotices (u : Part) : Prop :=
  ∀ p : Port, u.outputs.attention.get p = (u.mainOn && (u.notices.get p).calls)

/-- What keeps the attention lines: CODE_ATTACK is present exactly while a port is locked out (R94), and a stopped main domain
holds no frame, no code and no write (R149, R176). -/
def Part.Attending (u : Part) : Prop :=
  u.LinesFollowNotices ∧
  u.condition .codeAttack = (u.codes.kPort.lockedUntil.isSome || u.codes.sPort.lockedUntil.isSome) ∧
  (u.power = .stopped →
    (∀ p : Port, (u.receivers.get p).state = .stopped) ∧ u.store.inFlight = none ∧ u.codes.queue = [])

/-! ### The used-code list (R80, R81) -/

/-- A list of serials in strictly ascending order. -/
def strictlyRising : List Nat → Prop
  | [] => True
  | [_] => True
  | x :: y :: rest => x < y ∧ strictlyRising (y :: rest)

/-- At most 40 serials, ascending, above the floor and at most the highest serial (R81). -/
def Serials.Ordered (l : Serials) : Prop :=
  l.used.length ≤ 40 ∧ strictlyRising l.used ∧ (∀ x ∈ l.used, l.floor < x ∧ x ≤ l.highest)

end Sys2Proof.Machine
end

