-- ==== Sys2Proof/Certificates/Slice0/Obligations.lean ====
section
/-! DEFINITION. The statements for the provers, chapter by chapter of the manual. A statement about a request is about the
state in which its frame finds the part, `s.part.taking p kind`, which TakenFrame describes. -/

open Sys2Proof Sys2Proof.Machine

/-! ### The queue and time -/

/-- A step runs the command at the front of the queue on the state with the queue's rest. -/
def Obligations.StepTakesFrontCommand : Prop :=
  ∀ (c : Instr) (s : State), step (s.withFront c) = exec c s ∧
    ∀ rest, s.pending = c :: rest → step s = exec c { s with pending := rest }

/-- Every command completes in every state and leaves the queue as it stands. That a command which the state does not take
(in a stopped main domain, or with the stage, window or timer absent that it ends) completes at all is the model's choice
(logs 6 and 13, DESIGN CHOICE). -/
def Obligations.EveryCommandCompletes : Prop :=
  ∀ (c : Instr) (s : State), ∃ u : Part, exec c s = .next { s with part := u }

/-- With an empty queue a step is one tick, after which the events that have fallen due wait (logs 4, 5, 19). The time base
rises by one; the interval counter rises by one while the main domain runs, short of its last value; the clock rises by one
at each 32,768th tick, short of its last value; nothing else changes. -/
def Obligations.IdleStepIsOneTick : Prop :=
  ∀ s : State, s.pending = [] →
    ∃ (count counter : Nat),
      step s = .next
        { part := { s.part with
            timeBase := s.part.timeBase + 1, clock := { s.part.clock with count := count },
            pulse := { s.part.pulse with counter := counter } },
          pending := s.part.due } ∧
      ((s.part.timeBase + 1) % 32768 = 0 → s.part.clock.count < 4294967295 → count = s.part.clock.count + 1) ∧
      ((s.part.timeBase + 1) % 32768 ≠ 0 → count = s.part.clock.count) ∧
      (s.part.power = .running → s.part.pulse.counter < 16777215 → counter = s.part.pulse.counter + 1) ∧
      (s.part.power ≠ .running → counter = s.part.pulse.counter)

/-- The timers of the manual: each expiry falls due at the tick at which its time has come, and not before it (R26, R30,
R39, R53, R66, R78, R94, R106 to R109, R113, R115 to R117, R124, R126, R127, R136, R137, R155, R169, R173). Times are ticks
of 1/32,768 s, rounded up to a tick (log 7); that a code's screening ends at the next tick is the model's choice (log 46),
and so is that the clock counts a second at each multiple of 32,768 ticks (log 19). Which timers act after PFW is the
model's reading (logs 36 and 39). An expiry waits in the queue, and one whose time another event of its moment has taken
away is overtaken: it leaves the list of the overtaken when it is taken, and does nothing else (log 53). -/
def Obligations.TimersFallDue : Prop :=
  let milliseconds (n : Nat) : Nat := (n * 32768 + 999) / 1000
  let past (t : Option Nat) (ticks : Nat) (u : Part) : Prop := ∃ x, t = some x ∧ x + ticks ≤ u.timeBase
  let period (u : Part) (l : Link) : Nat :=
    match l with
    | .m => milliseconds (250 * 2 ^ u.config.live.nm)
    | .k => milliseconds (250 * 2 ^ u.config.live.nk)
  let silence (u : Part) (l : Link) : Nat := u.timeBase - (u.links.get l).lastFrame
  let stage (st : Stage) (ticks : Operation → Nat) (u : Part) : Prop :=
    ∃ op, u.supply.relay = .operating op ∧ op.stage = st ∧ op.stageAt + ticks op ≤ u.timeBase
  let on (u : Part) : Prop := u.power = .running ∨ u.power = .failing
  let timed (u : Part) (c : TamperCause) : Prop := c = .terminalCover ∨ c = .mainCover ∨ u.power ≠ .stopped
  let come (u : Part) (i : Instr) : Prop :=
    match i with
    | .codeLockoutExpiry .k => past u.codes.kPort.lockedUntil 0 u
    | .codeLockoutExpiry .s => past u.codes.sPort.lockedUntil 0 u
    | .tripAgeOut => past u.load.trips.head? (86400 * 32768) u
    | .loadLockoutExpiry => on u ∧ past u.load.lockoutUntil 0 u
    | .tamperDebounceExpiry c =>
      timed u c ∧ past (u.tamperRecord c).timer 0 u ∧ (u.tamperRecord c).condition = true ∧
        ((u.tamperRecord c).state = .pending true ∨ (u.tamperRecord c).state = .pending false)
    | .tamperReleaseExpiry c =>
      timed u c ∧ past (u.tamperRecord c).timer 0 u ∧ (u.tamperRecord c).condition = false ∧
        (u.tamperRecord c).state = .present
    | .handshakeTimeout => u.power = .running ∧ stage .handshake (fun op => milliseconds (125 * 2 ^ op.mh)) u
    | .zxTimeout => u.power = .running ∧ stage .zxWait (fun _ => milliseconds 100) u
    | .relayDelayEnd => u.power = .running ∧ stage .delay (fun op => (op.relayDelay * 32768 + 999999) / 1000000) u
    | .coilPulseEnd => on u ∧ stage .pulse (fun op => milliseconds op.pulseWidth) u
    | .settleEnd => on u ∧ stage .settle (fun op => milliseconds op.settleTime) u
    | .blankingEnd => u.power = .running ∧ past u.supply.blankingUntil 0 u
    | .bypassAriseTimerExpiry => on u ∧ past u.supply.bypassSince (5 * 32768) u
    | .bypassEndTimerExpiry => on u ∧ past u.supply.bypassGoneSince (5 * 32768) u
    | .jumpTimerExpiry => u.power = .running ∧ past u.supply.jumpSince (5 * 32768) u
    | .retryTimerExpiry => u.power = .running ∧ past u.supply.retryAt 0 u
    | .receiveSilenceTimeout p =>
      u.power = .running ∧ (u.receivers.get p).lastCharacter + milliseconds 20 ≤ u.timeBase ∧
        (match (u.receivers.get p).state with
          | .length | .body _ _ _ | .check _ _ _ | .drain _ => True
          | .stopped | .held | .hunt | .busy _ => False)
    | .linkSuspect l => u.power = .running ∧ (u.links.get l).state = .up ∧ period u l ≤ silence u l
    | .linkLost l => u.power = .running ∧ (u.links.get l).state = .suspect ∧ 4 * period u l ≤ silence u l
    | .windowTimeClose => u.power = .running ∧ ∃ x, u.recon.window = some x ∧ x.openedAt + 900 * 32768 ≤ u.timeBase
    | .hourlyTimerExpiry => u.power = .running ∧ past u.store.hourlyAt 0 u
    | .loadEvaluation => u.power = .running ∧ u.load.nextEvaluation ≤ u.timeBase
    | .intervalCounterWrap => u.power = .running ∧ u.pulse.counter = 16777215
    | .clockWrap => 0 < u.timeBase ∧ u.timeBase % 32768 = 0 ∧ u.clock.count = 4294967295
    | _ => False
  let timers : List Instr :=
    [.codeLockoutExpiry .k, .codeLockoutExpiry .s, .tripAgeOut, .loadLockoutExpiry, .handshakeTimeout, .zxTimeout,
      .relayDelayEnd, .coilPulseEnd, .settleEnd, .blankingEnd, .bypassAriseTimerExpiry, .bypassEndTimerExpiry,
      .jumpTimerExpiry, .retryTimerExpiry, .windowTimeClose, .hourlyTimerExpiry, .loadEvaluation]
  (∀ u : Part,
    let now : Part := { u with timeBase := u.timeBase + 1 }
    let second : Prop := (u.timeBase + 1) % 32768 = 0
    (∀ i ∈ timers, i ∈ u.due ↔ come now i) ∧
    (∀ c, (.tamperDebounceExpiry c ∈ u.due ↔ come now (.tamperDebounceExpiry c)) ∧
      (.tamperReleaseExpiry c ∈ u.due ↔ come now (.tamperReleaseExpiry c))) ∧
    (∀ p, .receiveSilenceTimeout p ∈ u.due ↔ come now (.receiveSilenceTimeout p)) ∧
    (∀ l, (.linkSuspect l ∈ u.due ↔ come now (.linkSuspect l)) ∧ (.linkLost l ∈ u.due ↔ come now (.linkLost l))) ∧
    (.intervalCounterWrap ∈ u.due ↔ u.power = .running ∧ u.pulse.counter = 16777215) ∧
    (.clockWrap ∈ u.due ↔ second ∧ u.clock.count = 4294967295) ∧
    (.minuteBoundary ∈ u.due ↔
      second ∧ on u ∧ u.clock.count ≠ 4294967295 ∧ (u.clock.count + 1) % 60 = 0) ∧
    (.codeScreening ∈ u.due ↔ u.power = .running ∧ ∃ slots mid, u.codes.head = some (.screening slots mid))) ∧
  (∀ (s : State) (v : Part),
    let t := s.becomes v
    t = { s with part := { v.watchContacts with overtaken := t.part.overtaken } } ∧
    ∀ i, i ∈ t.part.overtaken ↔
      i ∈ v.overtaken ∨ (i ∈ s.pending ∧ come s.part i ∧ ¬ come v.watchContacts i)) ∧
  (∀ (s : State) (i : Instr), i ∈ s.part.overtaken →
    i ∈ timers ∨ i = .intervalCounterWrap ∨ i = .clockWrap ∨
      (∃ c, i = .tamperDebounceExpiry c ∨ i = .tamperReleaseExpiry c) ∨ (∃ p, i = .receiveSilenceTimeout p) ∨
      (∃ l, i = .linkSuspect l ∨ i = .linkLost l) →
    exec i s = .next (s.becomes { s.part with overtaken := s.part.overtaken.erase i }))

/-! ### Frames and requests (chapter 9) -/

/-- R170, R172 to R174: how a valid frame that a port in HUNT has heard finds the part. The receiver is BUSY, its response
not yet formed, the port's link is UP with its silence at 0, and INTERFACE_LINK_LOST has ended when the K-link was LOST,
which reaches nothing beyond the chain behind a tamper condition; otherwise nothing has changed. -/
def Obligations.TakenFrame : Prop :=
  ∀ (u : Part) (p : Port) (kind : Byte),
    (u.taking p kind).receivers = u.receivers.set p ⟨.busy (frameBytes (kind + 0x80) []), u.timeBase⟩ ∧
    (u.taking p kind).links =
      (match p with
        | .m => { u.links with m := ⟨.up, u.timeBase⟩ }
        | .k => { u.links with k := ⟨.up, u.timeBase⟩ }
        | .s => u.links) ∧
    (p = .k → u.links.k.state = .lost → (u.taking p kind).condition .interfaceLinkLost = false ∧
      (u.taking p kind).core =
        ({ u with receivers := (u.taking p kind).receivers, links := (u.taking p kind).links } : Part).core ∧
      ∀ d, d ≠ .interfaceLinkLost → d ≠ .bypass → (u.taking p kind).tamperRecord d = u.tamperRecord d) ∧
    ((p = .k → u.links.k.state ≠ .lost) →
      u.taking p kind =
        { u with receivers := (u.taking p kind).receivers, links := (u.taking p kind).links })

/-- R170 to R172 for each of the 21 requests: a frame of up to 200 payload bytes that a port in HUNT hears has its effect at
once, and the response of its kind plus 0x80 is owed. A request that is not permitted on the port in the lifecycle is
answered NOT_PERMITTED, and a permitted one with a payload length it does not admit OUT_OF_RANGE, each without effect. R167:
the response owed is a whole frame, as a request is one: the start byte, the length of kind and payload, the kind, the
payload with the status first, and the CRC-16 of these but the start byte, most significant byte first. -/
def Obligations.RequestsAreTakenAndAnswered : Prop :=
  (∀ (k : ReqKind) (p : Port) (b : List Byte) (s : State), s.part.hunting p → b.length ≤ 200 →
    exec (k.command p b) s =
      if k.permitted p s.part.lifecycle then
        if k.admits b.length then
          .next (s.replied p k.byte (k.effect p b (s.part.taking p k.byte)).2 (k.effect p b (s.part.taking p k.byte)).1)
        else .next (s.replied p k.byte (justStatus 0x05) (s.part.taking p k.byte))
      else .next (s.replied p k.byte (justStatus 0x04) (s.part.taking p k.byte))) ∧
  (∀ (s : State) (p : Port) (kind : Byte) (r : Reply) (v : Part),
    ((s.replied p kind r v).part.receivers.get p).state = .busy (frameBytes (kind + 0x80) (r.status :: r.fields))) ∧
  (∀ (kind : Byte) (payload : List Byte), payload.length ≤ 200 →
    let length : Byte := BitVec.ofNat 8 (payload.length + 1)
    let check := (crc16 (length :: kind :: payload)).toNat
    frameBytes kind payload =
      0xC3 :: length :: kind :: payload ++ [BitVec.ofNat 8 (check / 256), BitVec.ofNat 8 (check % 256)]) ∧
  (let shift (x : BitVec 16) : BitVec 16 := if x.msb then (x <<< 1) ^^^ 0x1021#16 else x <<< 1;
    crc16 [] = 0xFFFF#16 ∧
    ∀ (bytes : List Byte) (b : Byte),
      crc16 (bytes ++ [b]) = Nat.iterate shift 8 (crc16 bytes ^^^ (b.zeroExtend 16 <<< 8)))

/-- R190's table of the requests, each with its kind byte and the payload lengths it admits, and R171's table of the ports
and lifecycles on which each is permitted. SUBMIT_CODE reaches its owner with any length, whose table (R76) refuses one
other than 24; the kinds from 0x16 to 0x7F name no request. -/
def Obligations.PermissionTable : Prop :=
  (let table : List (ReqKind × Byte × Nat × Nat) :=
      [(.energyReport, 0x01, 6, 6), (.switchReady, 0x02, 0, 0), (.submitCode, 0x03, 24, 24), (.takeEc, 0x04, 0, 0),
       (.confirmReconnect, 0x05, 0, 0), (.readDisplay, 0x06, 0, 0), (.readState, 0x07, 0, 0),
       (.readRegisters, 0x08, 1, 1), (.tariffWrite, 0x09, 3, 66), (.tariffFinish, 0x0A, 0, 0),
       (.tariffDiscard, 0x0B, 0, 0), (.tariffRead, 0x0C, 4, 4), (.setTime, 0x0D, 4, 4), (.readJournal, 0x0E, 4, 4),
       (.fetchNotice, 0x0F, 0, 0), (.noticeDone, 0x10, 0, 0), (.configWrite, 0x11, 5, 5), (.loadKey, 0x12, 17, 17),
       (.activateInitialBank, 0x13, 0, 0), (.relayTest, 0x14, 1, 1), (.enterService, 0x15, 0, 0)];
    (∀ k : ReqKind, ∃ byte low high, (k, byte, low, high) ∈ table) ∧
    (∀ k byte low high, (k, byte, low, high) ∈ table →
      k.byte = byte ∧ reqKindOf byte = some k ∧
      (k ≠ .submitCode → ∀ n, k.admits n = true ↔ low ≤ n ∧ n ≤ high) ∧ (k = .submitCode → ∀ n, k.admits n = true)) ∧
    (∀ kind : Byte, 0x16 ≤ kind.toNat → kind.toNat ≤ 0x7F → kindIsUnknown kind = true ∧ reqKindOf kind = none)) ∧
  ∀ (k : ReqKind) (p : Port) (l : Lifecycle), k.permitted p l = true ↔
    (k ∈ [ReqKind.energyReport] ∧ p = .m) ∨
    (k ∈ [ReqKind.switchReady] ∧ (p = .m ∨ p = .k)) ∨
    (k ∈ [ReqKind.submitCode] ∧ (p = .k ∨ p = .s)) ∨
    (k ∈ [ReqKind.takeEc, .confirmReconnect, .readDisplay] ∧ p = .k) ∨
    k ∈ [ReqKind.readState, .fetchNotice, .noticeDone] ∨
    (k ∈ [ReqKind.readRegisters, .tariffWrite, .tariffFinish, .tariffDiscard, .tariffRead, .setTime, .readJournal] ∧
      p = .s) ∨
    (k ∈ [ReqKind.configWrite, .loadKey, .activateInitialBank, .relayTest, .enterService] ∧ p = .s ∧ l = .provisioning)

/-- R170, R171: UNKNOWN_REQUEST_KIND on a port in HUNT is answered NOT_PERMITTED with its kind plus 0x80. It is a valid
frame, and it reaches no other block. -/
def Obligations.UnknownKindIsNotPermitted : Prop :=
  ∀ (p : Port) (kind : Byte) (b : List Byte) (s : State), s.part.hunting p → kindIsUnknown kind = true →
    b.length ≤ 200 →
    exec (.unknownRequestKind p kind b) s =
      .next (s.replied p kind { status := 0x04, fields := [] } (s.part.taking p kind))

/-- R167, R168, R170: the characters of a frame, one after another without error, have exactly the effect of its request.
That a request command is its whole frame at one instant is the model's choice (log 12). The premise that the contact-watch
timers are up to date holds after every command (ContactWatchKept). -/
def Obligations.FrameCharactersAreTheRequest : Prop :=
  ∀ (p : Port) (kind : Byte) (b : List Byte) (s : State), s.part.hunting p → s.part.Watched → b.length ≤ 200 →
    execAll (characters p (frameBytes kind b)) s = exec (.unknownRequestKind p kind b) s ∧
    ∀ k : ReqKind, k.byte = kind → execAll (characters p (frameBytes kind b)) s = exec (k.command p b) s

/-- R168's table for a character without error, short of the second check byte; the receiver and the moment of the character
change and nothing else. -/
def Obligations.CharacterMovesTheReceiver : Prop :=
  ∀ (p : Port) (c : Byte) (s : State) (st : Receive),
    (match (s.part.receivers.get p).state with
      | .hunt => st = if c = 0xC3 then .length else .hunt
      | .length => st = if 1 ≤ c.toNat ∧ c.toNat ≤ 201 then .body c c.toNat [] else .drain true
      | .body length due kept =>
        (due = 1 → st = .check length (kept ++ [c]) none) ∧
          (2 ≤ due → st = .body length (due - 1) (kept ++ [c])) ∧ 1 ≤ due
      | .check length kept none => st = .check length kept (some c)
      | .drain owed => st = .drain owed
      | .busy frame => st = .busy frame
      | .stopped | .held | .check _ _ (some _) => False) →
    exec (.characterReceived p c false) s =
      .next (s.becomes
        { s.part with receivers := s.part.receivers.set p { state := st, lastCharacter := s.part.timeBase } })

/-- R168 to R170, R176: how a receiver leaves a frame. A character in STOPPED or HELD is ignored, and a character error
discards a partial frame: DRAIN with no frame error owed in LENGTH, BODY and CHECK, ignored in HUNT. More than 20 ms without
a character, unless one comes at that very moment (log 53), discard a partial frame and return the receiver to HUNT; DRAIN
ends in HUNT, or with a frame error owed in a frame error. At the end of its response a receiver in BUSY returns to HUNT,
and after PFW enters STOPPED. -/
def Obligations.ReceiverLeavesAFrame : Prop :=
  (∀ (p : Port) (c : Byte) (s : State),
     ((s.part.receivers.get p).state = .stopped ∨ (s.part.receivers.get p).state = .held →
       ∀ low : Bool, exec (.characterReceived p c low) s = .next (s.becomes s.part)) ∧
     (∀ st : Receive,
       (match (s.part.receivers.get p).state with
         | .length | .body _ _ _ | .check _ _ _ => st = .drain false
         | .hunt => st = .hunt
         | .stopped | .held | .drain _ | .busy _ => False) →
       exec (.characterReceived p c true) s =
         .next (s.becomes
           { s.part with receivers := s.part.receivers.set p { state := st, lastCharacter := s.part.timeBase } }))) ∧
  (∀ (p : Port) (s : State) (st : Receive), .receiveSilenceTimeout p ∉ s.part.overtaken →
     (match (s.part.receivers.get p).state with
       | .length | .body _ _ _ | .check _ _ _ | .drain false => st = .hunt
       | .drain true => st = .busy (frameBytes 0xFF [0x03])
       | .stopped | .held | .hunt | .busy _ => False) →
     exec (.receiveSilenceTimeout p) s =
       .next (s.becomes
         { s.part with receivers := s.part.receivers.set p { s.part.receivers.get p with state := st } })) ∧
  (∀ (p : Port) (frame : List Byte) (s : State), (s.part.receivers.get p).state = .busy frame →
     exec (.responseSent p) s =
       .next (s.becomes
         { s.part with receivers := (s.part.receivers.set p
             { s.part.receivers.get p with state := if s.part.power = .running then .hunt else .stopped }) }))

/-- R170: at the second check byte, a frame whose check differs or whose kind is 0x80 or above is a frame error: the
receiver is BUSY with a response of kind 0xFF whose payload is the status FRAME_ERROR alone, no link changes and no other
block is reached. -/
def Obligations.DamagedFrameIsFrameError : Prop :=
  ∀ (p : Port) (length kind first second : Byte) (b : List Byte) (s : State),
    (s.part.receivers.get p).state = .check length (kind :: b) (some first) →
    (crc16 (length :: kind :: b)).toNat ≠ 256 * first.toNat + second.toNat ∨ 0x80 ≤ kind.toNat →
    exec (.characterReceived p second false) s =
      .next (s.becomes
        { s.part with receivers := (s.part.receivers.set p
            { state := .busy (frameBytes 0xFF [0x03]), lastCharacter := s.part.timeBase }) })

/-- R175: at a port reset the receiver of a started port enters HELD, whatever it held, and the port's levels in service are
cleared, which re-evaluates its attention line; links, pending notices, code queue and the other ports stand. At the release
a receiver in HELD enters HUNT. That between PFW and the stop a receiver in BUSY enters HELD too, and one in STOPPED does
not, is the model's choice (log 49). -/
def Obligations.PortResetHoldsOnePort : Prop :=
  ∀ (p : Port) (s : State),
    (s.part.power ≠ .stopped → (s.part.receivers.get p).state ≠ .stopped →
      exec (.portResetAssert p) s =
        .next (s.becomes
          { s.part with
            inputs := { s.part.inputs with portReset := s.part.inputs.portReset.set p true },
            receivers := s.part.receivers.set p { s.part.receivers.get p with state := .held },
            notices := s.part.notices.set p
              { pending := (s.part.notices.get p).pending, inService := ⟨false, false, false, false⟩ },
            outputs := { s.part.outputs with
              attention := s.part.outputs.attention.set p ((s.part.notices.get p).listed.any (fun x => 0 < x.level)) } })) ∧
    (s.part.power = .running → (s.part.receivers.get p).state = .held →
      exec (.portResetRelease p) s =
        .next (s.becomes
          { s.part with
            inputs := { s.part.inputs with portReset := s.part.inputs.portReset.set p false },
            receivers := s.part.receivers.set p { s.part.receivers.get p with state := .hunt } }))

/-- R173, R174: an UP link whose silence reaches T becomes SUSPECT and nothing else changes; a SUSPECT link whose silence
reaches 4 × T becomes LOST, and then PULSE_ONLY is entered (M-link) or INTERFACE_LINK_LOST arises (K-link). A frame or a new
period of that very moment overtakes the expiry (log 53). -/
def Obligations.SilentLinkIsSuspectThenLost : Prop :=
  ∀ s : State, s.part.power = .running →
    (∀ l : Link, (s.part.links.get l).state = .up → .linkSuspect l ∉ s.part.overtaken →
      exec (.linkSuspect l) s =
        .next (s.becomes
          { s.part with links := s.part.links.set l { s.part.links.get l with state := .suspect } })) ∧
    (s.part.links.m.state = .suspect → .linkLost .m ∉ s.part.overtaken →
      exec (.linkLost .m) s =
        .next (s.becomes (Part.enterPulseOnly
          { s.part with links := { s.part.links with m := { s.part.links.m with state := .lost } } }))) ∧
    (s.part.links.k.state = .suspect → .linkLost .k ∉ s.part.overtaken →
      exec (.linkLost .k) s =
        .next (s.becomes (Part.setCondition .interfaceLinkLost true
          { s.part with links := { s.part.links with k := { s.part.links.k with state := .lost } } })))

/-! ### The account (chapter 1) -/

/-- R13, R19 to R21: row by row the credit state, EC availability and the two causes that a derivation gives; and the
derivation itself, which compares with the state and the availability held before and places exactly the notices of the
change, each with the new state and the balance, and hands a change of the causes to the supply switch controller; that the
two causes are handed over together, with one decision, is the model's reading (log 15). -/
def Obligations.DerivationTable : Prop :=
  (∀ (balance : Int) (ecOwed low limit amount threshold : Nat) (friendly : Bool),
    (creditStateOf balance ecOwed low limit friendly = .normal ↔ balance > 1000 * low ∧ ecOwed = 0) ∧
    (creditStateOf balance ecOwed low limit friendly = .low ↔ 0 < balance ∧ balance ≤ 1000 * low ∧ ecOwed = 0) ∧
    (creditStateOf balance ecOwed low limit friendly = .emergency ↔ balance > 0 ∧ ecOwed > 0) ∧
    (creditStateOf balance ecOwed low limit friendly = .friendlyHold ↔
      balance ≤ 0 ∧ friendly = true ∧ balance > -(1000 * limit)) ∧
    (creditStateOf balance ecOwed low limit friendly = .exhausted ↔
      balance ≤ 0 ∧ ¬ (friendly = true ∧ balance > -(1000 * limit))) ∧
    (ecAvailableOf balance ecOwed amount threshold = true ↔ amount > 0 ∧ ecOwed = 0 ∧ balance < 1000 * threshold) ∧
    (noCreditOf balance = true ↔ balance ≤ 0) ∧
    (debtLimitOf balance limit = true ↔ balance ≤ -(1000 * limit))) ∧
  (∀ u : Part,
    let v := u.deriveQuietly
    let amount := u.bankValue bankEcAmount 0
    let debtLimit := u.bankValue bankFriendlyDebtLimit 0
    let before := u.account.creditState
    let balance := u.account.balance
    let after := creditStateOf balance u.account.ecOwed (u.bankValue bankLowCredit 0) debtLimit u.tariff.friendly
    let available := ecAvailableOf balance u.account.ecOwed amount (u.bankValue bankEcThreshold 0)
    let placesJust (b : Prop) (x : Notice) : Prop := (b → v.Placed x) ∧ (¬ b → Part.PlacesNone x.kind u v)
    v.derived = u.derived ∧
    v.account = { u.account with creditState := after, ecAvailable := available } ∧
    v.accountCauses = { noCredit := noCreditOf balance, debtLimit := debtLimitOf balance debtLimit } ∧
    v.supply =
      { u.supply with causes :=
        { u.supply.causes with noCredit := noCreditOf balance, debtLimit := debtLimitOf balance debtLimit } } ∧
    placesJust (available = true ∧ u.account.ecAvailable = false) (.ecAvailable amount balance) ∧
    placesJust (after = .low ∧ before ≠ .low) (.creditLow after balance) ∧
    placesJust (after = .exhausted ∧ before ≠ .exhausted) (.creditExhausted after balance) ∧
    placesJust (¬ (after = .friendlyHold ↔ before = .friendlyHold)) (.friendlyChanged after balance) ∧
    (v.supply.causes = u.supply.causes → u.derive = v) ∧ (v.supply.causes ≠ u.supply.causes → u.derive = v.recompute))

/-- R4, R5, R7, R8: an energy charge of `e` mWh at the current price, with the lower bound of the balance at -2^47. Charges
since checkpoint rises by the charge, unless a checkpoint's snapshot in the same event has returned it to 0 (R23). The
derivation follows, and 1,000,000 × energy charged plus the residue rises by exactly e × p. At the active bank's checkpoint
step a charge requests a STEP checkpoint, below it none; that a charge of 0 cmu requests none is the model's choice (log
45). R9: a standing charge of `c` cmu lowers the balance with the same bound and raises standing charged by the whole of it;
the residue and the energy registers stand. -/
def Obligations.EnergyAndStandingCharge : Prop :=
  (∀ (u : Part) (e : Nat) (shortfall : Bool),
     let a := u.account
     let n := e * u.price + a.residue
     let c := n / 1000000
     let v := u.energyCharge e shortfall
     v.derived =
       ({ u with account :=
           { a with
             balance := max (a.balance - c) (-(2 ^ 47)), residue := n % 1000000, energyCharged := a.energyCharged + c,
             uncollected := a.uncollected + (-(2 ^ 47) - (a.balance - c)).toNat,
             energyPerBand := a.energyPerBand.setIfInBounds u.tariff.band ((a.energyPerBand[u.tariff.band]?).getD 0 + e),
             shortfallEnergy := if shortfall then a.shortfallEnergy + e else a.shortfallEnergy } } : Part).derived ∧
     (v.account.chargesSinceCheckpoint = a.chargesSinceCheckpoint + c ∨ v.account.chargesSinceCheckpoint = 0) ∧
     v.AccountDerived ∧
     1000000 * v.account.energyCharged + v.account.residue = 1000000 * a.energyCharged + a.residue + e * u.price ∧
     (u.store.inFlight.isSome = true ∨ u.store.waiting = none →
       (∀ i, u.activeBank = some i → c ≠ 0 → 1000 * bankCheckpointStep i ≤ a.chargesSinceCheckpoint + c →
         v.Requested .step) ∧
       (c = 0 ∨ u.activeBank = none ∨
           (∃ i, u.activeBank = some i ∧ a.chargesSinceCheckpoint + c < 1000 * bankCheckpointStep i) →
         v.store.waiting = u.store.waiting ∧ (¬ u.Requested .step → ¬ v.Requested .step)))) ∧
  (∀ (a : Account) (c : Nat),
     a.standing c =
       { a with
         balance := max (a.balance - c) (-(2 ^ 47)), uncollected := a.uncollected + (-(2 ^ 47) - (a.balance - c)).toNat,
         standingCharged := a.standingCharged + c, chargesSinceCheckpoint := a.chargesSinceCheckpoint + c })

/-- R14: TAKE_EC on the K-port. -/
def Obligations.TakeEc : Prop :=
  ∀ s : State, s.part.hunting .k →
    let u := s.part.taking .k 0x04
    let a := u.account
    let amount := u.bankValue bankEcAmount 0
    (a.ecAvailable = true →
      ∃ v : Part,
        exec (.takeEc .k []) s = .next (s.replied .k 0x04 { status := 0x00, fields := [] } v) ∧
        v.derived =
          ({ u with account :=
              { a with
                balance := a.balance + 1000 * amount, ecOwed := amount,
                ecGrantedTotal := a.ecGrantedTotal + 1000 * amount } } : Part).derived ∧
        v.AccountDerived) ∧
    (a.ecAvailable = false →
      exec (.takeEc .k []) s = .next (s.replied .k 0x04 { status := 0x09, fields := [] } u))

/-- R22: the balance is what its totals say in the live account, in every record of the checkpoint log and in the record
being written, and every step keeps it so. -/
def Obligations.BalanceIdentityIsKept : Prop :=
  ∀ s t : State, s.part.Ledger → step s = .next t → t.part.Ledger

/-! ### Measurement and reconciliation (chapter 2) -/

/-- R30, R46: a rising edge on EP takes the capture while the main domain runs, and after PFW only the line changes, as in
the stopped main domain (log 13); the three kinds of wrap of the interval counter, each unless a valid pulse of that very
moment has set the counter anew (log 53). -/
def Obligations.RisingEdgeAndCounterWrap : Prop :=
  (∀ s : State,
     (s.part.power = .running →
       exec .epRisingEdge s =
         .next (s.becomes
           { s.part with
             inputs := { s.part.inputs with ep := true },
             pulse := { s.part.pulse with
               capture := some ⟨s.part.pulse.counter, s.part.pulse.overflow, s.part.pulse.unmeasurable,
                 s.part.timeBase⟩ } })) ∧
     (s.part.power ≠ .running →
       exec .epRisingEdge s = .next (s.becomes { s.part with inputs := { s.part.inputs with ep := true } }))) ∧
  (∀ s : State, s.part.power = .running → .intervalCounterWrap ∉ s.part.overtaken →
     exec .intervalCounterWrap s =
       .next (s.becomes
         { s.part with pulse := { s.part.pulse with
             counter := 0,
             overflow := s.part.pulse.overflow || !s.part.pulse.unmeasurable,
             unmeasurable := s.part.pulse.unmeasurable || s.part.pulse.overflow,
             estimate := if s.part.pulse.overflow && !s.part.pulse.unmeasurable then 0 else s.part.pulse.estimate } }))

/-- R29, R32, R34: a pulse too short, too long or implausible is malformed: the open window's malformed count rises by 1,
saturating at 65,535, the capture is discarded, and nothing else changes. -/
def Obligations.MalformedPulse : Prop :=
  ∀ (s : State) (c : RisingCapture), s.part.power = .running → s.part.pulse.capture = some c →
    let u := s.part
    let width := u.timeBase - c.edgeAt
    let t := if c.overflow then 2 ^ 24 + c.count else c.count
    width < 328 ∨ 8192 < width ∨
      (c.unmeasurable = false ∧ 0 < t ∧ 5 * u.config.live.pmax < 4 * (u.config.live.pulseWeight * 589824 / (5 * t))) →
    exec .epFallingEdge s =
      .next (s.becomes
        { u with
          inputs := { u.inputs with ep := false },
          pulse := { u.pulse with capture := none },
          recon := { u.recon with
            window := u.recon.window.map (fun x => { x with malformed := min 65535 (x.malformed + 1) }) } })

/-- R29, R31 to R33: a valid pulse. Its interval, the new reference, the power estimate and the pulse energy total are
settled; then an open window counts it, closing by energy at the bank's window size, or in PULSE_ONLY mode, in which no
window is open, the pulse is charged. -/
def Obligations.ValidPulse : Prop :=
  ∀ (s : State) (c : RisingCapture), s.part.power = .running → s.part.pulse.capture = some c →
    let w := s.part.config.live.pulseWeight
    let width := s.part.timeBase - c.edgeAt
    let t := if c.overflow then 2 ^ 24 + c.count else c.count
    let power := w * 589824 / (5 * t)
    328 ≤ width → width ≤ 8192 →
    (c.unmeasurable = false → 0 < t ∧ 4 * power ≤ 5 * s.part.config.live.pmax) →
    let u : Part :=
      { s.part with
        inputs := { s.part.inputs with ep := false },
        pulse :=
          { counter := width, overflow := false, unmeasurable := false, capture := none,
            lastInterval := if c.unmeasurable then none else some t,
            estimate := if c.unmeasurable then 0 else power, energyTotal := s.part.pulse.energyTotal + w } }
    (u.recon.mode = .reported → u.recon.window = none → exec .epFallingEdge s = .next (s.becomes u)) ∧
    (∀ x : Window, u.recon.mode = .reported → u.recon.window = some x →
      let v : Part := { u with recon := { u.recon with window := some { x with ep := x.ep + w } } }
      exec .epFallingEdge s =
        .next (s.becomes
          (if 1000 * u.bankValue bankWindowSize 100 ≤ x.ep + w then v.judgedClose else v))) ∧
    (u.recon.mode = .pulseOnly → u.recon.window = none →
      exec .epFallingEdge s = .next (s.becomes (u.energyCharge w false)))

/-- R39 to R42: the time close of a window, not overtaken by another close of that moment (log 53), is a judged close. A
shortfall beyond the tolerance is charged, to at most 1,000,000 mWh; the consecutive-divergence count rises on a divergence
in either direction and returns to 0 otherwise; the three conditions follow; a new window opens at once. -/
def Obligations.JudgedClose : Prop :=
  ∀ (s : State) (x : Window), s.part.power = .running → s.part.recon.window = some x →
    .windowTimeClose ∉ s.part.overtaken →
    let u := s.part
    let tol := max (x.ep * u.bankValue bankTolerance 3 / 100) (2 * u.config.live.pulseWeight)
    let count := if x.er + tol < x.ep ∨ x.ep + tol < x.er then min 65535 (u.recon.divergence + 1) else 0
    let charged : Account := if x.er + tol < x.ep then u.chargedAccount (min 1000000 (x.ep - x.er)) true else u.account
    ∃ v : Part,
      exec .windowTimeClose s = .next (s.becomes v) ∧
      v.derived =
        ({ u with
            account := charged,
            recon := { u.recon with window := some ⟨0, 0, 0, 0, u.timeBase⟩, divergence := count } } : Part).derived ∧
      (x.er + tol < x.ep → v.AccountDerived) ∧
      v.condition .metrologyDivergence = decide (3 ≤ count) ∧
      v.condition .pulseIntegrity = decide (16 ≤ x.malformed) ∧
      v.condition .reverseEnergy = (u.config.live.importOnly && decide (10000 < x.exportTotal))

/-- R36, R42, R43: the M-link becoming LOST in REPORTED mode closes an open window unjudged: the shortfall is charged as at
a judged close, PULSE_INTEGRITY and REVERSE_ENERGY follow the window, the divergence count stands and no window opens; the
mode becomes PULSE_ONLY and METROLOGY_SILENT arises. In PULSE_ONLY mode the link becomes LOST and nothing else changes. -/
def Obligations.LostMeterLinkEntersPulseOnly : Prop :=
  ∀ (s : State), s.part.power = .running → s.part.links.m.state = .suspect → .linkLost .m ∉ s.part.overtaken →
    let u := s.part
    (u.recon.mode = .pulseOnly →
      exec (.linkLost .m) s =
        .next (s.becomes { u with links := { u.links with m := { u.links.m with state := .lost } } })) ∧
    (u.recon.mode = .reported → ∃ v : Part,
      exec (.linkLost .m) s = .next (s.becomes v) ∧
      v.derived =
        ({ u with
            links := { u.links with m := { u.links.m with state := .lost } },
            account :=
              (match u.recon.window with
                | some x =>
                  let tol := max (x.ep * u.bankValue bankTolerance 3 / 100) (2 * u.config.live.pulseWeight)
                  if x.er + tol < x.ep then u.chargedAccount (min 1000000 (x.ep - x.er)) true else u.account
                | none => u.account),
            recon := { u.recon with window := none, mode := .pulseOnly } } : Part).derived ∧
      (∀ x, u.recon.window = some x →
        v.condition .pulseIntegrity = decide (16 ≤ x.malformed) ∧
        v.condition .reverseEnergy = (u.config.live.importOnly && decide (10000 < x.exportTotal)) ∧
        (x.er + max (x.ep * u.bankValue bankTolerance 3 / 100) (2 * u.config.live.pulseWeight) < x.ep →
          v.AccountDerived)) ∧
      v.condition .metrologySilent = true)

/-- R38: a charged ENERGY_REPORT, accepted in REPORTED mode. R190: its six bytes are the import and the export increment,
two bytes each, the phase set, bits 0 to 2 of one byte, and the neutral-present flag, any other value than 0 of one byte:
the import increment is charged, an open window counts both increments, the phase set is kept, and NEUTRAL_MISSING follows
the neutral-present flag. The response carries the credit state and the relay state after the charge. -/
def Obligations.ChargedReport : Prop :=
  ∀ (s : State) (b : List Byte), s.part.hunting .m → b.length = 6 → s.part.recon.mode = .reported →
    let imported := beNat (b.take 2)
    let exported := beNat ((b.drop 2).take 2)
    let phases : PhaseSet := ⟨((b[4]?).getD 0).getLsbD 0, ((b[4]?).getD 0).getLsbD 1, ((b[4]?).getD 0).getLsbD 2⟩
    let neutral : Bool := decide ((b[5]?).getD 0 ≠ 0)
    let u := s.part.taking .m 0x01
    imported ≤ 60000 → exported ≤ 60000 → ∃ v : Part,
      exec (.energyReport .m b) s =
        .next (s.replied .m 0x01
          { status := 0x00,
            fields := toBytes 1 (creditStateNumber v.account.creditState) ++ toBytes 1 (relayNumber v.supply.relay) } v) ∧
      v.derived =
        ({ u with
            account := u.chargedAccount imported false,
            recon := { u.recon with
              window := u.recon.window.map (fun x =>
                { x with er := x.er + imported, exportTotal := x.exportTotal + exported }) },
            supply := { u.supply with reportedPhases := some phases } } : Part).derived ∧
      v.AccountDerived ∧ v.condition .neutralMissing = !neutral

/-- R37, R38: the resume report of PULSE_ONLY mode is not charged and not counted; the mode becomes REPORTED, the phase
status is handed on, a window opens unless a blanking interval runs, and METROLOGY_SILENT ends. A report with an increment
above 60,000 is OUT_OF_RANGE without effect. R190: the bytes are those of ChargedReport. -/
def Obligations.ResumeAndRefusedReport : Prop :=
  ∀ (s : State) (b : List Byte), s.part.hunting .m → b.length = 6 →
    let imported := beNat (b.take 2)
    let exported := beNat ((b.drop 2).take 2)
    let phases : PhaseSet := ⟨((b[4]?).getD 0).getLsbD 0, ((b[4]?).getD 0).getLsbD 1, ((b[4]?).getD 0).getLsbD 2⟩
    let neutral : Bool := decide ((b[5]?).getD 0 ≠ 0)
    let u := s.part.taking .m 0x01
    (60000 < imported ∨ 60000 < exported →
      exec (.energyReport .m b) s = .next (s.replied .m 0x01 { status := 0x05, fields := [] } u)) ∧
    (imported ≤ 60000 → exported ≤ 60000 → s.part.recon.mode = .pulseOnly →
      ∃ v : Part,
        exec (.energyReport .m b) s =
          .next (s.replied .m 0x01
            { status := 0x00,
              fields :=
                toBytes 1 (creditStateNumber v.account.creditState) ++ toBytes 1 (relayNumber v.supply.relay) } v) ∧
        v.core =
          ({ u with
              recon := { u.recon with
                mode := .reported,
                window := if u.supply.blankingUntil.isSome then u.recon.window else some ⟨0, 0, 0, 0, u.timeBase⟩ },
              supply := { u.supply with reportedPhases := some phases } } : Part).core ∧
        v.condition .neutralMissing = !neutral ∧ v.condition .metrologySilent = false)

/-! ### Tariff banks and the clock (chapter 3) -/

/-- R52: in a bank that passes validation, the current record at a clock count has a minute at or below the present minute
of the day, and its chain ends there or goes on with a later minute; it is reached from the start record of the day's type
along next indices, through records of rising minutes. R51: the type of a day in the clock's range is 3 on a date that one
of the sixteen entries holds, and else 1 on a Saturday, 2 on a Sunday and 0 on the other days; dates go by the Gregorian
calendar from 2000-01-01, a Saturday. -/
def Obligations.WalkFindsTheCurrentRecord : Prop :=
  (∀ (i : Image) (count : Nat), bankFault i = none →
    let minute := count % 86400 / 60
    let r := currentRecord i count
    r ≤ 47 ∧ recordMinute i r ≤ minute ∧
      (recordNext i r = 255 ∨ (recordNext i r ≤ 47 ∧ minute < recordMinute i (recordNext i r))) ∧
      ∃ path : List Nat,
        path.head? = some (bankStart i (dayType i (count / 86400))) ∧ path.getLast? = some r ∧
        path.IsChain (fun a b => a ≤ 47 ∧ recordNext i a = b ∧ recordMinute i a < recordMinute i b)) ∧
  (∀ (i : Image) (day : Nat), day ≤ 4294967295 / 86400 →
    let days (year month : Nat) : Nat :=
      if month = 2 then (if year % 4 = 0 ∧ (year % 100 ≠ 0 ∨ year % 400 = 0) then 29 else 28)
      else if month = 4 ∨ month = 6 ∨ month = 9 ∨ month = 11 then 30 else 31
    let next : Nat × Nat × Nat → Nat × Nat × Nat := fun (year, month, d) =>
      if d < days year month then (year, month, d + 1)
      else if month < 12 then (year, month + 1, 1)
      else (year + 1, 1, 1)
    let date := Nat.iterate next day (2000, 1, 1)
    let special : Prop := ∃ n, n < 16 ∧ specialMonth i n = date.2.1 ∧ specialDay i n = date.2.2
    (special → dayType i day = 3) ∧
    (¬ special → dayType i day = if day % 7 = 0 then 1 else if day % 7 = 1 then 2 else 0))

/-- R57: an image that passes validation has every item of R49 within its range: the numbers, the unassigned bits of the two
sets clear, the reconnect confirm flag 0 or 1, the policies 0 to 2, the switch records and the special-day entries; and each
start record has minute 0. Prices take every value. Conversely, the lowest offset at which a field is out of its range is
the fault reported; without one, it is the first fault of the first of the four chains that has one, and an image with
neither passes. A chain fails at its first record whose minute is not 0 at its start, is 65,535 or does not rise, or at the
next index of its 48th record. That a switch record's band and next index are fields with offsets of their own in the first
pass, and a special day is one field, is the model's reading of R57, since R49 and R194 list a record as one field (log 31).
R194: each field read from its bytes, most significant first; R2, R50, R138: what the active bank's fields give its readers,
or their substitutes without one. That an active area left damaged by a failed or cut write reads as no bank is the model's
reading (log 10). -/
def Obligations.ValidBankIsInRange : Prop :=
  (∀ i : Image, bankFault i = none →
    1 ≤ bankVersion i ∧ bankStandingCharge i ≤ 100000000 ∧ bankLowCredit i ≤ 10000000 ∧ bankEcAmount i ≤ 1000000 ∧
    bankEcThreshold i ≤ 10000000 ∧ bankFriendlyDebtLimit i ≤ 1000000 ∧ 1000 ≤ bankCeiling i ∧ bankCeiling i ≤ 100000000 ∧
    5 ≤ bankHoldTime i ∧ bankHoldTime i ≤ 300 ∧ 30 ≤ bankLockoutTime i ∧ bankLockoutTime i ≤ 3600 ∧
    100 ≤ bankCheckpointStep i ∧ bankCheckpointStep i ≤ 100000 ∧ 50 ≤ bankWindowSize i ∧ bankWindowSize i ≤ 1000 ∧
    1 ≤ bankTolerance i ∧ bankTolerance i ≤ 10 ∧
    field i 50 1 ≤ 31 ∧ field i 51 1 ≤ 31 ∧ field i 52 1 ≤ 1 ∧ (∀ c, c < 13 → field i (57 + c) 1 ≤ 2) ∧
    (∀ n, n < 16 → (specialMonth i n = 0 ∧ specialDay i n = 0) ∨
      (1 ≤ specialMonth i n ∧ specialMonth i n ≤ 12 ∧ 1 ≤ specialDay i n ∧ specialDay i n ≤ 31)) ∧
    (∀ r, r < 48 → (recordMinute i r ≤ 1439 ∨ recordMinute i r = 65535) ∧ recordBand i r ≤ 7 ∧
      (recordNext i r ≤ 47 ∨ recordNext i r = 255)) ∧
    (∀ d, d < 4 → bankStart i d ≤ 47 ∧ recordMinute i (bankStart i d) = 0)) ∧
  (∀ i : Image,
    let bad (off : Nat) : Prop :=
      (off = 0 ∧ bankVersion i = 0) ∨ (off = 2 ∧ 100000000 < bankStandingCharge i) ∨
      (off = 30 ∧ 10000000 < bankLowCredit i) ∨ (off = 34 ∧ 1000000 < bankEcAmount i) ∨
      (off = 38 ∧ 10000000 < bankEcThreshold i) ∨ (off = 42 ∧ 1000000 < bankFriendlyDebtLimit i) ∨
      (off = 46 ∧ (bankCeiling i < 1000 ∨ 100000000 < bankCeiling i)) ∨ (off = 50 ∧ 31 < field i 50 1) ∨
      (off = 51 ∧ 31 < field i 51 1) ∨ (off = 52 ∧ 1 < field i 52 1) ∨
      (off = 53 ∧ (bankHoldTime i < 5 ∨ 300 < bankHoldTime i)) ∨
      (off = 55 ∧ (bankLockoutTime i < 30 ∨ 3600 < bankLockoutTime i)) ∨
      (∃ c, c < 13 ∧ off = 57 + c ∧ 2 < field i (57 + c) 1) ∨
      (off = 70 ∧ (bankCheckpointStep i < 100 ∨ 100000 < bankCheckpointStep i)) ∨
      (off = 74 ∧ (bankWindowSize i < 50 ∨ 1000 < bankWindowSize i)) ∨
      (off = 76 ∧ (bankTolerance i < 1 ∨ 10 < bankTolerance i)) ∨
      (∃ d, d < 4 ∧ off = 77 + d ∧ 47 < bankStart i d) ∨
      (∃ n, n < 48 ∧
        ((off = 81 + 4 * n ∧ 1439 < recordMinute i n ∧ recordMinute i n ≠ 65535) ∨
          (off = 83 + 4 * n ∧ 7 < recordBand i n) ∨
          (off = 84 + 4 * n ∧ 47 < recordNext i n ∧ recordNext i n ≠ 255))) ∨
      (∃ n, n < 16 ∧ off = 273 + 2 * n ∧ ¬ (specialMonth i n = 0 ∧ specialDay i n = 0) ∧
        ¬ (1 ≤ specialMonth i n ∧ specialMonth i n ≤ 12 ∧ 1 ≤ specialDay i n ∧ specialDay i n ≤ 31))
    let nth (d n : Nat) : Nat := Nat.iterate (recordNext i) n (bankStart i d)
    let reached (d n : Nat) : Prop := n ≤ 47 ∧ ∀ m, m < n → recordNext i (nth d m) ≠ 255
    let misplaced (d n : Nat) : Prop :=
      (n = 0 ∧ recordMinute i (nth d n) ≠ 0) ∨ recordMinute i (nth d n) = 65535 ∨
      ∃ m, n = m + 1 ∧ recordMinute i (nth d n) ≤ recordMinute i (nth d m)
    let fails (d n off : Nat) : Prop :=
      reached d n ∧
      ((misplaced d n ∧ off = 81 + 4 * nth d n) ∨
        (¬ misplaced d n ∧ n = 47 ∧ recordNext i (nth d n) ≠ 255 ∧ off = 84 + 4 * nth d n))
    let chain (d off : Nat) : Prop := ∃ n, fails d n off ∧ ∀ m, m < n → ∀ o, ¬ fails d m o
    (∀ off, bad off → (∀ o, bad o → off ≤ o) → bankFault i = some off) ∧
    ((∀ off, ¬ bad off) →
      (∀ off, bankFault i = some off ↔ ∃ d, d < 4 ∧ chain d off ∧ ∀ e, e < d → ∀ o, ¬ chain e o) ∧
      (bankFault i = none ↔ ∀ d, d < 4 → ∀ o, ¬ chain d o))) ∧
  (beNat [] = 0 ∧ ∀ (bytes : List Byte) (b : Byte), beNat (bytes ++ [b]) = 256 * beNat bytes + b.toNat) ∧
  (∀ i : Image,
    let num (off n : Nat) : Nat := beNat ((i.drop off).take n)
    let set (off : Nat) : CauseSet :=
      ⟨(num off 1).testBit 0, (num off 1).testBit 1, (num off 1).testBit 2, (num off 1).testBit 3, (num off 1).testBit 4⟩
    (∀ off n, field i off n = num off n) ∧
    bankVersion i = num 0 2 ∧ bankStandingCharge i = num 2 4 ∧ (∀ n, bankPrice i n = num (6 + 3 * n) 3) ∧
    bankLowCredit i = num 30 4 ∧ bankEcAmount i = num 34 4 ∧ bankEcThreshold i = num 38 4 ∧
    bankFriendlyDebtLimit i = num 42 4 ∧ bankCeiling i = num 46 4 ∧ bankDisconnectSet i = set 50 ∧
    bankFriendlySet i = set 51 ∧ bankReconnectConfirm i = decide (num 52 1 = 1) ∧ bankHoldTime i = num 53 2 ∧
    bankLockoutTime i = num 55 2 ∧
    (∀ c, bankPolicy i c =
      match num (57 + (causeIndex c).val) 1 with
      | 0 => .record
      | 1 => .warn
      | _ => .disconnect) ∧
    bankCheckpointStep i = num 70 4 ∧ bankWindowSize i = num 74 2 ∧ bankTolerance i = num 76 1 ∧
    (∀ d, bankStart i d = num (77 + d) 1) ∧
    (∀ r, recordMinute i r = num (81 + 4 * r) 2 ∧ recordBand i r = num (83 + 4 * r) 1 % 128 ∧
      recordFriendly i r = decide (128 ≤ num (83 + 4 * r) 1) ∧ recordNext i r = num (84 + 4 * r) 1) ∧
    (∀ n, specialMonth i n = num (273 + 2 * n) 1 ∧ specialDay i n = num (274 + 2 * n) 1)) ∧
  (∀ u : Part,
    let held (contents : AreaContents) : Option Image := match contents with
      | .image i => some i
      | .blank | .damaged => none
    (u.activeBank = match u.tariff.activeArea with
      | some .areaA => held u.array.areaA
      | some .areaB => held u.array.areaB
      | none => none) ∧
    (∀ (α : Type) (read : Image → α) (substitute : α),
      (∀ i, u.activeBank = some i → u.bankValue read substitute = read i) ∧
      (u.activeBank = none → u.bankValue read substitute = substitute)) ∧
    u.price = u.bankValue (fun i => bankPrice i u.tariff.band) 0 ∧
    u.policy .retentionLost = .record ∧ u.policy .storeFault = .warn ∧
    ∀ c, c ≠ .retentionLost → c ≠ .storeFault → u.policy c = u.bankValue (fun i => bankPolicy i c) .record)

/-- R55: a TARIFF_WRITE outside the bank, or without 1 to 64 data bytes, is OUT_OF_RANGE and leaves the pending bank.
Otherwise the bytes are stored at the offset and the state becomes LOADING; a fingerprint and a schedule are dropped, and
BANK_REOPENED with the reason WRITTEN goes to the S-port when the bank was FINISHED or SCHEDULED. R190: the offset is the
first two bytes of the payload, the data are the rest. -/
def Obligations.TariffWrite : Prop :=
  ∀ (s : State) (b : List Byte), s.part.hunting .s → b.length ≤ 200 →
    let u := s.part.taking .s 0x09
    let off := beNat (b.take 2)
    let data := b.drop 2
    (304 < off ∨ data.length < 1 ∨ 64 < data.length ∨ 305 < off + data.length →
      exec (.tariffWrite .s b) s = .next (s.replied .s 0x09 { status := 0x05, fields := [] } u)) ∧
    (off ≤ 304 → 1 ≤ data.length → data.length ≤ 64 → off + data.length ≤ 305 →
      let v : Part := Part.markDueIf u.tariff.scheduleMarker.isSome
        { u with tariff := { u.tariff with
            pendingImage := u.tariff.pendingImage.take off ++ data ++ u.tariff.pendingImage.drop (off + data.length),
            pending := .loading, scheduleMarker := none } }
      exec (.tariffWrite .s b) s =
        .next (s.replied .s 0x09 { status := 0x00, fields := [] }
          (if u.tariff.pending.fingerprint.isSome then v.place (.bankReopened .written) else v)))

/-- R56, R59: TARIFF_FINISH by the pending state; TARIFF_DISCARD empties the pending bank from any state, with its schedule;
TARIFF_READ returns bytes of the active or the pending bank and changes nothing; R190: its four bytes are the bank, 0 active
and 1 pending, the offset in two bytes and the length. R58: the fingerprint is the CRC-24 of the image. -/
def Obligations.PendingBankRequests : Prop :=
  (∀ s : State, s.part.hunting .s →
     let u := s.part.taking .s 0x0A
     let image := u.tariff.pendingImage
     (u.tariff.pending = .empty →
       exec (.tariffFinish .s []) s = .next (s.replied .s 0x0A { status := 0x0C, fields := [] } u)) ∧
     (u.tariff.pending = .loading → bankFault image = none →
       exec (.tariffFinish .s []) s =
         .next (s.replied .s 0x0A { status := 0x00, fields := toBytes 3 (crc24 image).toNat }
           { u with tariff := { u.tariff with pending := .finished (crc24 image).toNat } })) ∧
     (∀ off, u.tariff.pending = .loading → bankFault image = some off →
       exec (.tariffFinish .s []) s = .next (s.replied .s 0x0A { status := 0x0D, fields := toBytes 2 off } u)) ∧
     (∀ f, u.tariff.pending = .finished f ∨ u.tariff.pending = .scheduled f →
       exec (.tariffFinish .s []) s = .next (s.replied .s 0x0A { status := 0x00, fields := toBytes 3 f } u))) ∧
  (∀ s : State, s.part.hunting .s →
     (let u := s.part.taking .s 0x0B;
       exec (.tariffDiscard .s []) s =
         .next (s.replied .s 0x0B { status := 0x00, fields := [] }
           (Part.markDueIf u.tariff.scheduleMarker.isSome
             { u with tariff := { u.tariff with
                 pending := .empty, pendingImage := List.replicate 305 0, scheduleMarker := none } }))) ∧
     (∀ b : List Byte, b.length = 4 →
       let u := s.part.taking .s 0x0C
       let bank := beNat (b.take 1)
       let off := beNat ((b.drop 1).take 2)
       let n := beNat (b.drop 3)
       let reply : Reply :=
         if off ≤ 304 ∧ 1 ≤ n ∧ n ≤ 64 ∧ off + n ≤ 305 ∧ bank ≤ 1 then
           if bank = 1 then { status := 0x00, fields := (u.tariff.pendingImage.drop off).take n }
           else
             match u.activeBank with
             | some i => { status := 0x00, fields := (i.drop off).take n }
             | none => { status := 0x0C, fields := [] }
         else { status := 0x05, fields := [] }
       exec (.tariffRead .s b) s = .next (s.replied .s 0x0C reply u))) ∧
  (let shift (x : BitVec 24) : BitVec 24 := if x.msb then (x <<< 1) ^^^ 0x7A2F15#24 else x <<< 1;
    crc24 [] = 0xFFFFFF#24 ∧
    ∀ (bytes : List Byte) (b : Byte),
      crc24 (bytes ++ [b]) = Nat.iterate shift 8 (crc24 bytes ^^^ (b.zeroExtend 24 <<< 16)))

/-- R53, R64: a minute boundary while the main domain runs, with no schedule and no midnight processing that waits. The
chain is walked, and a change of the friendly flag re-derives the account; when the clock has passed into a later day, the
day's standing charge is taken once and the day closed, unless its number does not exceed the last standing-charge day, and
a MIDNIGHT checkpoint is requested. The day before is the one the clock was last seen in (log 17), and the walk comes before
the midnight (log 16). -/
def Obligations.MinuteBoundary : Prop :=
  ∀ s : State, s.part.power = .running → s.part.tariff.midnight = none → s.part.tariff.pending.isScheduled = false →
    let u := s.part
    let day := u.clock.count / 86400
    let newDay : Prop := u.clock.valid = true ∧ u.tariff.dayBefore < day ∧ u.tariff.lastStandingDay < day
    let charge := u.bankValue bankStandingCharge 0
    ∃ v : Part,
      exec .minuteBoundary s = .next (s.becomes v) ∧
      (∀ i, u.clock.valid = true → u.activeBank = some i →
        v.tariff.currentRecord = some (currentRecord i u.clock.count) ∧
        v.tariff.band = recordBand i (currentRecord i u.clock.count) ∧
        v.tariff.friendly = recordFriendly i (currentRecord i u.clock.count)) ∧
      (u.clock.valid = false ∨ u.activeBank = none →
        v.tariff.currentRecord = none ∧ v.tariff.band = 0 ∧ v.tariff.friendly = false) ∧
      v.tariff.dayBefore = day ∧
      (v.tariff.friendly ≠ u.tariff.friendly → v.AccountDerived) ∧
      (u.clock.valid = true → u.tariff.dayBefore < day → v.load.extended = false ∧ v.Requested .midnight) ∧
      (u.clock.valid = false ∨ day ≤ u.tariff.dayBefore → v.load = u.load) ∧
      (newDay → charge ≠ 0 → v.AccountDerived) ∧
      (newDay → v.tariff.lastStandingDay = day ∧ v.clock = { u.clock with adjustment := 0 } ∧
        (charge ≠ 0 → v.account.books = (u.account.standing charge).books) ∧
        (charge = 0 → v.account.books = u.account.books)) ∧
      (¬ newDay → v.tariff.lastStandingDay = u.tariff.lastStandingDay ∧ v.clock = u.clock ∧
        v.account.books = u.account.books) ∧
      v.pulse = u.pulse ∧ v.recon = u.recon ∧ v.codes = u.codes ∧ v.config = u.config ∧ v.links = u.links ∧
      v.receivers = u.receivers ∧ v.inputs = u.inputs ∧ v.lifecycle = u.lifecycle ∧ v.power = u.power

/-- R66: when the count passes its last value it restarts at 0 and the valid flag is cleared; while the main domain runs the
band becomes 0, no record is current and the friendly flag is cleared, before and after PFW. The day last seen becomes 0
(log 17). A setting of that very moment overtakes the wrap (log 53). -/
def Obligations.ClockWrap : Prop :=
  ∀ s : State, .clockWrap ∉ s.part.overtaken →
    ∃ v : Part,
      exec .clockWrap s = .next (s.becomes v) ∧
      (s.part.power = .running ∨ s.part.power = .failing →
        v.derived =
          ({ s.part with
              clock := { s.part.clock with count := 0, valid := false },
              tariff := { s.part.tariff with currentRecord := none, band := 0, friendly := false, dayBefore := 0 } } :
            Part).derived) ∧
      (s.part.power = .stopped →
        v = { s.part with
              clock := { s.part.clock with count := 0, valid := false },
              tariff := { s.part.tariff with dayBefore := 0 } })

/-- R64, R65, R67, R69, R128: an unclamped SET_TIME, with no midnight processing that waits and no schedule. The count is
taken, the flag set and the cumulative adjustment 0; a change of the count is journaled and noticed; at most the new day is
charged. A midnight runs when the setting is forward into a day later than the one last seen (log 17) or gives a day above
the last standing-charge day (R65), at most one (log 18). A forward one ends an extended lockout; whether a backward one does,
as R65 says, or leaves the limiter, as R69 and R128 say, is a free value, and the statement holds for both (log 66). -/
def Obligations.UnclampedSetTime : Prop :=
  ∀ (s : State) (b : List Byte), s.part.hunting .s → b.length = 4 →
    s.part.clock.valid = false ∨ s.part.lifecycle = .provisioning →
    s.part.tariff.midnight = none → s.part.tariff.pending.isScheduled = false →
    let u := s.part.taking .s 0x0D
    let count := wholeNumber b
    let charge := u.bankValue bankStandingCharge 0
    let midnight : Prop :=
      (u.clock.count < count ∧ u.tariff.dayBefore < count / 86400) ∨ u.tariff.lastStandingDay < count / 86400
    let told : Prop := u.clock.count ≤ count ∨ Config.backwardSettingEndsLockout = true
    let evidence : JournalRequest :=
      { stamp := .counted count, battery := false, balance := u.account.balance,
        detail := .clockAdjusted u.clock.count count }
    ∃ v : Part,
      exec (.setTime .s b) s =
        .next (s.replied .s 0x0D
          { status := 0x00, fields := toBytesSigned 5 ((count : Int) - u.clock.count) ++ toBytes 4 count } v) ∧
      v.clock = { count := count, valid := true, adjustment := 0 } ∧
      (u.tariff.lastStandingDay < count / 86400 → v.tariff.lastStandingDay = count / 86400 ∧
        v.account.books = (if charge = 0 then u.account else u.account.standing charge).books) ∧
      (count / 86400 ≤ u.tariff.lastStandingDay → v.tariff.lastStandingDay = u.tariff.lastStandingDay ∧
        v.account.books = u.account.books) ∧
      (midnight → v.Requested .midnight) ∧ (midnight ∧ told → v.load = { u.load with extended := false }) ∧
      (¬ (midnight ∧ told) → v.load = u.load) ∧
      (count ≠ u.clock.count → v.Placed (.clockAdjusted u.clock.count count) ∧
        (u.store.journal.length < 4 → v.Journaled evidence)) ∧
      (∀ i, u.activeBank = some i → u.clock.valid = false ∨ count ≠ u.clock.count →
        v.tariff.currentRecord = some (currentRecord i count)) ∧
      v.pulse = u.pulse ∧ v.recon = u.recon ∧ v.codes = u.codes ∧ v.config = u.config ∧ v.lifecycle = u.lifecycle

/-- R68, R69: a clamped SET_TIME, with no midnight processing that waits and no schedule. The applied change is the
requested one limited to the three ranges; the count moves by it and the cumulative adjustment rises by it; a change of 0
moves nothing. A change is journaled and noticed. A forward change into a day later than the one last seen (log 17) is a
midnight event, which ends an extended lockout and charges the day when it exceeds the last standing-charge day. The status
is OK when the applied change is the requested one, else CLAMPED. -/
def Obligations.ClampedSetTime : Prop :=
  ∀ (s : State) (b : List Byte), s.part.hunting .s → b.length = 4 →
    s.part.clock.valid = true → s.part.lifecycle = .inService →
    -900 ≤ s.part.clock.adjustment → s.part.clock.adjustment ≤ 900 → s.part.clock.count ≤ 4294967295 →
    s.part.tariff.midnight = none → s.part.tariff.pending.isScheduled = false →
    let u := s.part.taking .s 0x0D
    let c := u.clock
    let requested : Int := (wholeNumber b : Int) - c.count
    let low := max (max (-300) (-900 - c.adjustment)) (-(c.count : Int))
    let high := min (min 300 (900 - c.adjustment)) (4294967295 - (c.count : Int))
    let applied := min high (max low requested)
    let after := ((c.count : Int) + applied).toNat
    let crossed : Prop := 0 < applied ∧ u.tariff.dayBefore < after / 86400
    let newDay : Prop := crossed ∧ u.tariff.lastStandingDay < after / 86400
    let evidence : JournalRequest :=
      { stamp := .counted after, battery := false, balance := u.account.balance, detail := .clockAdjusted c.count after }
    let charge := u.bankValue bankStandingCharge 0
    ∃ v : Part,
      exec (.setTime .s b) s =
        .next (s.replied .s 0x0D
          { status := if applied = requested then 0x00 else 0x02,
            fields := toBytesSigned 5 applied ++ toBytes 4 after } v) ∧
      (after : Int) = c.count + applied ∧
      (applied = 0 → v = u) ∧
      (newDay → v.clock = { count := after, valid := true, adjustment := 0 } ∧
        v.tariff.lastStandingDay = after / 86400 ∧
        v.account.books = (if charge = 0 then u.account else u.account.standing charge).books) ∧
      (¬ newDay → v.clock = { count := after, valid := true, adjustment := c.adjustment + applied } ∧
        v.tariff.lastStandingDay = u.tariff.lastStandingDay ∧ v.account.books = u.account.books) ∧
      (crossed → v.load.extended = false ∧ v.Requested .midnight) ∧ (¬ crossed → v.load = u.load) ∧
      (applied ≠ 0 → v.Placed (.clockAdjusted c.count after) ∧
        (u.store.journal.length < 4 → v.Journaled evidence)) ∧
      (∀ i, applied ≠ 0 → u.activeBank = some i → v.tariff.currentRecord = some (currentRecord i after)) ∧
      v.pulse = u.pulse ∧ v.recon = u.recon ∧ v.codes = u.codes ∧ v.config = u.config ∧ v.lifecycle = u.lifecycle

/-- R64, step 1: with a schedule whose activation can start, a midnight starts it, and the standing charge waits for its
end. That the day is compared with the day last seen, at a boundary of any count, is the model's choice (log 17), and what
lets an activation start its reading (log 11). The pending bank is emptied with its schedule, and the write of the area that
is not active is submitted. -/
def Obligations.ScheduledMidnightWaits : Prop :=
  ∀ (s : State) (f : Nat), s.part.power = .running → s.part.tariff.midnight = none →
    s.part.tariff.pending = .scheduled f → s.part.canActivate = true → s.part.clock.valid = true →
    s.part.tariff.dayBefore < s.part.clock.count / 86400 →
    let u := s.part
    let area := match u.tariff.activeArea with
      | some .areaA => Area.areaB
      | some .areaB => .areaA
      | none => .areaA
    ∃ v : Part,
      exec .minuteBoundary s = .next (s.becomes v) ∧
      v.tariff.activation = some
        { image := u.tariff.pendingImage, fingerprint := f, area := area, origin := .midnight, phase := .bankWrite } ∧
      v.tariff.pending = .empty ∧ v.tariff.pendingImage = List.replicate 305 0 ∧ v.tariff.scheduleMarker = none ∧
      v.tariff.midnight = some ⟨u.clock.count / 86400, false⟩ ∧ v.tariff.activeArea = u.tariff.activeArea ∧
      v.tariff.lastStandingDay = u.tariff.lastStandingDay ∧ v.account.books = u.account.books ∧ v.clock = u.clock ∧
      (.bank area u.tariff.pendingImage ∈ v.store.class2 ∨
        v.store.inFlight = some (.bank area u.tariff.pendingImage false))

/-! ### Codes (chapter 4) -/

/-- R76, R77: SUBMIT_CODE on the K-port or the S-port, by the tests of R76 in their order. An entry that joins an empty
queue becomes the head and its screening begins with the key slots and MID as they stand. On the M-port it is NOT_PERMITTED.
-/
def Obligations.SubmitCode : Prop :=
  (∀ (s : State) (b : List Byte), s.part.hunting .m → b.length ≤ 200 →
    exec (.submitCode .m b) s = .next (s.replied .m 0x03 { status := 0x04, fields := [] } (s.part.taking .m 0x03))) ∧
  ∀ (s : State) (p : Port) (b : List Byte), p = .k ∨ p = .s → s.part.hunting p → b.length ≤ 200 →
    let u := s.part.taking p 0x03
    let locked := if p = .k then u.codes.kPort.lockedUntil.isSome else u.codes.sPort.lockedUntil.isSome
    let digits := b.length = 24 ∧ ∀ c ∈ b, 0x30 ≤ c.toNat ∧ c.toNat ≤ 0x39
    let full := 4 ≤ u.codes.queue.length ∨
      (if p = .k then 2 else 3) ≤ (u.codes.queue.filter (fun e => e.port = p)).length
    (locked = true → exec (.submitCode p b) s = .next (s.replied p 0x03 { status := 0x07, fields := [] } u)) ∧
    (locked = false → ¬ digits →
      exec (.submitCode p b) s = .next (s.replied p 0x03 { status := 0x08, fields := [] } u)) ∧
    (locked = false → digits → full →
      exec (.submitCode p b) s = .next (s.replied p 0x03 { status := 0x06, fields := [] } u)) ∧
    (locked = false → digits → ¬ full →
      exec (.submitCode p b) s =
        .next (s.replied p 0x03 { status := 0x01, fields := toBytes 1 (u.codes.queue.length + 1) }
          { u with codes := { u.codes with
              queue := u.codes.queue ++ [{ port := p, digits := b }],
              head := if u.codes.queue = [] then some (.screening u.codes.slots u.config.live.mid)
                else u.codes.head } }))

/-- R72, R193: the 24 digits spell one decimal number, the most significant first, and kind, serial, value and check are its
bits 78 to 74, 73 to 54, 53 to 30 and 29 to 0. R74: the check value of a code under a generation, round by round, which a
slot that is not loaded matches for no code. R72, R75, R79, R80, R83, R91: a code that screening or its value rules refuse,
with a result other than CHECK_FAILED, while the main domain has its supply (a stopped one holds no code: R95, R149). The
first stage that refuses gives the result; it is placed on the origin port, the entry leaves the queue, and neither the
used-code list, the floor, the highest serial nor the generation changes. R78: the check and the value rule of KEY_ROLL read
the slots and MID captured when the code became head. -/
def Obligations.RefusedCode : Prop :=
  (decimalOf [] = 0 ∧
    ∀ (digits : List Byte) (b : Byte), decimalOf (digits ++ [b]) = 10 * decimalOf digits + (b.toNat - 0x30)) ∧
  (∀ n : Nat, n < 2 ^ 79 →
    let c := bodyFields n
    n = c.kind * 2 ^ 74 + c.serial * 2 ^ 54 + c.value * 2 ^ 30 + c.check ∧
    c.kind < 2 ^ 5 ∧ c.serial < 2 ^ 20 ∧ c.value < 2 ^ 24 ∧ c.check < 2 ^ 30) ∧
  (∀ (slots : Vector KeySlot 4) (mid g : Nat) (c : DecodedCode),
    matchesUnder slots mid g c = true ↔
      ∃ (k : KeySlot) (a b : Nat → Word32),
        slots[g]? = some k ∧ k.loaded = true ∧
        a 0 = BitVec.ofNat 32 mid ^^^ k.k0 ∧ b 0 = BitVec.ofNat 32 (g * 2 ^ 24 + c.value) ^^^ k.k1 ∧
        (∀ i, i < 12 →
          let word := if i % 4 = 0 then k.k0 else if i % 4 = 1 then k.k1 else if i % 4 = 2 then k.k2 else k.k3
          let mixed := if i % 2 = 0 then BitVec.ofNat 32 (c.kind * 2 ^ 20 + c.serial)
            else BitVec.ofNat 32 (g * 2 ^ 24 + c.value)
          a (i + 1) = b i ∧
          b (i + 1) = (a i + (b i).rotateLeft 7 + word + BitVec.ofNat 32 i) ^^^ mixed) ∧
        (a 12 ^^^ b 12).toNat % 2 ^ 30 = c.check) ∧
  ∀ (s : State) (e : CodeEntry) (rest : List CodeEntry) (slots : Vector KeySlot 4) (mid : Nat),
    s.part.power = .running ∨ s.part.power = .failing →
    s.part.codes.queue = e :: rest → s.part.codes.head = some (.screening slots mid) → e.port = .k ∨ e.port = .s →
    let u := s.part
    let leaves (r : CodeResult) (code : Option DecodedCode) : Part :=
      { u.placeOn e.port (.codeResult r code none) with codes := { u.codes with
          queue := rest,
          head := if rest = [] then none else some (.screening u.codes.slots u.config.live.mid) } }
    (2 ^ 79 ≤ decimalOf e.digits →
      exec .codeScreening s = .next (s.becomes (leaves .malformed none))) ∧
    (∀ c : DecodedCode, decimalOf e.digits < 2 ^ 79 → c = bodyFields (decimalOf e.digits) →
      let g := u.codes.generation
      let l := u.codes.serials
      let valueRefusal : Option CodeResult :=
        match c.kind with
        | 0 =>
          if c.value = 0 then some .valueRange
          else if u.account.balance + 1000 * (u.account.split c.value).q2 > 1000 * u.bankValue bankCeiling 0 then
            some .ceiling
          else none
        | 2 => if c.value = 0 ∨ (100 ≤ c.value ∧ c.value ≤ 150000) then none else some .valueRange
        | 4 => if c.value ≤ 50 then none else some .valueRange
        | 5 => if c.value < 2 ^ 13 then none else some .valueRange
        | 6 =>
          if c.value = g + 1 ∧ ((slots[c.value]?).map KeySlot.loaded).getD false = true then none
          else some .valueRange
        | 7 => if c.value ≤ 1 then none else some .valueRange
        | 8 | 9 =>
          if u.canActivate then
            match u.tariff.pending with
            | .finished f | .scheduled f => if f = c.value then none else some .bankMismatch
            | .empty | .loading => some .bankState
          else some .bankState
        | _ => none
      let refusal : Option CodeResult :=
        if matchesUnder slots mid g c = false then
          (if 0 < g ∧ matchesUnder slots mid (g - 1) c = true then some .generationOld else some .checkFailed)
        else if 10 ≤ c.kind then some .kindUnknown
        else if e.port = .k ∧ (c.kind = 6 ∨ c.kind = 8 ∨ c.kind = 9) then some .kindNotOnPort
        else if c.serial ≤ l.floor then some .tooOld
        else if c.serial ∈ l.used then some .alreadyUsed
        else if l.highest + 8192 < c.serial then some .tooFarAhead
        else valueRefusal
      (∀ r, refusal = some r → r ≠ .checkFailed →
        exec .codeScreening s = .next (s.becomes (leaves r (some c)))) ∧
      (refusal = none ↔ u.screenRefusal slots mid e.port c = none ∧ u.valueRefusal slots c = none))

/-- R93, R94: a CHECK_FAILED result enters the time in seconds into its port's history, of which the oldest of five leaves
first. Five times within 600 s start a lockout of 1,800 s and empty the history. CODE_ATTACK is present exactly while either
port is locked out, so also at the end of a lockout. The other port's history and lockout stand. -/
def Obligations.CheckFailuresLockThePort : Prop :=
  (∀ (s : State) (e : CodeEntry) (rest : List CodeEntry) (slots : Vector KeySlot 4) (mid : Nat) (c : DecodedCode),
    s.part.power = .running ∨ s.part.power = .failing →
    s.part.codes.queue = e :: rest → s.part.codes.head = some (.screening slots mid) → e.port = .k ∨ e.port = .s →
    decodeDigits e.digits = some c → matchesUnder slots mid s.part.codes.generation c = false →
    (s.part.codes.generation = 0 ∨ matchesUnder slots mid (s.part.codes.generation - 1) c = false) →
    let u := s.part
    let before := if e.port = .k then u.codes.kPort else u.codes.sPort
    before.failures.length ≤ 5 →
    let times := (if before.failures.length = 5 then before.failures.drop 1 else before.failures) ++ [u.timeBase / 32768]
    let after : PortCodes :=
      if times.length = 5 ∧ times.getLastD 0 - times.headD 0 ≤ 600 then
        { failures := [], lockedUntil := some (u.timeBase + 1800 * 32768) }
      else { before with failures := times }
    let kPort := if e.port = .k then after else u.codes.kPort
    let sPort := if e.port = .s then after else u.codes.sPort
    ∃ v : Part,
      exec .codeScreening s = .next (s.becomes v) ∧
      v.core =
        ({ u with codes := { u.codes with
            kPort := kPort, sPort := sPort, queue := rest,
            head := if rest = [] then none else some (.screening u.codes.slots u.config.live.mid) } } : Part).core ∧
      v.condition .codeAttack = (kPort.lockedUntil.isSome || sPort.lockedUntil.isSome) ∧
      ∃ x, (v.notices.get e.port).pending.get (kindIndex .codeResult) = some x ∧
        x.notice = .codeResult .checkFailed (some c) none) ∧
  (∀ s : State,
    (.codeLockoutExpiry .k ∉ s.part.overtaken → ∃ v : Part,
      exec (.codeLockoutExpiry .k) s = .next (s.becomes v) ∧
      v.core =
        ({ s.part with codes := { s.part.codes with
            kPort := { s.part.codes.kPort with lockedUntil := none } } } : Part).core ∧
      v.condition .codeAttack = s.part.codes.sPort.lockedUntil.isSome) ∧
    (.codeLockoutExpiry .s ∉ s.part.overtaken → ∃ v : Part,
      exec (.codeLockoutExpiry .s) s = .next (s.becomes v) ∧
      v.core =
        ({ s.part with codes := { s.part.codes with
            sPort := { s.part.codes.sPort with lockedUntil := none } } } : Part).core ∧
      v.condition .codeAttack = s.part.codes.kPort.lockedUntil.isSome))

/-- R10 to R12, R16 to R18, R82, R84, R90: an accepted CREDIT, CREDIT_CLEAR, DEBT_SET or DEBT_RATE. The account takes the
effect and the serial is marked in the same moment; the head stays held, the checkpoint that serves the code waits or,
started in the same event, carries the marked serial, and a CODE_ACCEPTED entry is requested (R92). -/
def Obligations.AcceptedMoneyCode : Prop :=
  ∀ (s : State) (e : CodeEntry) (rest : List CodeEntry) (slots : Vector KeySlot 4) (mid : Nat) (c : DecodedCode),
    s.part.power = .running ∨ s.part.power = .failing →
    s.part.codes.queue = e :: rest → s.part.codes.head = some (.screening slots mid) →
    decodeDigits e.digits = some c → s.part.screenRefusal slots mid e.port c = none → s.part.valueRefusal slots c = none →
    let u := s.part
    let a := u.account
    let repaid := min c.value a.ecOwed
    let recovered := min a.debt ((c.value - repaid) * a.debtRate / 100)
    let credited := c.value - repaid - recovered
    let split : Option TopUpSplit := if c.kind = 0 then some ⟨repaid, recovered, credited⟩ else none
    let after (b : Account) : Part :=
      { u with
        account := b,
        codes := { u.codes with serials := u.codes.serials.mark c.serial, head := some (.commit c split) } }
    ∃ v : Part,
      exec .codeScreening s = .next (s.becomes v) ∧
      (c.kind = 0 →
        v.derived =
          (after
            { a with
              ecOwed := a.ecOwed - repaid, ecRepaidTotal := a.ecRepaidTotal + repaid,
              debt := a.debt - recovered, debtRecoveredTotal := a.debtRecoveredTotal + recovered,
              balance := a.balance + 1000 * credited, creditedToBalance := a.creditedToBalance + 1000 * credited
            }).derived ∧ v.AccountDerived) ∧
      (c.kind = 1 →
        v.derived =
          (after { a with clearAdjustment := a.clearAdjustment - a.balance, balance := 0, ecOwed := 0 }).derived ∧
        v.AccountDerived) ∧
      (c.kind = 3 → v.core = (after { a with debt := c.value }).core) ∧
      (c.kind = 4 → v.core = (after { a with debtRate := c.value }).core) ∧
      (c.kind = 0 ∨ c.kind = 1 ∨ c.kind = 3 ∨ c.kind = 4 →
        (∃ reasons, v.store.waiting = some reasons ∧ reasons.getLsbD 0 = true) ∨
        ∃ x, v.store.inFlight = some (.checkpoint x) ∧ x.carriesCode = true ∧ x.record.reasons.getLsbD 0 = true ∧
          x.record.serials = u.codes.serials.mark c.serial ∧ x.record.account.balance = v.account.balance) ∧
      (c.kind = 0 ∨ c.kind = 1 ∨ c.kind = 3 ∨ c.kind = 4 → u.store.journal.length < 4 →
        v.Journaled
          { stamp := u.stamp, battery := false, balance := v.account.balance,
            detail := .codeAccepted c.kind c.serial c.value e.port })

/-- R85 to R90, R92, R123, R140, R155: the other accepted codes, each but TARIFF_NOW with its journal entry and a CODE
checkpoint. LOAD_LIMIT sets the limit and ends an extended lockout; TAMPER_CLEAR ends both lockouts, sets the divergence
count to 0 and returns the latched, absent causes it names to QUIET and keeps those PRESENT or PENDING, but that the two
conditions it ends itself, and BYPASS at a closing from OPEN, end; those that became QUIET are named in one TAMPER_CLEARED
entry; KEY_ROLL raises the generation and empties the used-code list; SUPPLY_ORDER sets REMOTE_ORDER; TARIFF_MIDNIGHT
schedules the held bank; TARIFF_NOW starts its activation and spends no serial yet. -/
def Obligations.AcceptedOtherCode : Prop :=
  ∀ (s : State) (e : CodeEntry) (rest : List CodeEntry) (slots : Vector KeySlot 4) (mid : Nat) (c : DecodedCode),
    s.part.power = .running ∨ s.part.power = .failing →
    s.part.codes.queue = e :: rest → s.part.codes.head = some (.screening slots mid) →
    decodeDigits e.digits = some c → s.part.screenRefusal slots mid e.port c = none → s.part.valueRefusal slots c = none →
    let u := s.part
    let spent : Codes :=
      { u.codes with serials := u.codes.serials.mark c.serial, head := some (.commit c none) }
    let named (d : TamperCause) : Prop := c.value = 0 ∨ c.value.testBit (causeIndex d).val = true
    let cleared (d : TamperCause) : Prop := named d ∧
      ((u.tamperRecord d).state = .latchedAbsent ∨
        ((d = .codeAttack ∨ d = .metrologyDivergence) ∧ (u.tamperRecord d).condition = true ∧
          ((u.tamperRecord d).state = .present ∨ (u.tamperRecord d).state = .pending true)))
    ∃ v : Part,
      exec .codeScreening s = .next (s.becomes v) ∧
      (c.kind = 2 →
        v.core =
          ({ u with
              codes := spent,
              load := { u.load with
                limit := c.value, extended := false,
                lockoutUntil := if c.value = 0 then none else u.load.lockoutUntil,
                overLimit := if c.value = 0 then 0 else u.load.overLimit } } : Part).core ∧
        v.supply.causes.loadLimit = (decide (c.value ≠ 0) && u.load.lockoutUntil.isSome)) ∧
      (c.kind = 5 →
        v.core =
          ({ u with
              codes := { spent with
                kPort := { failures := [], lockedUntil := none }, sPort := { failures := [], lockedUntil := none } },
              recon := { u.recon with divergence := 0 } } : Part).core ∧
        v.condition .codeAttack = false ∧ v.condition .metrologyDivergence = false ∧
        (∀ d, named d → (u.tamperRecord d).state = .latchedAbsent → (v.tamperRecord d).state = .quiet) ∧
        (∀ d, named d → d = .codeAttack ∨ d = .metrologyDivergence → (u.tamperRecord d).state = .present →
          (u.tamperRecord d).condition = true → (v.tamperRecord d).state = .quiet) ∧
        (∀ d, ¬ named d → (u.tamperRecord d).state = .latchedAbsent → (v.tamperRecord d).state = .latchedAbsent) ∧
        (∀ d, ¬ named d → d = .codeAttack ∨ d = .metrologyDivergence → (u.tamperRecord d).state = .present →
          (u.tamperRecord d).condition = true → (v.tamperRecord d).state = .latchedAbsent) ∧
        (∀ d, d ≠ .codeAttack → d ≠ .metrologyDivergence → (d = .bypass → u.supply.relay ≠ .settled .opened) →
          (u.tamperRecord d).state = .present ∨ (∃ prior, (u.tamperRecord d).state = .pending prior) ∨
            (u.tamperRecord d).state = .quiet →
          v.tamperRecord d = u.tamperRecord d) ∧
        (u.store.journal.length < 4 → (∃ d, d ≠ .bypass ∧ cleared d) → ∃ causes : List TamperCause,
          v.Journaled (u.entryNow (.tamperCleared causes)) ∧ ∀ d, d ≠ .bypass → (d ∈ causes ↔ cleared d)) ∧
        ∀ d, (v.tamperRecord d).count = (u.tamperRecord d).count ∧ (v.tamperRecord d).first = (u.tamperRecord d).first ∧
          (v.tamperRecord d).last = (u.tamperRecord d).last) ∧
      (c.kind = 6 →
        v.core =
          ({ u with codes := { u.codes with
              generation := u.codes.generation + 1, serials := { used := [], floor := 0, highest := 0 },
              head := some (.commit c none) } } : Part).core) ∧
      (c.kind = 7 →
        v.core = ({ u with codes := { spent with remoteOrder := decide (c.value = 1) } } : Part).core ∧
        v.supply.causes.remoteOrder = decide (c.value = 1)) ∧
      (c.kind = 9 →
        v.core =
          ({ u with
              codes := spent,
              tariff := { u.tariff with pending := .scheduled c.value, scheduleMarker := some c.value } } :
            Part).core) ∧
      (c.kind = 8 →
        v.codes = { u.codes with head := some (.activating c) } ∧
        v.tariff =
          { u.tariff with
            pending := .empty, pendingImage := List.replicate 305 0, scheduleMarker := none,
            activation := some
              { image := u.tariff.pendingImage, fingerprint := c.value,
                area := if u.tariff.activeArea = some .areaA then .areaB else .areaA,
                origin := .code, phase := .bankWrite } } ∧
        v.account.books = u.account.books) ∧
      (c.kind = 2 ∨ c.kind = 5 ∨ c.kind = 6 ∨ c.kind = 7 ∨ c.kind = 9 → v.Requested .code) ∧
      (c.kind = 2 ∨ c.kind = 5 ∨ c.kind = 7 ∨ c.kind = 9 → u.store.journal.length < 4 →
        v.Journaled (u.entryNow (.codeAccepted c.kind c.serial c.value e.port))) ∧
      (c.kind = 6 → u.store.journal.length < 4 →
        v.Journaled (u.entryNow (.keyRolled u.codes.generation (u.codes.generation + 1) c.serial)))

/-- R81: marking a serial that the serial rules pass keeps the used-code list in order, inserts the serial, and lets the
lowest of 41 leave into the floor; the highest serial follows. -/
def Obligations.MarkKeepsTheUsedCodeList : Prop :=
  ∀ (l : Serials) (x : Nat), l.Ordered → l.floor < x → x ∉ l.used →
    (l.mark x).Ordered ∧ (l.mark x).highest = max l.highest x ∧
    (l.used.length < 40 → (l.mark x).floor = l.floor ∧ ∀ y, y ∈ (l.mark x).used ↔ y = x ∨ y ∈ l.used) ∧
    (l.used.length = 40 →
      (l.mark x).floor = min x (l.used.headD 0) ∧
        ∀ y, y ∈ (l.mark x).used ↔ (y = x ∨ y ∈ l.used) ∧ (l.mark x).floor < y)

/-! ### Checkpoints, the journal and the store controller (chapter 8) -/

/-- R23, R151, R153 to R155, R157, R159, R161: a checkpoint request, the submission of a journal entry and of a class 2
write, and the choice of the next attempt. While no write is in flight, the waiting checkpoint starts first, then the oldest
class 2 write, which does not start after PFW, then the oldest journal entry. While a write is in flight the reason joins
the waiting checkpoint; otherwise the snapshot is taken at once into the next slot, which is invalid until the success (log
9), under the next sequence number, the account's charges since checkpoint return to 0, and during an activation's
checkpoint step the snapshot names the newly written area; the next slot passes over that of the newest record. The hourly
timer starts again at each expiry and requests a checkpoint when the checkpoint-due flag is set. An entry that finds 8
waiting is discarded; otherwise it waits, or on an idle controller takes the journal position, which advances, at once,
which sets the checkpoint-due flag (log 42). With the numbers used up the attempt writes nothing and the positions stand
(log 48). -/
def Obligations.CheckpointRequests : Prop :=
  (∀ (u : Part) (r : CheckpointReason),
    let reasons := u.store.waiting.getD 0 ||| (1#16 <<< checkpointReasonNumber r)
    let waits : Part := { u with store := { u.store with waiting := some reasons } }
    u.requestCheckpoint r = waits.startNext ∧ (u.store.inFlight.isSome = true → u.requestCheckpoint r = waits)) ∧
  (∀ u : Part, u.store.inFlight.isSome = true ∨ u.power = .stopped → u.startNext = u) ∧
  (∀ (u : Part) (reasons : ReasonSet), u.store.waiting = some reasons →
    (u.store.inFlight = none → u.power ≠ .stopped → u.store.nextSequence ≤ 2 ^ 32 - 1 →
      let array : NvArray := { u.array with log := u.array.log.setIfInBounds u.store.nextSlot .invalid }
      let next := (u.store.nextSlot + 1) % 64
      ∃ (record : CheckpointRecord) (carriesCode carriesActivation : Bool),
        u.startNext =
          { u with
            account := { u.account with chargesSinceCheckpoint := 0 },
            array := array,
            store := { u.store with
              waiting := none,
              nextSlot := if array.newestCheckpoint.map Prod.fst = some next then (next + 1) % 64 else next,
              nextSequence := u.store.nextSequence + 1,
              inFlight := some (.checkpoint
                { record := record, slot := u.store.nextSlot, firstSequence := u.store.nextSequence, retry := false,
                  writesNothing := false, changedSince := false, carriesCode := carriesCode,
                  carriesActivation := carriesActivation }) } } ∧
        record.sequence = u.store.nextSequence ∧ record.reasons = reasons ∧ record.lifecycle = u.lifecycle ∧
        record.stamp = (if u.clock.valid then .counted u.clock.count else .invalid) ∧
        record.account = { u.account with chargesSinceCheckpoint := 0 } ∧
        record.generation = u.codes.generation ∧ record.remoteOrder = u.codes.remoteOrder ∧
        record.scheduleMarker = u.tariff.scheduleMarker ∧ record.lastStandingDay = u.tariff.lastStandingDay ∧
        record.loadLimit = u.load.limit ∧ record.extended = u.load.extended ∧ record.logical = u.supply.logical ∧
        record.record = u.supply.record ∧ record.nextJournalSequence = u.store.nextJournalSequence ∧
        (∀ c : TamperCause, record.tamper.get (causeIndex c) =
          { latched := decide ((u.tamperRecord c).state ≠ .quiet ∧ (u.tamperRecord c).state ≠ .pending false),
            count := (u.tamperRecord c).count, first := (u.tamperRecord c).first, last := (u.tamperRecord c).last }) ∧
        (carriesCode = true ↔ ∃ code split, u.codes.head = some (.commit code split)) ∧
        (carriesActivation = true ↔ ∃ a, u.tariff.activation = some a ∧ a.phase = .checkpoint) ∧
        (carriesActivation = false → record.activeArea = u.tariff.activeArea ∧ record.serials = u.codes.serials) ∧
        (∀ a, u.tariff.activation = some a → a.phase = .checkpoint → record.activeArea = some a.area ∧
          (∀ code, a.origin = .code → u.codes.head = some (.activating code) →
            record.serials = u.codes.serials.mark code.serial))) ∧
    (u.store.inFlight = none → u.power ≠ .stopped → 2 ^ 32 - 1 < u.store.nextSequence →
      ∃ x : CheckpointAttempt, x.writesNothing = true ∧ x.retry = false ∧ x.record.reasons = reasons ∧
        u.startNext =
          { u with
            account := { u.account with chargesSinceCheckpoint := 0 },
            store := { u.store with waiting := none, inFlight := some (.checkpoint x) } })) ∧
  (∀ (u : Part) (w : Class2Write),
    u.submitClass2 w = Part.startNext { u with store := { u.store with class2 := u.store.class2 ++ [w] } }) ∧
  (∀ (u : Part) (w : Class2Write) (rest : List Class2Write),
    u.store.inFlight = none → u.store.waiting = none → u.store.class2 = w :: rest →
    u.power = .running ∨ u.power = .starting →
    u.startNext =
      { u with store := { u.store with
          class2 := rest,
          inFlight := some (match w with
            | .bank area image => .bank area image false
            | .config item value => .config item value false) } }) ∧
  (∀ (u : Part) (r : JournalRequest) (d : JournalDetail),
    let waits : Part := { u with store := { u.store with journal := u.store.journal ++ [r] } }
    u.journal d = u.submitJournal (u.entryNow d) ∧
    (8 ≤ u.store.journal.length → u.submitJournal r = u) ∧
    (u.store.journal.length < 8 →
      u.submitJournal r = waits.startNext ∧ (u.store.inFlight.isSome = true → u.submitJournal r = waits))) ∧
  (∀ u : Part, u.store.inFlight = none → u.store.waiting = none → u.store.class2 = [] ∨ u.power = .failing →
    (u.store.journal = [] → u.startNext = u) ∧
    (∀ (r : JournalRequest) (rest : List JournalRequest), u.store.journal = r :: rest → u.power ≠ .stopped →
      let n := u.store.nextJournalSequence
      let slot := u.store.nextJournalSlot
      (n ≤ 2 ^ 32 - 1 →
        u.startNext =
          { u with
            checkpointDue := true,
            array := { u.array with journal := u.array.journal.setIfInBounds slot .invalid },
            store := { u.store with
              journal := rest, inFlight := some (.journal ⟨n, r⟩ slot false false), nextJournalSlot := (slot + 1) % 32,
              nextJournalSequence := n + 1 } }) ∧
      (2 ^ 32 - 1 < n →
        u.startNext =
          { u with store := { u.store with journal := rest, inFlight := some (.journal ⟨n, r⟩ slot false true) } }))) ∧
  (∀ (s : State) (t : Nat), s.part.power = .running → s.part.store.hourlyAt = some t →
    .hourlyTimerExpiry ∉ s.part.overtaken →
    let u : Part := { s.part with store := { s.part.store with hourlyAt := some (s.part.timeBase + 3600 * 32768) } }
    exec .hourlyTimerExpiry s =
      .next (s.becomes (if s.part.checkpointDue then u.requestCheckpoint .hourly else u)))

/-- R61, R62, R82, R90, R152, R154, R156, R157: the end of a checkpoint attempt. A success makes its slot valid, clears the
checkpoint-due flag unless a change came after the snapshot, sets the failure run to 0, ends STORE_FAULT and has carried the
area that the record names when it is the active one (log 11); a served code gets its result and leaves the queue. A failed
first attempt is retried at once with the same snapshot in the next slot, invalid from then on (log 9), under the next
sequence number; a second failure in a row raises STORE_FAULT, that of a first attempt behind another write's failure too,
whose retry still starts. An activation completes at its checkpoint's success or second failure: the new bank is active and
the chain is walked in it, the account and TAMPER are derived under it, the serial of a TARIFF_NOW is marked, the entries
and the notice are handed over, the code gets its result, and a midnight that waited goes on with the new bank. The next
attempt is chosen after all of these effects (log 14). Where one checkpoint serves a code's commit and an activation, the
result is placed first (log 58); a STORE_FAULT entry names the retry's slot (log 51). Whether a midnight that a backward
setting made reaches the load limiter is a free value (log 66). -/
def Obligations.CheckpointAttemptEnd : Prop :=
  ∀ (s : State) (c : CheckpointAttempt), s.part.store.inFlight = some (.checkpoint c) → c.writesNothing = false →
    let u := s.part
    let stored : Part :=
      { u with
        array := { u.array with log := u.array.log.setIfInBounds c.slot (.valid c.record) },
        checkpointDue := c.changedSince,
        tariff := { u.tariff with
          areaCarried := u.tariff.areaCarried || decide (c.record.activeArea = u.tariff.activeArea) },
        store := { u.store with failureRun := 0, inFlight := none } }
    let left (rest : List CodeEntry) (serials : Serials) : Codes :=
      { u.codes with
        serials := serials, queue := rest,
        head := if rest = [] then none else some (.screening u.codes.slots u.config.live.mid) }
    (c.carriesActivation = false → c.carriesCode = false → u.condition .storeFault = false →
      exec (.checkpointAttemptEnd true) s = .next (s.becomes stored.startNext)) ∧
    (∀ (e : CodeEntry) (rest : List CodeEntry) (code : DecodedCode) (split : Option TopUpSplit),
      c.carriesActivation = false → c.carriesCode = true → u.codes.queue = e :: rest →
      u.codes.head = some (.commit code split) →
      let result : Notice := .codeResult .accepted (some code) (split.map (fun x => (x, u.account.balance)))
      (u.condition .storeFault = false →
        exec (.checkpointAttemptEnd true) s =
          .next (s.becomes (Part.startNext { stored.placeOn e.port result with codes := left rest u.codes.serials }))) ∧
      ∃ v : Part, exec (.checkpointAttemptEnd true) s = .next (s.becomes v) ∧
        v.codes = left rest u.codes.serials ∧ v.Holds e.port result) ∧
    (∃ v : Part, exec (.checkpointAttemptEnd true) s = .next (s.becomes v) ∧ v.condition .storeFault = false ∧
      v.store.failureRun = 0) ∧
    (c.retry = false → u.store.nextSequence ≤ 2 ^ 32 - 1 →
      let array := { u.array with log := u.array.log.setIfInBounds u.store.nextSlot .invalid }
      let next := (u.store.nextSlot + 1) % 64
      let again (changed : Bool) : CheckpointAttempt :=
        { c with
          record := { c.record with sequence := u.store.nextSequence }, slot := u.store.nextSlot, retry := true,
          changedSince := changed }
      let retried : Part :=
        { u with
          array := array,
          store := { u.store with
            failureRun := min 255 (u.store.failureRun + 1),
            nextSlot := if array.newestCheckpoint.map Prod.fst = some next then (next + 1) % 64 else next,
            nextSequence := u.store.nextSequence + 1, inFlight := some (.checkpoint (again c.changedSince)) } }
      (u.store.failureRun = 0 ∨ u.condition .storeFault = true →
        exec (.checkpointAttemptEnd false) s = .next (s.becomes retried)) ∧
      (1 ≤ u.store.failureRun → u.condition .storeFault = false →
        ∃ (v : Part) (changed : Bool),
          exec (.checkpointAttemptEnd false) s = .next (s.becomes v) ∧ retried.StoreFaultArisen v ∧ v.array = array ∧
          v.store.failureRun = retried.store.failureRun ∧ v.store.nextSlot = retried.store.nextSlot ∧
          v.store.nextSequence = retried.store.nextSequence ∧
          v.store.inFlight = some (.checkpoint (again changed)))) ∧
    (c.carriesActivation = false → c.retry = true → 1 ≤ u.store.failureRun →
      ∃ v : Part,
        exec (.checkpointAttemptEnd false) s = .next (s.becomes v) ∧ v.condition .storeFault = true ∧
        v.store.failureRun = min 255 (u.store.failureRun + 1) ∧ (u.checkpointDue = true → v.checkpointDue = true) ∧
        v.account.books = u.account.books ∧ v.tariff = u.tariff ∧
        (u.store.journal.length < 4 →
          v.Journaled (u.entryNow (.storeFault 1 c.slot c.firstSequence c.record.sequence))) ∧
        (∀ (e : CodeEntry) (rest : List CodeEntry) (code : DecodedCode) (split : Option TopUpSplit),
          c.carriesCode = true → u.codes.queue = e :: rest → u.codes.head = some (.commit code split) →
          v.codes = left rest u.codes.serials ∧
          v.Holds e.port
            (.codeResult .acceptedStoreFault (some code) (split.map (fun y => (y, u.account.balance)))))) ∧
    (∀ (ok : Bool) (a : Activation) (i : Image), c.carriesActivation = true →
      (ok = false → c.retry = true) → u.tariff.activation = some a →
      (match a.area with
        | .areaA => u.array.areaA
        | .areaB => u.array.areaB) = .image i →
      let r := currentRecord i u.clock.count
      let charge := bankStandingCharge i
      let room := u.store.journal.length < 4
      ∃ v : Part,
        exec (.checkpointAttemptEnd ok) s = .next (s.becomes v) ∧
        v.tariff.activeArea = some a.area ∧ v.tariff.areaCarried = ok ∧ (ok = false → v.checkpointDue = true) ∧
        (u.clock.valid = true →
          v.tariff.currentRecord = some r ∧ v.tariff.band = recordBand i r ∧ v.tariff.friendly = recordFriendly i r) ∧
        (u.clock.valid = false →
          v.tariff.currentRecord = none ∧ v.tariff.band = 0 ∧ v.tariff.friendly = false) ∧
        v.AccountDerived ∧
        (v.supply.causes.tamper = true ↔
          ∃ d, v.policy d = .disconnect ∧ (v.tamperRecord d).state ≠ .quiet ∧
            (v.tamperRecord d).state ≠ .pending false) ∧
        v.Placed (.tariffChanged (bankVersion a.image) a.fingerprint) ∧
        (room → v.Journaled (u.entryNow (.tariffActivated (bankVersion a.image) a.fingerprint a.area))) ∧
        (∀ (code : DecodedCode) (e : CodeEntry) (rest : List CodeEntry),
          u.codes.head = some (.activating code) → u.codes.queue = e :: rest →
          v.codes = left rest (u.codes.serials.mark code.serial) ∧
          v.Holds e.port (.codeResult (if ok then .accepted else .acceptedStoreFault) (some code) none) ∧
          (room → v.Journaled (u.entryNow (.codeAccepted code.kind code.serial code.value .s)))) ∧
        (∀ (code : DecodedCode) (split : Option TopUpSplit) (e : CodeEntry) (rest : List CodeEntry),
          c.carriesCode = true → u.codes.head = some (.commit code split) → u.codes.queue = e :: rest →
          v.codes = left rest u.codes.serials ∧
          v.Holds e.port
            (.codeResult (if ok then .accepted else .acceptedStoreFault) (some code)
              (split.map (fun x => (x, u.account.balance))))) ∧
        ((∀ code, u.codes.head ≠ some (.activating code)) →
          c.carriesCode = false ∨ (∀ code split, u.codes.head ≠ some (.commit code split)) → v.codes = u.codes) ∧
        (a.origin ≠ .midnight ∨ u.tariff.midnight = none →
          v.tariff.activation = none ∧ v.tariff.midnight = u.tariff.midnight ∧
          v.tariff.lastStandingDay = u.tariff.lastStandingDay ∧ v.clock = u.clock ∧ v.load = u.load ∧
          v.account.books = u.account.books) ∧
        (∀ m : Midnight, a.origin = .midnight → u.tariff.midnight = some m → u.tariff.midnightsWaiting = [] →
          v.tariff.activation = none ∧ v.tariff.midnight = none ∧ v.Requested .midnight ∧
          v.load = (if m.backward = false ∨ Config.backwardSettingEndsLockout = true then { u.load with extended := false }
            else u.load) ∧
          (u.tariff.lastStandingDay < m.day →
            v.tariff.lastStandingDay = m.day ∧ v.clock = { u.clock with adjustment := 0 } ∧
            v.account.books = (if charge = 0 then u.account else u.account.standing charge).books) ∧
          (m.day ≤ u.tariff.lastStandingDay →
            v.tariff.lastStandingDay = u.tariff.lastStandingDay ∧ v.clock = u.clock ∧
            v.account.books = u.account.books)))

/-- R61, R62, R64, R152, R159, R183, R186: the ends of bank, configuration and journal write attempts. A success takes
effect and sets the failure run to 0; an item keeps its unstored mark while a later write of it waits or was discarded at
PFW (log 23), and JOURNAL_ADDED is placed but for an entry of the battery (log 24). A first attempt that fails, of a bank
write only before PFW, is retried at once in the same place (log 22), which holds nothing whole meanwhile (logs 9, 10);
behind another write's failure it raises STORE_FAULT, and its retry still starts. A second failure raises STORE_FAULT at a
run of 2 and is journaled, the configuration area as number 2 (log 27); of a bank write it ends the activation without
effect, with BANK_REOPENED and the result ACTIVATION_FAILED, and a midnight that waited goes on with the old bank. After PFW
no retry starts and the activation goes no further, without BANK_REOPENED (R161); that the code at the head then gets no
result, a retry in flight at PFW included, and that the activation and a midnight that waits for it stand where they are, is
the model's choice (log 63). Whether a midnight that a backward setting made reaches the load limiter is a free value (log
66). -/
def Obligations.OtherWriteAttemptEnds : Prop :=
  ∀ s : State,
    let u := s.part
    let room := u.store.journal.length < 4
    let ended : Store := { u.store with failureRun := 0, inFlight := none }
    let faulted (v : Part) (d : JournalDetail) : Prop :=
      v.store.failureRun = min 255 (u.store.failureRun + 1) ∧ (1 ≤ u.store.failureRun → v.condition .storeFault = true) ∧
      (room → v.Journaled (u.entryNow d))
    let arisen (retried v : Part) : Prop :=
      retried.StoreFaultArisen v ∧ v.array = retried.array ∧ v.store.failureRun = retried.store.failureRun ∧
      v.store.inFlight = retried.store.inFlight
    (∀ (area : Area) (image : Image) (retry : Bool), u.store.inFlight = some (.bank area image retry) →
      let holds (x : AreaContents) : NvArray :=
        match area with
        | .areaA => { u.array with areaA := x }
        | .areaB => { u.array with areaB := x }
      let number := match area with
        | .areaA => 0
        | .areaB => 1
      let stopped (v : Part) : Prop :=
        v.tariff = u.tariff ∧ v.codes = u.codes ∧ v.account.books = u.account.books ∧ v.array.areas = (holds .damaged).areas ∧
        (∀ area image retry, v.store.inFlight ≠ some (.bank area image retry)) ∧
        ∀ p : Port, (v.notices.get p).pending.get (kindIndex .bankReopened) =
          (u.notices.get p).pending.get (kindIndex .bankReopened)
      (exec (.bankWriteAttemptEnd true) s =
        .next (s.becomes (Part.startNext
          { u with
            array := holds (.image image),
            tariff := { u.tariff with activation := u.tariff.activation.map (fun a => { a with phase := .checkpoint }) },
            store := { ended with waiting := some (u.store.waiting.getD 0 ||| 2#16) } }))) ∧
      (retry = false → u.power = .running →
        let retried : Part := 
          { u with
            array := holds .damaged,
            store := { u.store with
              failureRun := min 255 (u.store.failureRun + 1), inFlight := some (.bank area image true) } }
        (u.store.failureRun = 0 ∨ u.condition .storeFault = true →
          exec (.bankWriteAttemptEnd false) s = .next (s.becomes retried)) ∧
        (1 ≤ u.store.failureRun → u.condition .storeFault = false →
          ∃ v : Part, exec (.bankWriteAttemptEnd false) s = .next (s.becomes v) ∧ arisen retried v)) ∧
      (retry = false → u.power = .failing →
        (u.store.failureRun = 0 ∨ u.condition .storeFault = true →
          exec (.bankWriteAttemptEnd false) s =
            .next (s.becomes (Part.startNext
              { u with
                array := holds .damaged,
                store := { u.store with failureRun := min 255 (u.store.failureRun + 1), inFlight := none } }))) ∧
        ∃ v : Part,
          exec (.bankWriteAttemptEnd false) s = .next (s.becomes v) ∧
          v.store.failureRun = min 255 (u.store.failureRun + 1) ∧
          (1 ≤ u.store.failureRun → v.condition .storeFault = true) ∧ stopped v) ∧
      (retry = true → u.power = .failing →
        ∃ v : Part,
          exec (.bankWriteAttemptEnd false) s = .next (s.becomes v) ∧ faulted v (.storeFault 2 number 0 0) ∧
          stopped v) ∧
      (∀ a, retry = true → u.power = .running → u.tariff.activation = some a →
        ∃ v : Part,
          exec (.bankWriteAttemptEnd false) s = .next (s.becomes v) ∧ faulted v (.storeFault 2 number 0 0) ∧
          v.Holds .s (.bankReopened .activationFailed) ∧ v.codes.serials = u.codes.serials ∧
          (∀ (code : DecodedCode) (e : CodeEntry) (rest : List CodeEntry),
            u.codes.head = some (.activating code) → u.codes.queue = e :: rest →
            v.codes.queue = rest ∧ v.Holds e.port (.codeResult .activationFailed (some code) none)) ∧
          (a.origin ≠ .midnight ∨ u.tariff.midnight = none →
            v.tariff = { u.tariff with activation := none } ∧ v.account.books = u.account.books) ∧
          (∀ m : Midnight, a.origin = .midnight → u.tariff.midnight = some m → u.tariff.midnightsWaiting = [] →
            let charge := ({ u with array := holds .damaged } : Part).bankValue bankStandingCharge 0
            v.tariff.activation = none ∧ v.tariff.midnight = none ∧ v.tariff.activeArea = u.tariff.activeArea ∧
            v.Requested .midnight ∧
            v.load = (if m.backward = false ∨ Config.backwardSettingEndsLockout = true then { u.load with extended := false }
              else u.load) ∧
            (u.tariff.lastStandingDay < m.day →
              v.tariff.lastStandingDay = m.day ∧ v.clock = { u.clock with adjustment := 0 } ∧
              v.account.books = (if charge = 0 then u.account else u.account.standing charge).books) ∧
            (m.day ≤ u.tariff.lastStandingDay →
              v.tariff.lastStandingDay = u.tariff.lastStandingDay ∧ v.clock = u.clock ∧
              v.account.books = u.account.books)))) ∧
    (∀ (item : ConfigItem) (value : ConfigValue) (retry : Bool), u.store.inFlight = some (.config item value retry) →
      let keeps : Prop := (∃ later, .config item later ∈ u.store.class2) ∨ item ∈ u.store.discarded
      (∃ unstored : List ConfigItem,
        (keeps → unstored = u.config.unstored) ∧
        (¬ keeps → unstored = u.config.unstored.filter (fun i => i != item)) ∧
        exec (.configWriteAttemptEnd true) s =
          .next (s.becomes (Part.startNext
            { u with
              array := { u.array with config := u.array.config.put item value },
              config := { u.config with unstored := unstored },
              store := ended }))) ∧
      (retry = false →
        let retried : Part := 
          { u with store := { u.store with
              failureRun := min 255 (u.store.failureRun + 1), inFlight := some (.config item value true) } }
        (u.store.failureRun = 0 ∨ u.condition .storeFault = true →
          exec (.configWriteAttemptEnd false) s = .next (s.becomes retried)) ∧
        (1 ≤ u.store.failureRun → u.condition .storeFault = false →
          ∃ v : Part, exec (.configWriteAttemptEnd false) s = .next (s.becomes v) ∧ arisen retried v)) ∧
      (retry = true →
        ∃ v : Part,
          exec (.configWriteAttemptEnd false) s = .next (s.becomes v) ∧ faulted v (.storeFault 2 2 0 0) ∧
          v.config = u.config ∧ v.array.config = u.array.config ∧ v.account.books = u.account.books)) ∧
    (∀ (entry : JournalEntry) (slot : Nat) (retry : Bool), u.store.inFlight = some (.journal entry slot retry false) →
      (let written : Part :=
          { u with
            array := { u.array with journal := u.array.journal.setIfInBounds slot (.valid entry) },
            store := ended };
        exec (.journalWriteAttemptEnd true) s =
          .next (s.becomes (Part.startNext
            (if entry.request.battery = true then written
              else written.place (.journalAdded entry.sequence entry.request.detail.kindNumber))))) ∧
      (retry = false →
        let retried : Part := 
          { u with store := { u.store with
              failureRun := min 255 (u.store.failureRun + 1), inFlight := some (.journal entry slot true false) } }
        (u.store.failureRun = 0 ∨ u.condition .storeFault = true →
          exec (.journalWriteAttemptEnd false) s = .next (s.becomes retried)) ∧
        (1 ≤ u.store.failureRun → u.condition .storeFault = false →
          ∃ v : Part, exec (.journalWriteAttemptEnd false) s = .next (s.becomes v) ∧ arisen retried v)) ∧
      (retry = true →
        ∃ v : Part,
          exec (.journalWriteAttemptEnd false) s = .next (s.becomes v) ∧ faulted v (.storeFault 3 slot 0 0) ∧
          v.config = u.config ∧ v.account.books = u.account.books))

/-! ### Notices (chapter 10) -/

/-- R179 to R182: placing on one port, FETCH_NOTICE and NOTICE_DONE. A placing enters the notice or takes its newest detail
and level with the count raised; a fetch hands out the eligible notice of the highest level, of those the lowest kind
number; a completion removes the highest level in service. The port's attention line follows in the same moment. R178: the
level and the routing of each kind, fixed or configured. R192: the detail of each kind byte for byte, with the numbers that
ReadingRequests gives the enumerations; which items of a CODE_RESULT and of a LOAD_TRIP are optional values is the model's
reading (log 26), and so is the opening record of AWAITING_CONFIRM in the one byte that R195 gives it in a journal entry
(log 25). -/
def Obligations.NoticesArePlacedFetchedAndDone : Prop :=
  (∀ c : ConfigItems,
    c.levelOf .tamperRaised = 4 ∧ c.levelOf .supplyPending = 4 ∧ c.levelOf .supplyChanged = 3 ∧ c.levelOf .relayFault = 4 ∧
    c.levelOf .codeResult = 2 ∧
    (∀ k ∈ [NoticeKind.awaitingConfirm, .creditExhausted, .creditLow, .ecAvailable, .friendlyChanged, .loadTrip,
        .tariffChanged, .clockAdjusted, .bankReopened, .journalAdded],
      c.levelOf k = c.levels.get (kindIndex k)) ∧
    c.routingOf .tamperRaised = ⟨true, true, true⟩ ∧ c.routingOf .supplyChanged = ⟨true, true, true⟩ ∧
    c.routingOf .relayFault = ⟨true, true, true⟩ ∧ c.routingOf .bankReopened = ⟨false, false, true⟩ ∧
    (∀ k ∈ [NoticeKind.awaitingConfirm, .creditExhausted, .creditLow, .ecAvailable, .friendlyChanged, .loadTrip,
        .tariffChanged, .clockAdjusted, .journalAdded],
      c.routingOf k = c.routings.get (kindIndex k))) ∧
  (∀ x : Notice,
    let optional (n : Nat) (v : Option Nat) : List Byte := match v with
      | some v => 0 :: toBytes n v
      | none => 2 :: toBytes n 0
    x.detail =
      match x with
      | .tamperRaised cause count policy last =>
        toBytes 1 (causeIndex cause).val ++ toBytes 2 count ++ toBytes 1 (policyNumber policy) ++
          (match last with
            | some (.counted t) => 0 :: toBytes 4 t
            | some .invalid => 1 :: toBytes 4 0
            | none => 2 :: toBytes 4 0)
      | .supplyPending direction reason => toBytes 1 (directionNumber direction) ++ toBytes 1 (reasonNumber reason)
      | .supplyChanged reached direction reason attempt synchronised =>
        toBytes 1 (relayNumber (.settled reached)) ++ toBytes 1 (directionNumber direction) ++
          toBytes 1 (reasonNumber reason) ++ toBytes 1 attempt ++ [if synchronised then 1 else 0]
      | .relayFault direction reason sense =>
        toBytes 1 (directionNumber direction) ++ toBytes 1 (reasonNumber reason) ++ toBytes 1 sense.bits
      | .awaitingConfirm record => toBytes 1 (record.causes.bits + 128 * record.test.toNat)
      | .codeResult result code credit =>
        toBytes 1 (codeResultNumber result) ++ optional 1 (code.map (fun c => c.kind)) ++
          optional 3 (code.map (fun c => c.serial)) ++ optional 3 (code.map (fun c => c.value)) ++
          optional 3 (credit.map (fun c => c.1.e)) ++ optional 3 (credit.map (fun c => c.1.d)) ++
          optional 3 (credit.map (fun c => c.1.q2)) ++
          (match credit with
            | some c => 0 :: toBytesSigned 6 c.2
            | none => 2 :: toBytes 6 0)
      | .creditExhausted st balance | .creditLow st balance | .friendlyChanged st balance =>
        toBytes 1 (creditStateNumber st) ++ toBytesSigned 6 balance
      | .ecAvailable amount balance => toBytes 3 amount ++ toBytesSigned 6 balance
      | .loadTrip estimate limit hold entries lockout =>
        toBytes 3 estimate ++ toBytes 3 limit ++ toBytes 2 hold ++ toBytes 1 entries ++
          [if lockout = none then 1 else 0] ++ optional 2 lockout
      | .tariffChanged version fingerprint => toBytes 2 version ++ toBytes 3 fingerprint
      | .clockAdjusted before after => toBytes 4 before ++ toBytes 4 after
      | .bankReopened reason => toBytes 1 (reopenNumber reason)
      | .journalAdded sequence kind => toBytes 4 sequence ++ toBytes 1 kind) ∧
  (∀ (u : Part) (x : Notice),
    let r := u.config.live.routingOf x.kind
    let a := if r.m then u.placeOn .m x else u
    let b := if r.k then a.placeOn .k x else a
    u.place x = if r.s then b.placeOn .s x else b) ∧
  (∀ n : NoticePort,
    n.calls = true ↔ ∃ (i : Fin 15) (x : PendingNotice), n.pending.get i = some x ∧ n.inService.highest < x.level) ∧
  (∀ l : Levels,
    l.highest = (if l.four then 4 else if l.three then 3 else if l.two then 2 else if l.one then 1 else 0) ∧
    l.enter 1 = { l with one := true } ∧ l.enter 2 = { l with two := true } ∧ l.enter 3 = { l with three := true } ∧
    l.enter 4 = { l with four := true }) ∧
  (∀ (u : Part) (p : Port) (x : Notice),
    let n := u.notices.get p
    let level := u.config.live.levelOf x.kind
    let count := match n.pending.get (kindIndex x.kind) with
      | some old => min 255 (old.count + 1)
      | none => 1
    let after : NoticePort :=
      { n with pending := n.pending.set (kindIndex x.kind).val (some ⟨x, level, count⟩) (kindIndex x.kind).isLt }
    u.placeOn p x =
      { u with
        notices := u.notices.set p after,
        outputs := { u.outputs with attention := u.outputs.attention.set p after.calls } }) ∧
  (∀ (s : State) (p : Port), s.part.hunting p →
    let u := s.part.taking p 0x0F
    let n := u.notices.get p
    let size := (n.pending.toList.filterMap id).length
    let highest := n.inService.highest
    ((∀ (i : Fin 15) (x : PendingNotice), n.pending.get i = some x → x.level ≤ highest) →
      exec (.fetchNotice p []) s = .next (s.replied p 0x0F { status := 0x0B, fields := toBytes 1 size } u)) ∧
    (∀ (i : Fin 15) (x : PendingNotice), n.pending.get i = some x → kindIndex x.notice.kind = i → highest < x.level →
      (∀ (j : Fin 15) (y : PendingNotice), n.pending.get j = some y → y.level < x.level ∨ (y.level = x.level ∧ i ≤ j)) →
      let after : NoticePort :=
        { pending := n.pending.set i.val none i.isLt, inService := n.inService.enter x.level }
      exec (.fetchNotice p []) s =
        .next (s.replied p 0x0F
          { status := 0x00,
            fields :=
              toBytes 1 (i.val + 1) ++ toBytes 1 x.level ++ toBytes 1 x.count ++ toBytes 1 x.notice.detail.length ++
                x.notice.detail ++ toBytes 1 (size - 1) }
          { u with
            notices := u.notices.set p after,
            outputs := { u.outputs with attention := u.outputs.attention.set p after.calls } }))) ∧
  (∀ (s : State) (p : Port), s.part.hunting p →
    let u := s.part.taking p 0x10
    let n := u.notices.get p
    let l := n.inService
    let left : Levels :=
      if l.four then ⟨l.one, l.two, l.three, false⟩
      else if l.three then ⟨l.one, l.two, false, false⟩
      else if l.two then ⟨l.one, false, false, false⟩
      else ⟨false, false, false, false⟩
    let highest := if left.three then 3 else if left.two then 2 else if left.one then 1 else 0
    let after : NoticePort := { n with inService := left }
    exec (.noticeDone p []) s =
      .next (s.replied p 0x10 { status := 0x00, fields := toBytes 1 highest }
        { u with
          notices := u.notices.set p after,
          outputs := { u.outputs with attention := u.outputs.attention.set p after.calls } }))

/-! ### Provisioning and the reading requests (chapters 11 and 12) -/

/-- R186: CONFIG_WRITE and LOAD_KEY in PROVISIONING. An item the table of R190 does not name, a slot above 3 and a value
outside its range are OUT_OF_RANGE; with 8 configuration writes waiting the answer is NOT_PERMITTED; neither changes
anything. Otherwise the live copy, and for a key the check engine, takes the value, the item is marked unstored and its
write is handed to the store controller. After a change of n_m or n_k a silence that has reached the new T makes an UP link
SUSPECT, and one that has reached 4 × T makes it LOST in the same event, with what follows a loss (R173, R174). R185, R190:
the item numbers with the range of each item, and what a value spells: a flag is bit 0, and a port set has a bit for each
port (log 50). That the write is handed over before the link is judged is the model's choice (log 67). -/
def Obligations.ConfigurationWrites : Prop :=
  (let table : List (Nat × ConfigItem × Nat × Nat) :=
      [(1, .mid, 0, 4294967295), (2, .pulseWeight, 125, 10000), (3, .pmax, 1000, 150000), (4, .importOnly, 0, 1),
       (5, .relayDelay, 0, 9999), (6, .pulseWidth, 20, 200), (7, .settleTime, 50, 500), (8, .nm, 1, 5), (9, .nk, 2, 8),
       (10, .mh, 0, 5), (11, .participants, 0, 3), (20, .level .awaitingConfirm, 1, 4),
       (22, .level .creditExhausted, 1, 4), (23, .level .creditLow, 1, 4), (24, .level .ecAvailable, 1, 4),
       (25, .level .friendlyChanged, 1, 4), (26, .level .loadTrip, 1, 4), (27, .level .tariffChanged, 1, 4),
       (28, .level .clockAdjusted, 1, 4), (29, .level .bankReopened, 1, 4), (30, .level .journalAdded, 1, 4)] ++
      [(36, .routing .awaitingConfirm, 0, 7), (38, .routing .creditExhausted, 0, 7), (39, .routing .creditLow, 0, 7),
       (40, .routing .ecAvailable, 0, 7), (41, .routing .friendlyChanged, 0, 7), (42, .routing .loadTrip, 0, 7),
       (43, .routing .tariffChanged, 0, 7), (44, .routing .clockAdjusted, 0, 7), (46, .routing .journalAdded, 0, 7)];
    (∀ number item, configItem number = some item ↔ ∃ low high, (number, item, low, high) ∈ table) ∧
    (∀ number item low high value, (number, item, low, high) ∈ table →
      (itemRange item value = true ↔ low ≤ value ∧ value ≤ high)) ∧
    ∀ (c : ConfigItems) (v : Nat),
      c.put .mid (.number v) = { c with mid := v } ∧ c.put .pulseWeight (.number v) = { c with pulseWeight := v } ∧
      c.put .pmax (.number v) = { c with pmax := v } ∧ c.put .importOnly (.number v) = { c with importOnly := v.testBit 0 } ∧
      c.put .relayDelay (.number v) = { c with relayDelay := v } ∧
      c.put .pulseWidth (.number v) = { c with pulseWidth := v } ∧
      c.put .settleTime (.number v) = { c with settleTime := v } ∧ c.put .nm (.number v) = { c with nm := v } ∧
      c.put .nk (.number v) = { c with nk := v } ∧ c.put .mh (.number v) = { c with mh := v } ∧
      c.put .participants (.number v) = { c with participants := ⟨v.testBit 0, v.testBit 1⟩ } ∧
      (∀ k, c.put (.level k) (.number v) = { c with levels := c.levels.set (kindIndex k).val v (kindIndex k).isLt }) ∧
      (∀ k, c.put (.routing k) (.number v) =
        { c with routings :=
          c.routings.set (kindIndex k).val ⟨v.testBit 0, v.testBit 1, v.testBit 2⟩ (kindIndex k).isLt }) ∧
      ∀ (slot : Fin 4) (k0 k1 k2 k3 : Word32),
        c.put (.key slot) (.keyWords k0 k1 k2 k3) =
          { c with keys := c.keys.set slot.val { k0 := k0, k1 := k1, k2 := k2, k3 := k3, loaded := true } slot.isLt }) ∧
  ∀ s : State, s.part.hunting .s → s.part.lifecycle = .provisioning →
    let full (u : Part) : Prop := 8 ≤ (u.store.class2.filter Class2Write.isConfig).length
    let taken (item : ConfigItem) (value : ConfigValue) (u : Part) : Part :=
      let live := u.config.live.put item value
      Part.startNext
        { u with
          config := { live := live, unstored := if item ∈ u.config.unstored then u.config.unstored
            else u.config.unstored ++ [item] },
          codes := { u.codes with slots := live.keys },
          store := { u.store with class2 := u.store.class2 ++ [.config item value] } }
    let judged (l : Link) (exponent : Nat) (u : Part) : Part :=
      let x := u.links.get l
      let t := (250 * 2 ^ exponent * 32768 + 999) / 1000
      let lost : Part := { u with links := u.links.set l { x with state := .lost } }
      if x.state ≠ .lost ∧ 4 * t ≤ u.timeBase - x.lastFrame then
        match l with
        | .m => lost.enterPulseOnly
        | .k => lost.setCondition .interfaceLinkLost true
      else if x.state = .up ∧ t ≤ u.timeBase - x.lastFrame then
        { u with links := u.links.set l { x with state := .suspect } }
      else u
    (∀ b : List Byte, b.length = 5 →
      let u := s.part.taking .s 0x11
      let number := beNat (b.take 1)
      let value := beNat (b.drop 1)
      let refused : Prop := exec (.configWrite .s b) s = .next (s.replied .s 0x11 { status := 0x05, fields := [] } u)
      (configItem number = none → refused) ∧
      (∀ item, configItem number = some item →
        (itemRange item value = false → refused) ∧
        (itemRange item value = true → full u →
          exec (.configWrite .s b) s = .next (s.replied .s 0x11 { status := 0x04, fields := [] } u)) ∧
        (itemRange item value = true → ¬ full u →
          exec (.configWrite .s b) s =
            .next (s.replied .s 0x11 { status := 0x00, fields := [] }
              (let v := taken item (.number value) u;
                match item with
                | .nm => judged .m value v
                | .nk => judged .k value v
                | _ => v))))) ∧
    (∀ b : List Byte, b.length = 17 →
      let u := s.part.taking .s 0x12
      let number := beNat (b.take 1)
      let word (i : Nat) : Word32 := BitVec.ofNat 32 (beNat ((b.drop (1 + 4 * i)).take 4))
      (3 < number → exec (.loadKey .s b) s = .next (s.replied .s 0x12 { status := 0x05, fields := [] } u)) ∧
      (∀ slot : Fin 4, slot.val = number →
        (full u → exec (.loadKey .s b) s = .next (s.replied .s 0x12 { status := 0x04, fields := [] } u)) ∧
        (¬ full u →
          exec (.loadKey .s b) s =
            .next (s.replied .s 0x12 { status := 0x00, fields := [] }
              (taken (.key slot) (.keyWords (word 0) (word 1) (word 2) (word 3)) u)))))

/-- R61, R155, R187, R188: ACTIVATE_INITIAL_BANK and ENTER_SERVICE in PROVISIONING, each accepted exactly under its
conditions and otherwise without effect. An activation can start while none is in flight and the active area, if there is
one, has been carried by a successful checkpoint (log 11). -/
def Obligations.ProvisioningEnds : Prop :=
  (∀ u : Part, u.canActivate = true ↔
    u.tariff.activation = none ∧ (u.tariff.activeArea = none ∨ u.tariff.areaCarried = true)) ∧
  ∀ s : State, s.part.hunting .s → s.part.lifecycle = .provisioning →
    (let u := s.part.taking .s 0x13;
      let startable := u.canActivate = true ∧ ∃ f, u.tariff.pending = .finished f ∨ u.tariff.pending = .scheduled f
      (¬ startable →
        exec (.activateInitialBank .s []) s = .next (s.replied .s 0x13 { status := 0x0C, fields := [] } u)) ∧
      (∀ f, u.canActivate = true → u.tariff.pending = .finished f ∨ u.tariff.pending = .scheduled f →
        let area := if u.tariff.activeArea = some .areaA then Area.areaB else .areaA
        let v : Part := Part.markDueIf u.tariff.scheduleMarker.isSome
          { u with tariff := { u.tariff with
              pending := .empty, pendingImage := List.replicate 305 0, scheduleMarker := none,
              activation := some
                { image := u.tariff.pendingImage, fingerprint := f, area := area, origin := .initial,
                  phase := .bankWrite } } }
        exec (.activateInitialBank .s []) s =
          .next (s.replied .s 0x13 { status := 0x00, fields := [] }
            (Part.startNext
              { v with store := { v.store with
                  class2 := v.store.class2 ++ [.bank area u.tariff.pendingImage] } })))) ∧
    (let u := s.part.taking .s 0x15;
      let ready := u.config.live.mid ≠ 0 ∧ (u.config.live.keys.get 0).loaded = true ∧ u.activeBank ≠ none ∧
        u.clock.valid = true ∧ (∀ item value, .config item value ∉ u.store.class2) ∧
        (∀ item value retry, u.store.inFlight ≠ some (.config item value retry)) ∧ u.config.unstored = []
      (ready →
        exec (.enterService .s []) s =
          .next (s.replied .s 0x15 { status := 0x00, fields := [] }
            (Part.requestCheckpoint .service (Part.markDue { u with lifecycle := .inService })))) ∧
      (¬ ready → exec (.enterService .s []) s = .next (s.replied .s 0x15 { status := 0x04, fields := [] } u)))

/-- R35, R48, R160, R177, R191, R192, R195: the reading requests. READ_DISPLAY reads the power estimate, which stores what
it supplies, and gives the seven fields of R192; READ_STATE gives the fields of R177; READ_REGISTERS gives the fields of a
group from 1 to 8 (R24, R71, R97, R121, R132, R147, R165, R186); which items share a qualifier, and that the seconds left of
a lockout or of the retry timer are rounded up, are the model's reading (logs 25, 28); READ_JOURNAL gives the next journal
sequence number and the lowest 4 valid entries from the number asked for, oldest first, each slot once. Nothing else
changes. R191: enumerations are numbered from 0 in the order of their table or list. R195: an entry byte for byte, with trip
times in seconds (log 28), the reason set 0 without a record (log 60) and the CRC-32 of R158. R191: a quantity is sent most
significant byte first, a signed one in two's complement. Once the sequence numbers are used up, the next one stands at
2^32, and it and the numbers of a STORE_FAULT entry are sent as 0, the model's choice (log 52). -/
def Obligations.ReadingRequests : Prop :=
  ([CreditState.normal, .low, .emergency, .friendlyHold, .exhausted].map creditStateNumber = List.range 5 ∧
    [Lifecycle.provisioning, .inService].map lifecycleNumber = List.range 2 ∧
    [Settled.closed, .opened, .awaitingConfirm, .stuckClosed, .stuckOpen].map (fun x => relayNumber (.settled x)) =
      List.range 5 ∧
    (∀ op : Operation, relayNumber (.operating op) =
      match op.stage with
      | .handshake => 5
      | .zxWait => 6
      | .delay => 7
      | .pulse => 8
      | .settle => 9
      | .verify => 10) ∧
    [Direction.opening, .closing].map directionNumber = List.range 2 ∧
    [Reason.decision, .retry, .cleared, .confirmed, .recovery, .jump, .test].map reasonNumber = List.range 7 ∧
    [ChargingMode.reported, .pulseOnly].map modeNumber = List.range 2 ∧
    [LinkState.up, .suspect, .lost].map linkStateNumber = List.range 3 ∧
    (∀ f, [PendingState.empty, .loading, .finished f, .scheduled f].map pendingStateNumber = List.range 4) ∧
    (∀ prior, [RecordState.quiet, .pending prior, .present, .latchedAbsent].map recordStateNumber = List.range 4) ∧
    [Policy.record, .warn, .disconnect].map policyNumber = List.range 3 ∧
    [CodeResult.accepted, .acceptedStoreFault, .malformed, .checkFailed, .generationOld, .kindUnknown, .kindNotOnPort,
      .tooOld, .alreadyUsed, .tooFarAhead, .valueRange, .bankState, .bankMismatch, .ceiling,
      .activationFailed].map codeResultNumber = List.range 15 ∧
    [ReopenReason.written, .activationFailed, .scheduleLost].map reopenNumber = List.range 3 ∧
    [TamperCause.terminalCover, .mainCover, .magnetic, .bypass, .metrologyDivergence, .pulseIntegrity, .metrologySilent,
      .reverseEnergy, .neutralMissing, .interfaceLinkLost, .codeAttack, .retentionLost,
      .storeFault].map (fun c => (causeIndex c).val) = List.range 13 ∧
    [NoticeKind.tamperRaised, .supplyPending, .supplyChanged, .relayFault, .awaitingConfirm, .codeResult,
      .creditExhausted, .creditLow, .ecAvailable, .friendlyChanged, .loadTrip, .tariffChanged, .clockAdjusted,
      .bankReopened, .journalAdded].map (fun k => (kindIndex k).val) = List.range 15 ∧
    [CheckpointReason.code, .activation, .step, .midnight, .tamper, .relay, .hourly, .powerFail, .mainStart,
      .service].map checkpointReasonNumber = List.range 10 ∧
    (∀ c : CauseSet, c.bits = c.noCredit.toNat + 2 * c.debtLimit.toNat + 4 * c.loadLimit.toNat + 8 * c.tamper.toNat +
      16 * c.remoteOrder.toNat) ∧
    ∀ x : PhaseSet, x.bits = x.l1.toNat + 2 * x.l2.toNat + 4 * x.l3.toNat) ∧
  ((∀ v, toBytes 0 v = []) ∧ (∀ n v, toBytes (n + 1) v = BitVec.ofNat 8 (v / 256 ^ n) :: toBytes n v) ∧
    (∀ (n : Nat) (v : Int), toBytesSigned n v = toBytes n (v % 256 ^ n).toNat) ∧ toBytes 4 (2 ^ 32) = [0, 0, 0, 0]) ∧
  (∀ e : JournalEntry,
    let r := e.request
    let port (p : Port) : Nat := match p with
      | .m => 0
      | .k => 1
      | .s => 2
    let content : Nat × List Byte :=
      match r.detail with
      | .tamperPresent c n policy =>
        (0, toBytes 1 (causeIndex c).val ++ toBytes 2 n ++ toBytes 1 (policyNumber policy))
      | .tamperAbsent c n => (1, toBytes 1 (causeIndex c).val ++ toBytes 2 n)
      | .tamperCleared causes => (2, toBytes 2 (causes.map (fun c => 2 ^ (causeIndex c).val)).sum)
      | .codeAccepted kind serial value origin =>
        (3, toBytes 1 kind ++ toBytes 3 serial ++ toBytes 3 value ++ toBytes 1 (port origin))
      | .keyRolled before after serial => (4, toBytes 1 before ++ toBytes 1 after ++ toBytes 3 serial)
      | .tariffActivated version fingerprint area =>
        (5, toBytes 2 version ++ toBytes 3 fingerprint ++ toBytes 1 (if area = .areaA then 0 else 1))
      | .clockAdjusted before after => (6, toBytes 4 before ++ toBytes 4 after)
      | .supplyOpened reason n x =>
        (7, toBytes 1 (reasonNumber reason) ++ toBytes 1 n ++ toBytes 1 (x.causes.bits + 128 * x.test.toNat))
      | .supplyClosed reason n => (8, toBytes 1 (reasonNumber reason) ++ toBytes 1 n)
      | .relayFault direction reason sense =>
        (9, toBytes 1 (directionNumber direction) ++ toBytes 1 (reasonNumber reason) ++ toBytes 1 sense.bits)
      | .participantAbsent l direction => (10, toBytes 1 (port (linkPort l)) ++ toBytes 1 (directionNumber direction))
      | .loadTrip estimate limit hold n (some length) =>
        (11, toBytes 3 estimate ++ toBytes 3 limit ++ toBytes 2 hold ++ toBytes 1 n ++ [0] ++ toBytes 2 length)
      | .loadTrip estimate limit hold n none =>
        (11, toBytes 3 estimate ++ toBytes 3 limit ++ toBytes 2 hold ++ toBytes 1 n ++ [1] ++ toBytes 2 0)
      | .extendedLockout trips => (12, trips.flatMap (fun t => toBytes 4 (t / 32768)))
      | .ledgerRestored none n => (13, [0] ++ toBytes 4 0 ++ [2] ++ toBytes 4 0 ++ toBytes 2 0 ++ toBytes 1 n)
      | .ledgerRestored (some (sequence, .counted t, reasons)) n =>
        (13, [1] ++ toBytes 4 sequence ++ [0] ++ toBytes 4 t ++ toBytes 2 reasons.toNat ++ toBytes 1 n)
      | .ledgerRestored (some (sequence, .invalid, reasons)) n =>
        (13, [1] ++ toBytes 4 sequence ++ [1] ++ toBytes 4 0 ++ toBytes 2 reasons.toNat ++ toBytes 1 n)
      | .storeFault writeClass place first retry =>
        (14, toBytes 1 writeClass ++ toBytes 1 place ++ toBytes 4 first ++ toBytes 4 retry)
    let time : Nat × Nat := match r.stamp with
      | .counted t => (t, 1)
      | .invalid => (0, 0)
    let body : List Byte :=
      toBytes 4 e.sequence ++ toBytes 4 time.1 ++ toBytes 1 (time.2 + 2 * r.battery.toNat) ++ toBytes 1 content.1 ++
        toBytesSigned 6 r.balance ++ toBytes 1 content.2.length ++ content.2
    e.bytes = body ++ toBytes 4 (crc32 body).toNat) ∧
  (let shift (x : BitVec 32) : BitVec 32 := if x.msb then (x <<< 1) ^^^ 0x04C11DB7#32 else x <<< 1;
    crc32 [] = 0#32 ∧
    ∀ (bytes : List Byte) (b : Byte),
      crc32 (bytes ++ [b]) = ~~~ (Nat.iterate shift 8 (~~~ (crc32 bytes) ^^^ (b.zeroExtend 32 <<< 24)))) ∧
  ∀ s : State,
    (s.part.hunting .k →
      let u := s.part.taking .k 0x06
      let elapsed := if u.pulse.overflow then 16777216 + u.pulse.counter else u.pulse.counter
      ∃ estimate : Nat,
        (u.pulse.unmeasurable = true ∨ u.pulse.lastInterval = none → estimate = 0) ∧
        (∀ t, u.pulse.unmeasurable = false → u.pulse.lastInterval = some t →
          (elapsed ≤ t → estimate = u.pulse.estimate) ∧
          (t < elapsed → estimate = u.config.live.pulseWeight * 589824 / (5 * elapsed))) ∧
        exec (.readDisplay .k []) s =
          .next (s.replied .k 0x06
            { status := 0x00,
              fields :=
                toBytesSigned 6 u.account.balance ++ toBytes 1 (creditStateNumber u.account.creditState) ++
                  [if u.account.ecAvailable then 1 else 0] ++ toBytes 1 u.tariff.band ++ toBytes 3 u.price ++
                  toBytes 3 estimate ++ toBytes 1 (relayNumber u.supply.relay) }
            { u with pulse := { u.pulse with estimate := estimate } })) ∧
    (∀ p : Port, s.part.hunting p →
      let u := s.part.taking p 0x07
      let operation : List Byte :=
        match u.supply.relay with
        | .operating op => [0] ++ toBytes 1 (directionNumber op.direction) ++ [0] ++ toBytes 1 (reasonNumber op.reason)
        | .settled _ => [2, 0, 2, 0]
      let version : List Byte := match u.activeBank with
        | some i => [0] ++ toBytes 2 (bankVersion i)
        | none => [2, 0, 0]
      exec (.readState p []) s =
        .next (s.replied p 0x07
          { status := 0x00,
            fields :=
              toBytes 4 u.config.live.mid ++ toBytes 1 (lifecycleNumber u.lifecycle) ++
                toBytes 1 (relayNumber u.supply.relay) ++ operation ++ toBytes 1 u.supply.causes.bits ++
                toBytes 1 (creditStateNumber u.account.creditState) ++ toBytes 1 (modeNumber u.recon.mode) ++
                toBytes 4 u.clock.count ++ [if u.clock.valid then 1 else 0] ++ version ++
                toBytes 1 (linkStateNumber u.links.m.state) ++ toBytes 1 (linkStateNumber u.links.k.state) } u)) ∧
    (s.part.hunting .s → ∀ b : Byte,
      let u := s.part.taking .s 0x08
      let flag (x : Bool) : List Byte := [if x then 1 else 0]
      let option (n : Nat) (x : Option Nat) : List Byte :=
        match x with
        | some v => [0] ++ toBytes n v
        | none => [2] ++ toBytes n 0
      let time (x : Option Stamp) : List Byte :=
        match x with
        | some (.counted n) => [0] ++ toBytes 4 n
        | some .invalid => [1] ++ toBytes 4 0
        | none => [2] ++ toBytes 4 0
      let list (n : Nat) (l : List Nat) : List Byte := toBytes 1 l.length ++ l.flatMap (toBytes n)
      let left (t : Nat) : Nat := (t - u.timeBase + 32767) / 32768
      let a := u.account
      let group1 : List Byte :=
        toBytes 8 a.creditedToBalance ++ toBytes 8 a.ecGrantedTotal ++ toBytes 8 a.energyCharged ++
          toBytes 8 a.uncollected ++ toBytes 8 a.standingCharged ++ toBytesSigned 8 a.clearAdjustment ++
          toBytes 8 a.ecRepaidTotal ++ toBytes 8 a.debtRecoveredTotal ++ a.energyPerBand.toList.flatMap (toBytes 8) ++
          toBytes 8 a.shortfallEnergy ++ toBytes 3 a.ecOwed ++ toBytes 3 a.debt ++ toBytes 1 a.debtRate
      let group2 : List Byte :=
        toBytes 8 u.pulse.energyTotal ++ toBytes 2 u.recon.divergence ++
          (match u.recon.window with
            | some x =>
              [0] ++ toBytes 3 x.ep ++ toBytes 5 x.er ++ toBytes 5 x.exportTotal ++ toBytes 2 x.malformed ++
                toBytes 2 ((u.timeBase - x.openedAt) / 32768)
            | none => [2] ++ List.replicate 17 0)
      let group3 : List Byte :=
        toBytes 1 (pendingStateNumber u.tariff.pending) ++ toBytes 2 u.tariff.lastStandingDay ++
          toBytesSigned 2 u.clock.adjustment
      let waiting (p : Port) : List Byte := toBytes 1 (u.codes.queue.filter (fun e => e.port = p)).length
      let lockout (x : PortCodes) : List Byte :=
        flag x.lockedUntil.isSome ++ toBytes 2 ((x.lockedUntil.map left).getD 0) ++ toBytes 1 x.failures.length
      let group4 : List Byte :=
        toBytes 1 u.codes.generation ++ toBytes 3 u.codes.serials.floor ++ toBytes 3 u.codes.serials.highest ++
          list 3 u.codes.serials.used ++ waiting .k ++ waiting .s ++ lockout u.codes.kPort ++ lockout u.codes.sPort
      let expected : PhaseSet :=
        match u.recon.mode, u.supply.reportedPhases with
        | .reported, some p => if p = ⟨false, false, false⟩ then ⟨true, true, true⟩ else p
        | _, _ => ⟨true, true, true⟩
      let attempt : Option Nat :=
        match u.supply.relay with
        | .operating op => some op.attempt
        | .settled _ => none
      let group5 : List Byte :=
        flag u.supply.openRequired ++ toBytes 1 (u.supply.record.causes.bits + 128 * u.supply.record.test.toNat) ++
          toBytes 1 expected.bits ++ option 1 attempt ++ option 2 (u.supply.retryAt.map left) ++
          flag u.supply.blankingUntil.isSome ++ toBytes 3 u.load.limit ++ toBytes 2 u.load.overLimit ++
          option 2 (u.load.lockoutUntil.map left) ++ flag u.load.extended ++
          list 3 (u.load.trips.map (fun t => (u.timeBase - t) / 32768))
      let cause (c : TamperCause) : List Byte :=
        let r := u.tamperRecord c
        let prior : Option Nat :=
          match r.state with
          | .pending latched => some latched.toNat
          | .quiet | .present | .latchedAbsent => none
        toBytes 1 (recordStateNumber r.state) ++ option 1 prior ++ flag r.condition ++ toBytes 2 r.count ++
          time r.first ++ time r.last ++ toBytes 1 (policyNumber (u.policy c)) ++
          option 1 (r.timer.map (fun t => (t - u.timeBase) / 32768))
      let group6 : List Byte :=
        cause .terminalCover ++ cause .mainCover ++ cause .magnetic ++ cause .bypass ++ cause .metrologyDivergence ++
          cause .pulseIntegrity ++ cause .metrologySilent
      let group7 : List Byte :=
        cause .reverseEnergy ++ cause .neutralMissing ++ cause .interfaceLinkLost ++ cause .codeAttack ++
          cause .retentionLost ++ cause .storeFault
      let newest := u.array.newestCheckpoint.map Prod.snd
      let writing : Bool :=
        match u.store.inFlight with
        | some (.checkpoint _) => true
        | _ => false
      let c := u.config.live
      let shown (item : ConfigItem) (n v : Nat) : List Byte := toBytes n v ++ flag (u.config.unstored.contains item)
      let slot (k : Fin 4) : List Byte := shown (.key k) 1 (c.keys.get k).loaded.toNat
      let level (k : NoticeKind) : List Byte := shown (.level k) 1 (c.levels.get (kindIndex k))
      let routing (k : NoticeKind) : List Byte :=
        let r := c.routings.get (kindIndex k)
        shown (.routing k) 1 (r.m.toNat + 2 * r.k.toNat + 4 * r.s.toNat)
      let store : List Byte :=
        option 4 (newest.map (fun r => r.sequence)) ++ time (newest.map (fun r => r.stamp)) ++
          option 2 (newest.map (fun r => r.reasons.toNat)) ++ flag u.checkpointDue ++
          flag (u.store.waiting.isSome || writing) ++ toBytes 1 u.store.failureRun ++
          toBytes 1 u.store.journal.length ++ toBytes 4 u.store.nextJournalSequence
      let group8 : List Byte :=
        store ++ shown .mid 4 c.mid ++ (slot 0 ++ slot 1 ++ slot 2 ++ slot 3) ++ shown .pulseWeight 2 c.pulseWeight ++
          shown .pmax 3 c.pmax ++ shown .importOnly 1 c.importOnly.toNat ++ shown .relayDelay 2 c.relayDelay ++
          shown .pulseWidth 1 c.pulseWidth ++ shown .settleTime 2 c.settleTime ++ shown .nm 1 c.nm ++ shown .nk 1 c.nk ++
          shown .mh 1 c.mh ++ shown .participants 1 (c.participants.m.toNat + 2 * c.participants.k.toNat) ++
          (level .awaitingConfirm ++ level .creditExhausted ++ level .creditLow ++ level .ecAvailable ++
            level .friendlyChanged ++ level .loadTrip ++ level .tariffChanged ++ level .clockAdjusted ++
            level .bankReopened ++ level .journalAdded) ++
          (routing .awaitingConfirm ++ routing .creditExhausted ++ routing .creditLow ++ routing .ecAvailable ++
            routing .friendlyChanged ++ routing .loadTrip ++ routing .tariffChanged ++ routing .clockAdjusted ++
            routing .journalAdded)
      let group : Option (List Byte) :=
        match b.toNat with
        | 1 => some group1
        | 2 => some group2
        | 3 => some group3
        | 4 => some group4
        | 5 => some group5
        | 6 => some group6
        | 7 => some group7
        | 8 => some group8
        | _ => none
      exec (.readRegisters .s [b]) s =
        .next (s.replied .s 0x08
          (match group with
            | some fields => { status := 0x00, fields := fields }
            | none => { status := 0x05, fields := [] }) u)) ∧
    (s.part.hunting .s → ∀ b : List Byte, b.length = 4 →
      let u := s.part.taking .s 0x0E
      ∃ (entries : List JournalEntry) (slots : List (Fin 32)),
        exec (.readJournal .s b) s =
          .next (s.replied .s 0x0E
            { status := 0x00,
              fields :=
                toBytes 4 u.store.nextJournalSequence ++ toBytes 1 entries.length ++
                  entries.flatMap JournalEntry.bytes } u) ∧
        entries.length ≤ 4 ∧ entries.Pairwise (fun x y => x.sequence ≤ y.sequence) ∧ slots.Nodup ∧
        slots.map (fun i => u.array.journal.get i) = entries.map Slot.valid ∧ (∀ e ∈ entries, beNat b ≤ e.sequence) ∧
        (∀ (i : Fin 32) (e : JournalEntry), u.array.journal.get i = .valid e → beNat b ≤ e.sequence →
          i ∈ slots ∨ (entries.length = 4 ∧ ∀ x ∈ entries, x.sequence ≤ e.sequence)))

/-! ### The load limiter (chapter 6) -/

/-- R35, R122, R124 to R129: the one-second evaluation, a trip, the end of an ordinary lockout and the ageing of the
history. The evaluation reads and stores the power estimate; the over-limit time counts consecutive evaluations above the
limit, and at the hold time the limiter trips: the trip enters the history, of which aged and then the oldest of three
leave, and fewer than three entries give an ordinary lockout, three an extended one; LOAD_TRIP is placed and journaled, and
behind it an EXTENDED_LOCKOUT, next in the queue or alone in it while LOAD_TRIP is being written (R129). An expiry that
another event of its moment has overtaken is set aside (log 53), so an ageing-out whose entry a trip has removed removes
nothing more (R126). -/
def Obligations.LoadLimiter : Prop :=
  ∀ s : State,
    (s.part.power = .running → .loadEvaluation ∉ s.part.overtaken →
      let u := s.part.readEstimate
      let evaluated (x : Load) : Part := { u with load := { x with nextEvaluation := u.timeBase + 32768 } }
      let idle := u.load.lockoutUntil.isSome = true ∨ u.load.extended = true ∨ u.load.limit = 0 ∨
        u.pulse.estimate ≤ u.load.limit
      (u.activeBank = none ∨ idle →
        exec .loadEvaluation s = .next (s.becomes (evaluated { u.load with overLimit := 0 }))) ∧
      (∀ i, u.activeBank = some i → ¬ idle →
        (u.load.overLimit + 1 < bankHoldTime i →
          exec .loadEvaluation s =
            .next (s.becomes (evaluated { u.load with overLimit := u.load.overLimit + 1 }))) ∧
        (bankHoldTime i ≤ u.load.overLimit + 1 →
          let kept := u.load.trips.filter (fun t => decide (u.timeBase < t + 86400 * 32768))
          let trips := (if 3 ≤ kept.length then kept.drop (kept.length - 2) else kept) ++ [u.timeBase]
          let length := if 3 ≤ trips.length then none else some (bankLockoutTime i)
          let entered : Part :=
            evaluated { u.load with
              trips := trips, overLimit := 0, extended := decide (3 ≤ trips.length),
              lockoutUntil := length.map (fun n => u.timeBase + n * 32768) }
          ∃ v : Part,
            exec .loadEvaluation s = .next (s.becomes v) ∧
            v.core = entered.core ∧
            v.supply.causes.loadLimit = true ∧
            v.Placed (.loadTrip u.pulse.estimate u.load.limit (bankHoldTime i) trips.length length) ∧
            (u.store.journal.length < 4 →
              let trip := u.entryNow (.loadTrip u.pulse.estimate u.load.limit (bankHoldTime i) trips.length length)
              let lockout := u.entryNow (.extendedLockout trips)
              v.Journaled trip ∧
              (3 ≤ trips.length →
                [trip, lockout] <:+ v.store.journal ∨
                ((∃ (e : JournalEntry) (slot : Nat) (writesNothing : Bool),
                    v.store.inFlight = some (.journal e slot false writesNothing) ∧ e.request = trip) ∧
                  v.store.journal = [lockout])))))) ∧
    (s.part.power ≠ .running → .loadEvaluation ∉ s.part.overtaken →
      exec .loadEvaluation s = .next (s.becomes s.part)) ∧
    (s.part.power = .running ∨ s.part.power = .failing → .loadLockoutExpiry ∉ s.part.overtaken →
      ∃ v : Part,
        exec .loadLockoutExpiry s = .next (s.becomes v) ∧
        v.core = ({ s.part with load := { s.part.load with lockoutUntil := none } } : Part).core ∧
        v.supply.causes.loadLimit = s.part.load.extended) ∧
    (.tripAgeOut ∉ s.part.overtaken →
      exec .tripAgeOut s =
        .next (s.becomes { s.part with load := { s.part.load with trips := s.part.load.trips.drop 1 } })) ∧
    (.tripAgeOut ∈ s.part.overtaken →
      exec .tripAgeOut s =
        .next (s.becomes { s.part with overtaken := s.part.overtaken.erase .tripAgeOut }))

/-! ### Tamper monitoring (chapter 7) -/

/-- R133, R135 to R137, R139, R141 to R143: a change of a cover switch or of the magnetic sensor, a condition that another
block hands on, the expiry of a debounce and of a release time, none of them overtaken (log 53). Each moves its own record
as the state machine says, with its journal entry; other records stand, apart from BYPASS, which a closing of the supply may
end. After PFW an arising of MAGNETIC changes its condition alone (R141), and a full battery buffer takes no event. 50 ms
are 1,639 ticks (log 7), and from PFW on the covers act as on battery (log 21). A cover's release on battery sets the
checkpoint-due flag and another release of itself does not, which is the model's reading (log 65). -/
def Obligations.TamperRecordsMove : Prop :=
  ∀ s : State,
    let u := s.part
    let moved (r : TamperRecord) (b : Bool) (ticks : Nat) : TamperRecord :=
      match b, r.state with
      | true, .quiet => { r with condition := true, state := .pending false, timer := some (u.timeBase + ticks) }
      | true, .latchedAbsent => { r with condition := true, state := .pending true, timer := some (u.timeBase + ticks) }
      | true, .pending _ => { r with condition := true }
      | true, .present => { r with condition := true, timer := none }
      | false, .quiet => { r with condition := false }
      | false, .latchedAbsent => { r with condition := false }
      | false, .pending prior =>
        { r with condition := false, state := if prior then .latchedAbsent else .quiet, timer := none }
      | false, .present => { r with condition := false, timer := some (u.timeBase + ticks) }
    let isCover (c : TamperCause) : Prop := c = .terminalCover ∨ c = .mainCover
    let onBattery : Prop := u.power = .stopped ∨ u.power = .failing
    let room : Prop := u.store.journal.length < 4
    (∀ (cover : Cover) (opened : Bool),
      let c := match cover with
        | .terminal => TamperCause.terminalCover
        | .main => .mainCover
      let inputs := match cover with
        | .terminal => { u.inputs with terminalCoverOpen := opened }
        | .main => { u.inputs with mainCoverOpen := opened }
      (u.condition c = opened →
        exec (.coverSwitchChange cover opened) s = .next (s.becomes { u with inputs := inputs })) ∧
      (u.condition c ≠ opened →
        ∃ v : Part,
          exec (.coverSwitchChange cover opened) s = .next (s.becomes v) ∧
          v.core = ({ u with inputs := inputs } : Part).core ∧
          v.tamperRecord c = moved (u.tamperRecord c) opened 1639 ∧
          ∀ d, d ≠ c → d ≠ .bypass → v.tamperRecord d = u.tamperRecord d)) ∧
    (∀ field : Bool,
      let inputs := { u.inputs with magneticField := field }
      (u.condition .magnetic = field ∨ u.power = .stopped →
        exec (.magneticSensorChange field) s = .next (s.becomes { u with inputs := inputs })) ∧
      (u.condition .magnetic ≠ field → u.power = .running ∨ (u.power = .failing ∧ field = false) →
        ∃ v : Part,
          exec (.magneticSensorChange field) s = .next (s.becomes v) ∧
          v.core = ({ u with inputs := inputs } : Part).core ∧
          v.tamperRecord .magnetic = moved (u.tamperRecord .magnetic) field 65536 ∧
          ∀ d, d ≠ .magnetic → d ≠ .bypass → v.tamperRecord d = u.tamperRecord d) ∧
      (u.condition .magnetic ≠ true → u.power = .failing → field = true →
        exec (.magneticSensorChange field) s =
          .next (s.becomes
            { u with
              inputs := inputs,
              tamper := { u.tamper with
                records := u.tamper.records.set 2 { u.tamperRecord .magnetic with condition := true } } }))) ∧
    (∀ (c : TamperCause) (arises : Bool), ¬ isCover c → c ≠ .magnetic → c ≠ .bypass → u.condition c ≠ arises →
      u.power = .running ∨ u.power = .failing →
      let ticks := if c = .metrologySilent then 60 * 32768 else 10 * 32768
      let slow : Prop := c = .metrologySilent ∨ c = .neutralMissing
      let v := u.setCondition c arises
      let r := u.tamperRecord c
      let x := v.tamperRecord c
      v.core = u.core ∧ (∀ d, d ≠ c → d ≠ .bypass → v.tamperRecord d = u.tamperRecord d) ∧
      (arises = true → slow → u.power = .running → x = moved r true ticks) ∧
      (arises = true → slow → u.power = .failing → x = { r with condition := true }) ∧
      (arises = true → ¬ slow →
        (∀ prior, r.state = .pending prior → x = { r with condition := true }) ∧
        (r.state = .present → x = { r with condition := true, timer := none }) ∧
        (r.state = .quiet ∨ r.state = .latchedAbsent →
          let count := min 65535 (r.count + 1)
          x = { r with
            condition := true, state := .present, count := count, first := some (r.first.getD u.stamp),
            last := some u.stamp, timer := none } ∧
          v.Requested .tamper ∧
          (u.policy c ≠ .record → v.Placed (.tamperRaised c count (u.policy c) (some u.stamp))) ∧
          (room → v.Journaled (u.entryNow (.tamperPresent c count (u.policy c)))))) ∧
      (arises = false → r.state ≠ .present → x = moved r false 0) ∧
      (arises = false → r.state = .present →
        x = { r with condition := false, state := .latchedAbsent, timer := none } ∧
        (room → v.Journaled (u.entryNow (.tamperAbsent c r.count))))) ∧
    (∀ (c : TamperCause) (prior : Bool) (t : Nat), c.hasDebounce = true → .tamperDebounceExpiry c ∉ u.overtaken →
      (u.tamperRecord c).state = .pending prior → (u.tamperRecord c).timer = some t → (u.tamperRecord c).condition = true →
      u.power = .running ∨ isCover c →
      let r := u.tamperRecord c
      let count := min 65535 (r.count + 1)
      ∃ v : Part,
        exec (.tamperDebounceExpiry c) s = .next (s.becomes v) ∧
        v.core = u.core ∧
        (u.power = .running →
          v.tamperRecord c =
            { r with
              state := .present, count := count, first := some (r.first.getD u.stamp), last := some u.stamp,
              timer := none } ∧
          (u.policy c ≠ .record → ∀ p : Port,
            ∃ x, (v.notices.get p).pending.get (kindIndex .tamperRaised) = some x ∧
              x.notice = .tamperRaised c count (u.policy c) (some u.stamp)) ∧
          (room → v.Journaled (u.entryNow (.tamperPresent c count (u.policy c)))) ∧
          ((∃ reasons, v.store.waiting = some reasons ∧ reasons.getLsbD 4 = true) ∨
            ∃ x, v.store.inFlight = some (.checkpoint x) ∧ x.record.reasons.getLsbD 4 = true) ∧
          (v.supply.causes.tamper = true ↔
            ∃ d, v.policy d = .disconnect ∧ (v.tamperRecord d).state ≠ .quiet ∧
              (v.tamperRecord d).state ≠ .pending false)) ∧
        (onBattery →
          v.tamperRecord c =
            { r with
              state := .present, count := count, first := some (r.first.getD u.stamp), last := some u.stamp,
              timer := none, raisedOnBattery := true } ∧
          v.checkpointDue = true ∧
          (u.tamper.buffer.length < 4 → ∃ e, v.tamper.buffer = u.tamper.buffer ++ [e] ∧ coverCause e.cover = c ∧
            e.opened = true ∧ e.time = u.stamp ∧ e.count = count) ∧
          (4 ≤ u.tamper.buffer.length → v.tamper.buffer = u.tamper.buffer)) ∧
        ∀ d, d ≠ c → d ≠ .bypass → v.tamperRecord d = u.tamperRecord d) ∧
    (∀ (c : TamperCause) (t : Nat), c.hasRelease = true → (u.tamperRecord c).state = .present →
      (u.tamperRecord c).timer = some t → (u.tamperRecord c).condition = false → u.power ≠ .stopped ∨ isCover c →
      .tamperReleaseExpiry c ∉ u.overtaken →
      ∃ v : Part,
        exec (.tamperReleaseExpiry c) s = .next (s.becomes v) ∧
        v.core = u.core ∧ v.tamperRecord c = { u.tamperRecord c with state := .latchedAbsent, timer := none } ∧
        (isCover c → onBattery → u.tamper.buffer.length < 4 →
          ∃ e, v.tamper.buffer = u.tamper.buffer ++ [e] ∧ coverCause e.cover = c ∧ e.opened = false ∧
            e.time = u.stamp ∧ e.count = (u.tamperRecord c).count) ∧
        (isCover c → onBattery → 4 ≤ u.tamper.buffer.length → v.tamper.buffer = u.tamper.buffer) ∧
        (isCover c → onBattery →
          v.checkpointDue = true ∧ v.store = { u.store with inFlight := u.store.inFlight.map Attempt.noteChange }) ∧
        (¬ (isCover c ∧ onBattery) → 8 ≤ u.store.journal.length →
          v.store = u.store ∧ v.checkpointDue = u.checkpointDue) ∧
        (u.power = .running ∨ (u.power = .failing ∧ ¬ isCover c) → room →
          v.Journaled (u.entryNow (.tamperAbsent c (u.tamperRecord c).count))) ∧
        ∀ d, d ≠ c → v.tamperRecord d = u.tamperRecord d)

/-! ### The supply switch (chapter 5) -/

/-- R99, R100, R102, R103, R119: which causes count, and what the controller does when it recomputes open-required outside
an operation. After PFW it decides alike but starts no operation; without its supply it does not decide. -/
def Obligations.SupplyDecision : Prop :=
  ∀ u : Part,
    let x := u.supply.causes
    let f := u.tariff.friendly
    (u.activeBank = none →
      u.counting = { noCredit := false, debtLimit := false, loadLimit := false, tamper := false,
                     remoteOrder := x.remoteOrder }) ∧
    (∀ i, u.activeBank = some i →
      let d := bankDisconnectSet i
      let g := bankFriendlySet i
      u.counting =
        { noCredit := x.noCredit && d.noCredit && !(f && g.noCredit),
          debtLimit := x.debtLimit && d.debtLimit && !(f && g.debtLimit),
          loadLimit := x.loadLimit && d.loadLimit && !(f && g.loadLimit),
          tamper := x.tamper && d.tamper && !(f && g.tamper), remoteOrder := x.remoteOrder }) ∧
    (∀ op, u.supply.relay = .operating op → u.recompute = u) ∧
    (u.power ≠ .running → u.power ≠ .failing → u.recompute = u) ∧
    (u.power = .running ∨ u.power = .failing →
      let required := u.counting.any
      let v := u.recompute
      let decided : Part := { u with supply := { u.supply with openRequired := required } }
      let entered : OpeningRecord := { u.supply.record with causes := u.supply.record.causes.union u.counting }
      let r := u.supply.record
      let confirm := r.causes.loadLimit = true ∨ r.causes.tamper = true ∨ r.causes.remoteOrder = true ∨ r.test = true ∨
        ((r.causes.noCredit = true ∨ r.causes.debtLimit = true) ∧ u.bankValue bankReconnectConfirm false = true)
      (u.supply.relay = .settled .closed → required = true →
        (u.power = .running → Part.Started decided v .opening .decision u.participants) ∧
        (u.power = .failing → v = decided)) ∧
      (u.supply.relay = .settled .closed → required = false → v = decided) ∧
      (u.supply.relay = .settled .opened → required = true →
        v.core = u.core ∧ v.supply = { u.supply with openRequired := true, record := entered }) ∧
      (u.supply.relay = .settled .opened → required = false → confirm →
        v.core = u.core ∧
        v.supply =
          { u.supply with
            openRequired := false, relay := .settled .awaitingConfirm, logical := .settled .awaitingConfirm } ∧
        ∀ p : Port, (u.config.live.routingOf .awaitingConfirm).get p = true →
          ∃ y, (v.notices.get p).pending.get (kindIndex .awaitingConfirm) = some y ∧ y.notice = .awaitingConfirm r) ∧
      (u.supply.relay = .settled .opened → required = false → ¬ confirm →
        (u.power = .running → Part.Started decided v .closing .cleared u.participants) ∧
        (u.power = .failing → v = decided)) ∧
      (u.supply.relay = .settled .awaitingConfirm → required = true →
        v.core = u.core ∧
        v.supply =
          { u.supply with
            openRequired := true, record := entered, relay := .settled .opened, logical := .settled .opened }) ∧
      (u.supply.relay = .settled .awaitingConfirm → required = false → v = decided) ∧
      (u.supply.relay = .settled .stuckClosed →
        v.core = u.core ∧ v.supply = { u.supply with openRequired := required, record := entered }) ∧
      (u.supply.relay = .settled .stuckOpen → v = decided))

/-- R104, R105, R113, R117, R118: the requests and timers that start an operation: CONFIRM_RECONNECT, RELAY_TEST, the jump
timer and the retry timer, the two when no event of their moment has overtaken them (log 53). -/
def Obligations.OperationsStart : Prop :=
  ∀ s : State, s.part.power = .running →
    (s.part.hunting .k →
      let u := s.part.taking .k 0x05
      let confirms := u.supply.relay = .settled .awaitingConfirm
      let recovers := u.supply.relay = .settled .stuckOpen ∧ u.supply.openRequired = false
      (confirms ∨ recovers →
        ∃ v : Part,
          exec (.confirmReconnect .k []) s = .next (s.replied .k 0x05 { status := 0x00, fields := [] } v) ∧
          (confirms → Part.Started u v .closing .confirmed u.participants ∧ v.condition .bypass = false) ∧
          (recovers → Part.Started u v .closing .recovery u.participants)) ∧
      (¬ confirms → ¬ recovers →
        exec (.confirmReconnect .k []) s = .next (s.replied .k 0x05 { status := 0x0A, fields := [] } u))) ∧
    (s.part.hunting .s → s.part.lifecycle = .provisioning → ∀ b : Byte,
      let u := s.part.taking .s 0x14
      (1 < b.toNat → exec (.relayTest .s [b]) s = .next (s.replied .s 0x14 { status := 0x05, fields := [] } u)) ∧
      (∀ op, b.toNat ≤ 1 → u.supply.relay = .operating op →
        exec (.relayTest .s [b]) s = .next (s.replied .s 0x14 { status := 0x04, fields := [] } u)) ∧
      (∀ st, b.toNat ≤ 1 → u.supply.relay = .settled st →
        ∃ v : Part,
          exec (.relayTest .s [b]) s = .next (s.replied .s 0x14 { status := 0x00, fields := [] } v) ∧
          Part.Started u v (if b = 0 then .opening else .closing) .test ⟨false, false⟩)) ∧
    (s.part.supply.jumpSince.isSome = true → s.part.supply.relay = .settled .closed →
      .jumpTimerExpiry ∉ s.part.overtaken →
      ∃ v : Part,
        exec .jumpTimerExpiry s = .next (s.becomes v) ∧ Part.Started s.part v .closing .jump s.part.participants) ∧
    (∀ t, s.part.supply.relay = .settled .stuckClosed → s.part.supply.retryAt = some t →
      .retryTimerExpiry ∉ s.part.overtaken →
      (s.part.supply.openRequired = true →
        ∃ v : Part,
          exec .retryTimerExpiry s = .next (s.becomes v) ∧ Part.Started s.part v .opening .retry s.part.participants) ∧
      (s.part.supply.openRequired = false →
        exec .retryTimerExpiry s =
          .next (s.becomes
            { s.part with supply := { s.part.supply with
                retryAt := some (s.part.timeBase + 3600 * 32768) } })))

/-- R106 to R108, R119: the stages of an operation. SWITCH_READY marks an awaited port answered, and the last answer or the
handshake timeout leads to ZX_WAIT, the timeout with a PARTICIPANT_ABSENT for each port not answered; an edge or 100 ms lead
to DELAY, or with a delay of 0 to PULSE, in which the coil of the direction alone is driven; the end of the pulse ends the
drive and leads to SETTLE. The entry of the M-port is requested before that of the K-port (log 59). A stage that another
event of the same moment has ended does not end again (log 53). -/
def Obligations.OperationStages : Prop :=
  ∀ (s : State) (op : Operation),
    let stage (u : Part) (st : Stage) (o : Operation) : Part :=
      { u with supply := { u.supply with relay := .operating { o with stage := st, stageAt := u.timeBase } } }
    let drive (u : Part) (opens closes : Bool) : Part :=
      { u with outputs := { u.outputs with openCoil := opens, closeCoil := closes } }
    let pulse (u : Part) (o : Operation) : Part :=
      drive (stage u .pulse o) (decide (o.direction = .opening)) (decide (o.direction = .closing))
    (∀ l : Link, s.part.hunting (linkPort l) →
      let u := s.part.taking (linkPort l) 0x02
      let answered := op.answered.set l true
      let last := (op.awaited.m = true → answered.m = true) ∧ (op.awaited.k = true → answered.k = true)
      let marked := { op with answered := answered }
      (u.supply.relay = .operating op → op.stage = .handshake → op.awaited.get l = true → last →
        exec (.switchReady (linkPort l) []) s =
          .next (s.replied (linkPort l) 0x02 { status := 0x00, fields := [] } (stage u .zxWait marked))) ∧
      (u.supply.relay = .operating op → op.stage = .handshake → op.awaited.get l = true → ¬ last →
        exec (.switchReady (linkPort l) []) s =
          .next (s.replied (linkPort l) 0x02 { status := 0x00, fields := [] }
            { u with supply := { u.supply with relay := .operating marked } })) ∧
      ((∃ st, u.supply.relay = .settled st) ∨
        (u.supply.relay = .operating op ∧ (op.stage ≠ .handshake ∨ op.awaited.get l = false)) →
        exec (.switchReady (linkPort l) []) s =
          .next (s.replied (linkPort l) 0x02 { status := 0x00, fields := [] } u))) ∧
    (s.part.supply.relay = .operating op → s.part.power = .running →
      (op.stage = .handshake → .handshakeTimeout ∉ s.part.overtaken →
        let u := s.part
        let v := if op.awaited.m = true ∧ op.answered.m = false then u.journal (.participantAbsent .m op.direction) else u
        let w := if op.awaited.k = true ∧ op.answered.k = false then v.journal (.participantAbsent .k op.direction) else v
        exec .handshakeTimeout s = .next (s.becomes (stage w .zxWait op))) ∧
      (op.stage = .zxWait → 0 < op.relayDelay →
        exec .zxEdge s = .next (s.becomes (stage s.part .delay { op with synchronised := true })) ∧
        (.zxTimeout ∉ s.part.overtaken →
          exec .zxTimeout s = .next (s.becomes (stage s.part .delay { op with synchronised := false })))) ∧
      (op.stage = .zxWait → op.relayDelay = 0 →
        exec .zxEdge s = .next (s.becomes (pulse s.part { op with synchronised := true })) ∧
        (.zxTimeout ∉ s.part.overtaken →
          exec .zxTimeout s = .next (s.becomes (pulse s.part { op with synchronised := false })))) ∧
      (op.stage = .delay → .relayDelayEnd ∉ s.part.overtaken →
        exec .relayDelayEnd s = .next (s.becomes (pulse s.part op)))) ∧
    (s.part.supply.relay = .operating op → s.part.power = .failing →
      (op.stage = .handshake → .handshakeTimeout ∉ s.part.overtaken →
        exec .handshakeTimeout s = .next (s.becomes s.part)) ∧
      (op.stage = .zxWait → exec .zxEdge s = .next (s.becomes s.part) ∧
        (.zxTimeout ∉ s.part.overtaken → exec .zxTimeout s = .next (s.becomes s.part))) ∧
      (op.stage = .delay → .relayDelayEnd ∉ s.part.overtaken →
        exec .relayDelayEnd s = .next (s.becomes s.part))) ∧
    (s.part.supply.relay = .operating op → s.part.power = .running ∨ s.part.power = .failing → op.stage = .pulse →
      .coilPulseEnd ∉ s.part.overtaken →
      exec .coilPulseEnd s = .next (s.becomes (stage (drive s.part false false) .settle op)))

/-- R43, R109 to R112, R115, R119: the end of the settle time. An opening verifies with no phase present, a closing with
every expected phase present. A success settles the relay, begins or moves on a blanking interval and places SUPPLY_CHANGED;
a first or second failure leads to another attempt, which after PFW does not start, so that the operation rests in VERIFY
(log 55); a third ends in the fault state and places RELAY_FAULT, without the synchronisation that R107 has reported (log
64). Success and fault request their journal entry and a
checkpoint, and the decision is taken again. The entry of a success is requested with the balance as it stands before the
shortfall that the beginning of blanking charges: R110 lets the effects come together, and their order is the model's
reading (log 32). The window that a beginning of blanking closes is judged for its conditions. The end of the stage is one
that nothing has overtaken (log 53). -/
def Obligations.VerifySettlesOrRetries : Prop :=
  ∀ (s : State) (op : Operation), s.part.supply.relay = .operating op → op.stage = .settle →
    .settleEnd ∉ s.part.overtaken →
    s.part.power = .running ∨ s.part.power = .failing →
    let u := s.part
    let sense := u.inputs.sense
    let expected : PhaseSet :=
      match u.recon.mode, u.supply.reportedPhases with
      | .reported, some p => if p = ⟨false, false, false⟩ then ⟨true, true, true⟩ else p
      | _, _ => ⟨true, true, true⟩
    let verified : Prop :=
      match op.direction with
      | .opening => sense = ⟨false, false, false⟩
      | .closing => (expected.l1 → sense.l1) ∧ (expected.l2 → sense.l2) ∧ (expected.l3 → sense.l3)
    let reached := if op.direction = .opening then Settled.opened else .closed
    let stuck := if op.direction = .opening then Settled.stuckClosed else .stuckOpen
    let entry : JournalDetail :=
      match op.direction with
      | .opening => .supplyOpened op.reason op.attempt u.supply.record
      | .closing => .supplyClosed op.reason op.attempt
    let requested (w : Part) : Prop :=
      (∃ reasons, w.store.waiting = some reasons ∧ reasons.getLsbD 5 = true) ∨
        ∃ x, w.store.inFlight = some (.checkpoint x) ∧ x.record.reasons.getLsbD 5 = true
    (verified →
      ∃ w : Part,
        exec .settleEnd s = .next (s.becomes w.recompute) ∧
        w.supply.relay = .settled reached ∧ w.supply.logical = .settled reached ∧
        w.supply.record = u.supply.record ∧ requested w ∧
        (∀ p : Port, ∃ x, (w.notices.get p).pending.get (kindIndex .supplyChanged) = some x ∧
          x.notice = .supplyChanged reached op.direction op.reason op.attempt op.synchronised) ∧
        (u.store.journal.length < 4 → w.Journaled { stamp := u.stamp, battery := false, balance := u.account.balance, detail := entry }) ∧
        (∀ x, u.supply.blankingUntil = none → u.recon.window = some x →
          w.condition .pulseIntegrity = decide (16 ≤ x.malformed) ∧
          w.condition .reverseEnergy = (u.config.live.importOnly && decide (10000 < x.exportTotal)) ∧
          (x.er + max (x.ep * u.bankValue bankTolerance 3 / 100) (2 * u.config.live.pulseWeight) < x.ep →
            w.AccountDerived)) ∧
        w.derived =
          ({ u with
              supply := { u.supply with blankingUntil := some (u.timeBase + 2 * 32768) },
              recon := { u.recon with window := if u.supply.blankingUntil.isSome then u.recon.window else none },
              account :=
                (match u.supply.blankingUntil, u.recon.window with
                  | none, some x =>
                    let tol := max (x.ep * u.bankValue bankTolerance 3 / 100) (2 * u.config.live.pulseWeight)
                    if x.er + tol < x.ep then u.chargedAccount (min 1000000 (x.ep - x.er)) true else u.account
                  | _, _ => u.account) } : Part).derived) ∧
    (¬ verified → op.attempt < 3 → u.power = .running →
      exec .settleEnd s =
        .next (s.becomes
          { u with supply := { u.supply with
              relay := .operating { op with stage := .zxWait, attempt := op.attempt + 1, stageAt := u.timeBase } } })) ∧
    (¬ verified → op.attempt < 3 → u.power = .failing →
      exec .settleEnd s =
        .next (s.becomes
          { u with supply := { u.supply with
              relay := .operating { op with stage := .verify, stageAt := u.timeBase } } })) ∧
    (¬ verified → 3 ≤ op.attempt →
      ∃ w : Part,
        exec .settleEnd s = .next (s.becomes w.recompute) ∧ w.core = u.core ∧
        w.supply.relay = .settled stuck ∧ w.supply.logical = .settled stuck ∧ w.supply.record = u.supply.record ∧
        w.supply.retryAt = (if op.direction = .opening then some (u.timeBase + 3600 * 32768) else none) ∧
        requested w ∧
        (u.store.journal.length < 4 → w.Journaled (u.entryNow (.relayFault op.direction op.reason sense))) ∧
        ∀ p : Port, ∃ x, (w.notices.get p).pending.get (kindIndex .relayFault) = some x ∧
          x.notice = .relayFault op.direction op.reason sense)

/-- R44, R115 to R117: the end of blanking opens a new window in REPORTED mode, unless PFW has come, with which blanking
ends as the main domain does (log 36); a change of the contact sense moves the lines, and the watch follows them; five
seconds of sense in a watched state hand the tamper monitor the arising of BYPASS, and five seconds without its end. A
success or a break in the sense of that very moment overtakes the expiry (log 53). The watch runs the bypass timer on any
phase sensed, its end timer on none, both in OPEN and AWAITING_CONFIRM, and in CLOSED the jump timer while no expected phase
is sensed, each outside blanking, before and after PFW (log 36). -/
def Obligations.BlankingAndContactWatch : Prop :=
  ∀ s : State,
    (s.part.power = .running → s.part.supply.blankingUntil ≠ none → .blankingEnd ∉ s.part.overtaken →
      let u : Part := { s.part with supply := { s.part.supply with blankingUntil := none } }
      (u.recon.mode = .reported →
        exec .blankingEnd s =
          .next (s.becomes { u with recon := { u.recon with window := some ⟨0, 0, 0, 0, u.timeBase⟩ } })) ∧
      (u.recon.mode = .pulseOnly → exec .blankingEnd s = .next (s.becomes u))) ∧
    (s.part.power ≠ .running ∨ s.part.supply.blankingUntil = none → .blankingEnd ∉ s.part.overtaken →
      exec .blankingEnd s = .next (s.becomes s.part)) ∧
    (∀ sense : PhaseSet,
      exec (.contactSenseChange sense) s =
        .next (s.becomes { s.part with inputs := { s.part.inputs with sense := sense } })) ∧
    (s.part.power = .running ∨ s.part.power = .failing → s.part.supply.bypassSince ≠ none →
      .bypassAriseTimerExpiry ∉ s.part.overtaken →
      exec .bypassAriseTimerExpiry s = .next (s.becomes (s.part.setCondition .bypass true)) ∧
      (s.part.condition .bypass = false →
        (s.part.tamperRecord .bypass).state = .quiet ∨ (s.part.tamperRecord .bypass).state = .latchedAbsent →
        let r := (s.part.setCondition .bypass true).tamperRecord .bypass
        r.count = min 65535 ((s.part.tamperRecord .bypass).count + 1) ∧ r.last = some s.part.stamp ∧
          (r.state = .present ∨ r.state = .latchedAbsent))) ∧
    (s.part.power = .running ∨ s.part.power = .failing → s.part.supply.bypassGoneSince ≠ none →
      .bypassEndTimerExpiry ∉ s.part.overtaken →
      ∃ v : Part,
        exec .bypassEndTimerExpiry s = .next (s.becomes v) ∧ v.core = s.part.core ∧ v.condition .bypass = false ∧
        ((s.part.tamperRecord .bypass).state = .present → (s.part.tamperRecord .bypass).condition = true →
          v.tamperRecord .bypass =
            { s.part.tamperRecord .bypass with condition := false, state := .latchedAbsent, timer := none })) ∧
    (let u := s.part;
      let v := u.watchContacts
      let clear : Prop := (u.power = .running ∨ u.power = .failing) ∧ u.supply.blankingUntil = none
      let watched : Prop := clear ∧ (u.supply.relay = .settled .opened ∨ u.supply.relay = .settled .awaitingConfirm)
      let any : Prop := u.inputs.sense ≠ ⟨false, false, false⟩
      let expected : PhaseSet :=
        match u.recon.mode, u.supply.reportedPhases with
        | .reported, some p => if p = ⟨false, false, false⟩ then ⟨true, true, true⟩ else p
        | _, _ => ⟨true, true, true⟩
      let lost : Prop := (expected.l1 = true → u.inputs.sense.l1 = false) ∧
        (expected.l2 = true → u.inputs.sense.l2 = false) ∧ (expected.l3 = true → u.inputs.sense.l3 = false)
      v = { u with supply := { u.supply with
              bypassSince := v.supply.bypassSince, bypassGoneSince := v.supply.bypassGoneSince,
              jumpSince := v.supply.jumpSince } } ∧
      (watched ∧ any ∧ u.condition .bypass = false →
        v.supply.bypassSince = some (u.supply.bypassSince.getD u.timeBase)) ∧
      (¬ (watched ∧ any ∧ u.condition .bypass = false) → v.supply.bypassSince = none) ∧
      (watched ∧ ¬ any ∧ u.condition .bypass = true →
        v.supply.bypassGoneSince = some (u.supply.bypassGoneSince.getD u.timeBase)) ∧
      (¬ (watched ∧ ¬ any ∧ u.condition .bypass = true) → v.supply.bypassGoneSince = none) ∧
      (clear ∧ u.supply.relay = .settled .closed ∧ lost →
        v.supply.jumpSince = some (u.supply.jumpSince.getD u.timeBase)) ∧
      (¬ (clear ∧ u.supply.relay = .settled .closed ∧ lost) → v.supply.jumpSince = none))

/-! ### Power events (chapter 8) -/

/-- R46, R70, R95, R119, R141, R149, R150, R161, R163, R176: PFW, the stop of the main domain and the retention reset. PFW
stops the receivers but those in BUSY, discards codes short of their commit, the pending bank with its state and
fingerprint, though not the schedule marker (R63, R70), and waiting class 2 writes, whose items stay unstored (log 23),
closes the window unjudged, with its conditions, takes back the three pending causes and then requests the power-fail
checkpoint (log 54). The stop ends every drive, attention line, queue and activation; that the activation outlasts PFW until
then is the model's reading (log 61). At the stop a write cut short lands whole or not at all (log 8): a slot not landed
stays invalid (log 9), an area is damaged (log 10), a configuration item is the old or the new one (log 22). A record of
MAGNETIC keeps its state without its timer (log 57). A retention reset leaves a new part around the array; the queue's
overtaken expiries are no item of it (log 53). That a PFW which comes to a part that does not run has no effect, and that a
running part may be stopped without one, is the model's choice (log 13). -/
def Obligations.PowerFailStopAndRetentionReset : Prop :=
  ∀ s : State,
    let u := s.part
    let atPfw (r : Receiver) : Receiver :=
      match r.state with
      | .busy _ => r
      | .stopped | .held | .hunt | .length | .body _ _ _ | .check _ _ _ | .drain _ => { r with state := .stopped }
    let keptCodes : Codes :=
      match u.codes.head with
      | some (.commit _ _) | some (.activating _) => { u.codes with queue := u.codes.queue.take 1 }
      | some (.screening _ _) | none => { u.codes with queue := [], head := none }
    (u.power = .running →
      ∃ v : Part,
        exec .powerFailWarning s = .next (s.becomes v) ∧
        v.derived =
          ({ u with
              power := .failing, tariff := { u.tariff with pending := .empty, pendingImage := List.replicate 305 0 },
              receivers := ⟨atPfw u.receivers.m, atPfw u.receivers.k, atPfw u.receivers.s⟩,
              codes := keptCodes, pulse := { u.pulse with capture := none }, recon := { u.recon with window := none },
              account :=
                (match u.recon.window with
                  | some x =>
                    let tol := max (x.ep * u.bankValue bankTolerance 3 / 100) (2 * u.config.live.pulseWeight)
                    if x.er + tol < x.ep then u.chargedAccount (min 1000000 (x.ep - x.er)) true else u.account
                  | none => u.account) } : Part).derived ∧
        (∀ x, u.recon.window = some x →
          v.condition .pulseIntegrity = decide (16 ≤ x.malformed) ∧
          v.condition .reverseEnergy = (u.config.live.importOnly && decide (10000 < x.exportTotal)) ∧
          (x.er + max (x.ep * u.bankValue bankTolerance 3 / 100) (2 * u.config.live.pulseWeight) < x.ep →
            v.AccountDerived)) ∧
        v.store.class2 = [] ∧ v.store.hourlyAt = none ∧
        (∀ item, item ∈ v.store.discarded ↔ ∃ value, .config item value ∈ u.store.class2) ∧
        v.config.unstored = u.config.unstored ∧
        (∀ op, u.supply.relay = .operating op → v.supply.relay = .operating op) ∧
        ((∃ reasons, v.store.waiting = some reasons ∧ reasons.getLsbD 7 = true) ∨
          ∃ x, v.store.inFlight = some (.checkpoint x) ∧ x.record.reasons.getLsbD 7 = true) ∧
        ∀ c prior, c = .magnetic ∨ c = .metrologySilent ∨ c = .neutralMissing →
          (u.tamperRecord c).state = .pending prior →
          v.tamperRecord c =
            { u.tamperRecord c with state := if prior then .latchedAbsent else .quiet, timer := none }) ∧
    (u.power ≠ .running → exec .powerFailWarning s = .next (s.becomes u)) ∧
    (∀ whole : Bool, u.power ≠ .stopped →
      let array : NvArray :=
        match u.store.inFlight with
        | some (.checkpoint c) =>
          if whole = true ∧ c.writesNothing = false then
            { u.array with log := u.array.log.setIfInBounds c.slot (.valid c.record) }
          else u.array
        | some (.bank .areaA image _) => { u.array with areaA := if whole then .image image else .damaged }
        | some (.bank .areaB image _) => { u.array with areaB := if whole then .image image else .damaged }
        | some (.config item value _) =>
          if whole then { u.array with config := u.array.config.put item value } else u.array
        | some (.journal e slot _ writesNothing) =>
          if whole = true ∧ writesNothing = false then
            { u.array with journal := u.array.journal.setIfInBounds slot (.valid e) }
          else u.array
        | none => u.array
      exec (.mainDomainStop whole) s =
        .next (s.becomes
          { u with
            power := .stopped,
            tariff := { u.tariff with
              pending := .empty, pendingImage := List.replicate 305 0, activation := none, midnight := none,
              midnightsWaiting := [] },
            outputs := ⟨false, false, ⟨false, false, false⟩⟩,
            receivers := ⟨{ u.receivers.m with state := .stopped }, { u.receivers.k with state := .stopped },
              { u.receivers.s with state := .stopped }⟩,
            codes := { u.codes with queue := [], head := none }, array := array,
            tamper := { u.tamper with
              records := u.tamper.records.set 2 { u.tamperRecord .magnetic with timer := none } },
            store := { u.store with waiting := none, class2 := [], journal := [], inFlight := none, hourlyAt := none } })) ∧
    (u.power = .stopped →
      exec .retentionReset s =
        .next (s.becomes
          { State.reset.part with inputs := u.inputs, array := u.array, overtaken := u.overtaken }))

/-- R26, R28, R36, R53, R65, R70, R96, R98, R120, R131, R144, R146, R149, R157, R159, R162 to R164, R176, R183, R189: a main
start from the stopped main domain. The main-domain items take their start values, the pending notices from before the start
among them, and the log and journal positions are those of the scan. With the retention domain intact its items are kept,
the battery events are journaled first, a lost schedule is noticed, the catch-up charges each day that has passed, each
record moves as R144 says, and the causes raised on battery are noticed, of several the last in number standing (log 56). A
flushed entry takes the policy in force at the flush (log 47), and whether the active area has been carried is kept, or true
after a recovery (log 11). With the lost mark a blank log gives a new part, with the clock reset as after any retention
reset (log 44); a written log without a valid slot gives new-part values, otherwise the newest valid record is restored, and
in both the recovery is journaled and RETENTION_LOST recorded. The controller decides once, on the cause set as its owners
give it and on the resolved relay state, which the logical state has recorded (log 43); a checkpoint is then requested when
one is due. The sequence is one event (log 24). -/
def Obligations.MainStart : Prop :=
  ∀ s : State, s.part.power = .stopped →
    let u := s.part
    let newest := u.array.newestCheckpoint
    let found : Option CheckpointRecord := if u.lostMark then newest.map Prod.snd else none
    let day := u.clock.count / 86400
    let caughtUp : Prop := u.clock.valid = true ∧ u.tariff.lastStandingDay < day
    let charge := u.bankValue bankStandingCharge 0
    let receiver (inReset : Bool) : Receiver := ⟨if inReset then .held else .hunt, u.timeBase⟩
    let logical : Logical := if u.lostMark then (found.map CheckpointRecord.logical).getD .unset else u.supply.logical
    let opening : OpeningRecord :=
      if u.lostMark then (found.map CheckpointRecord.record).getD OpeningRecord.empty else u.supply.record
    let marker : Option Nat :=
      if u.lostMark then found.bind CheckpointRecord.scheduleMarker else u.tariff.scheduleMarker
    let resolved : Settled :=
      match logical with
      | .settled .awaitingConfirm => .awaitingConfirm
      | .settled .stuckClosed => .stuckClosed
      | .settled .stuckOpen => .stuckOpen
      | .settled .closed | .settled .opened | .inProgress | .unset =>
        if u.inputs.sense = ⟨false, false, false⟩ then .opened else .closed
    let nextSlot := (newest.map (fun x => (x.1 + 1) % 64)).getD 0
    let nextSequence := (newest.map (fun x => x.2.sequence + 1)).getD 1
    let entry := u.array.newestEntry
    let nextJournalSlot := (entry.map (fun x => (x.1 + 1) % 32)).getD 0
    let nextJournalSequence :=
      max ((entry.map (fun x => x.2.sequence + 1)).getD 1) ((found.map CheckpointRecord.nextJournalSequence).getD 0)
    let mainDomain : List TamperCause :=
      [.bypass, .neutralMissing, .interfaceLinkLost, .metrologySilent, .metrologyDivergence, .pulseIntegrity, .reverseEnergy]
    let held (d : TamperCause) : TamperRecord :=
      if u.lostMark then
        match found with
        | some r =>
          let x := r.tamper.get (causeIndex d)
          { state := if x.latched then .latchedAbsent else .quiet, condition := false, count := x.count, first := x.first,
            last := x.last, timer := none, raisedOnBattery := false }
        | none => TamperRecord.quiet
      else u.tamperRecord d
    let arisen (r : TamperRecord) (ticks : Nat) : TamperRecord :=
      match r.state with
      | .quiet => { r with condition := true, state := .pending false, timer := some (u.timeBase + ticks) }
      | .latchedAbsent => { r with condition := true, state := .pending true, timer := some (u.timeBase + ticks) }
      | .pending _ => { r with condition := true }
      | .present => { r with condition := true, timer := none }
    let gone (r : TamperRecord) (release : Option Nat) : TamperRecord :=
      match r.state with
      | .quiet | .latchedAbsent => { r with condition := false }
      | .pending prior =>
        { r with condition := false, state := if prior then .latchedAbsent else .quiet, timer := none }
      | .present =>
        match release with
        | some ticks => { r with condition := false, timer := some (u.timeBase + ticks) }
        | none => { r with condition := false, state := .latchedAbsent, timer := none }
    let unmarked (r : TamperRecord) : TamperRecord := { r with raisedOnBattery := false }
    ∃ v w : Part,
      exec .mainStart s = .next (s.becomes v) ∧
      (∀ notices, exec .mainStart { s with part := { u with notices := notices } } = exec .mainStart s) ∧
      v.power = .running ∧ v.lostMark = false ∧ v.inputs = u.inputs ∧
      v.timeBase = u.timeBase ∧ v.pulse = Pulse.atMainStart ∧
      v.recon = { mode := .reported, window := some ⟨0, 0, 0, 0, u.timeBase⟩, divergence := 0 } ∧
      v.config = { live := u.array.config, unstored := [] } ∧ v.codes.slots = u.array.config.keys ∧
      v.codes.queue = [] ∧ v.codes.head = none ∧
      v.receivers = ⟨receiver u.inputs.portReset.m, receiver u.inputs.portReset.k, receiver u.inputs.portReset.s⟩ ∧
      v.links = ⟨⟨.suspect, u.timeBase⟩, ⟨.suspect, u.timeBase⟩⟩ ∧
      v.load.lockoutUntil = none ∧ v.load.overLimit = 0 ∧ v.load.nextEvaluation = u.timeBase + 32768 ∧
      v.tariff.pending = .empty ∧ v.tariff.activation = none ∧ v.tariff.scheduleMarker = none ∧ v.tariff.midnight = none ∧
      v.tariff = v.walked ∧ v.AccountDerived ∧
      v.outputs.openCoil = false ∧ v.outputs.closeCoil = false ∧
      v.store.failureRun = 0 ∧ v.store.hourlyAt = some (u.timeBase + 3600 * 32768) ∧ v.store.class2 = [] ∧
      (v.checkpointDue = true → v.Requested .mainStart) ∧
      (∀ p : Port, (v.notices.get p).inService = ⟨false, false, false, false⟩ ∧
        ∀ k ∈ [NoticeKind.supplyChanged, .relayFault, .codeResult, .loadTrip, .tariffChanged, .clockAdjusted, .journalAdded],
          (v.notices.get p).pending.get (kindIndex k) = none) ∧
      (∀ f, marker = some f → v.Holds .s (.bankReopened .scheduleLost)) ∧
      (marker = none → (v.notices.s).pending.get (kindIndex .bankReopened) = none) ∧
      (match v.store.inFlight with
        | some (.checkpoint c) =>
          c.slot = nextSlot ∧ c.record.sequence = nextSequence ∧ v.store.nextJournalSlot = nextJournalSlot ∧
            v.store.nextJournalSequence = nextJournalSequence
        | some (.journal e slot _ _) =>
          e.sequence = nextJournalSequence ∧ slot = nextJournalSlot ∧ v.store.nextSlot = nextSlot ∧
            v.store.nextSequence = nextSequence
        | some (.bank _ _ _) | some (.config _ _ _) => False
        | none =>
          v.store.nextSlot = nextSlot ∧ v.store.nextSequence = nextSequence ∧
            v.store.nextJournalSlot = nextJournalSlot ∧ v.store.nextJournalSequence = nextJournalSequence) ∧
      w.power = .running ∧ w.core = v.core ∧ v.supply = w.recompute.supply ∧
      w.supply =
        { causes :=
            { noCredit := decide (v.account.balance ≤ 0),
              debtLimit := decide (v.account.balance ≤ -(1000 * ((v.bankValue bankFriendlyDebtLimit 0 : Nat) : Int))),
              loadLimit := v.load.extended, tamper := w.supply.causes.tamper, remoteOrder := v.codes.remoteOrder },
          openRequired := false, relay := .settled resolved, logical := .settled resolved, record := opening,
          reportedPhases := none,
          retryAt := if resolved = .stuckClosed then some (u.timeBase + 3600 * 32768) else none,
          blankingUntil := none, bypassSince := none, bypassGoneSince := none, jumpSince := none } ∧
      (w.supply.causes.tamper = true ↔
        ∃ d, v.policy d = .disconnect ∧ (v.tamperRecord d).state ≠ .quiet ∧ (v.tamperRecord d).state ≠ .pending false) ∧
      (∀ d, d ∈ mainDomain →
        v.tamperRecord d = unmarked (if (held d).condition then gone (held d) none else held d)) ∧
      (∀ d, d = .codeAttack ∨ d = .storeFault ∨ (d = .retentionLost ∧ u.lostMark = false) →
        v.tamperRecord d = unmarked (held d)) ∧
      (∀ d, d = .terminalCover ∨ d = .mainCover →
        let opened := if d = .terminalCover then u.inputs.terminalCoverOpen else u.inputs.mainCoverOpen
        v.tamperRecord d =
          unmarked (if u.lostMark = true ∧ opened = true then arisen (held d) 1639 else held d)) ∧
      v.tamperRecord .magnetic =
        unmarked (if u.inputs.magneticField then arisen (held .magnetic) 65536 else gone (held .magnetic) (some 65536)) ∧
      v.tamper.buffer = [] ∧
      (∀ d, (held d).raisedOnBattery = true → v.policy d ≠ .record →
        (∀ e, (causeIndex d).val < (causeIndex e).val → (held e).raisedOnBattery = false ∨ v.policy e = .record) →
        v.Placed (.tamperRaised d (held d).count (v.policy d) (held d).last)) ∧
      ((∀ d, (held d).raisedOnBattery = false ∨ v.policy d = .record) → u.lostMark = false →
        ∀ p : Port, (v.notices.get p).pending.get (kindIndex .tamperRaised) = none) ∧
      (u.lostMark = false →
        v.lifecycle = u.lifecycle ∧ v.codes.generation = u.codes.generation ∧ v.codes.serials = u.codes.serials ∧
        v.codes.remoteOrder = u.codes.remoteOrder ∧ v.codes.kPort = u.codes.kPort ∧ v.codes.sPort = u.codes.sPort ∧
        v.load.limit = u.load.limit ∧ v.load.trips = u.load.trips ∧ v.tariff.activeArea = u.tariff.activeArea ∧
        v.tariff.areaCarried = u.tariff.areaCarried ∧
        v.clock.count = u.clock.count ∧ v.clock.valid = u.clock.valid ∧
        (∀ (e : BatteryEvent) (rest : List BatteryEvent), u.tamper.buffer = e :: rest → rest.length ≤ 3 →
          let request (x : BatteryEvent) : JournalRequest :=
            { stamp := x.time, battery := true, balance := u.account.balance,
              detail :=
                if x.opened then .tamperPresent (coverCause x.cover) x.count (v.policy (coverCause x.cover))
                else .tamperAbsent (coverCause x.cover) x.count }
          (∃ (sequence slot : Nat) (writesNothing : Bool),
            v.store.inFlight = some (.journal ⟨sequence, request e⟩ slot false writesNothing)) ∧
          rest.map request <+: v.store.journal) ∧
        (caughtUp →
          v.tariff.lastStandingDay = day ∧ v.clock.adjustment = 0 ∧ v.load.extended = false ∧ v.Requested .midnight ∧
          v.account.books =
            (if charge = 0 then u.account
              else (List.range (day - u.tariff.lastStandingDay)).foldl (fun a _ => a.standing charge) u.account).books) ∧
        (¬ caughtUp →
          v.tariff.lastStandingDay = u.tariff.lastStandingDay ∧ v.clock = u.clock ∧
          v.load.extended = u.load.extended ∧ v.account.books = u.account.books)) ∧
      (u.lostMark = true → v.clock = { count := 0, valid := false, adjustment := 0 } ∧ v.load.trips = [] ∧
        v.codes.kPort = PortCodes.empty ∧ v.codes.sPort = PortCodes.empty) ∧
      (u.lostMark = true → newest = none →
        v.lifecycle = .provisioning ∧ v.account.books = Account.newPart.books ∧ v.codes.generation = 0 ∧
        v.codes.serials = { used := [], floor := 0, highest := 0 } ∧ v.codes.remoteOrder = false ∧
        v.tariff.activeArea = none ∧ v.tariff.lastStandingDay = 0 ∧ v.load.limit = 0 ∧ v.load.extended = false) ∧
      (u.lostMark = true → (∀ slot ∈ u.array.log.toList, slot = .blank) →
        newest = none ∧ v.tamperRecord .retentionLost = TamperRecord.quiet) ∧
      (u.lostMark = true → (∃ slot ∈ u.array.log.toList, slot ≠ .blank) →
        let balance := (found.map (fun r => r.account.balance)).getD 0
        let valid := (u.array.log.toList.filter (fun slot =>
          match slot with
          | .valid _ => true
          | .blank | .invalid => false)).length
        v.tamperRecord .retentionLost =
          { held .retentionLost with
            state := .latchedAbsent, count := min 65535 ((held .retentionLost).count + 1),
            first := some ((held .retentionLost).first.getD .invalid), last := some .invalid } ∧
        v.Journaled
          { stamp := .invalid, battery := false, balance := balance,
            detail := .ledgerRestored (found.map (fun r => (r.sequence, r.stamp, r.reasons))) valid }) ∧
      (∀ r : CheckpointRecord, found = some r →
        v.lifecycle = r.lifecycle ∧ v.account.books = r.account.books ∧ v.codes.generation = r.generation ∧
        v.codes.serials = r.serials ∧ v.codes.remoteOrder = r.remoteOrder ∧ v.tariff.activeArea = r.activeArea ∧
        v.tariff.lastStandingDay = r.lastStandingDay ∧ v.load.limit = r.loadLimit ∧ v.load.extended = r.extended ∧
        v.tariff.areaCarried = true)

/-! ### Invariants -/

/-- R108: a coil is driven only in PULSE, and it is that of the operation's direction, so the two are never driven together;
every step keeps it so. -/
def Obligations.CoilsFollowPulseKept : Prop :=
  (∀ s t : State, s.part.CoilsFollowPulse → step s = .next t → t.part.CoilsFollowPulse) ∧
  ∀ u : Part, u.CoilsFollowPulse → ¬ (u.outputs.openCoil = true ∧ u.outputs.closeCoil = true)

/-- R94, R149, R180, R183: each attention line is asserted exactly while a notice of its port is eligible and the main
domain has its supply, CODE_ATTACK is present exactly while a port is locked out, and a stopped main domain holds no frame,
no code and no write; every step keeps it so. -/
def Obligations.AttentionLinesKept : Prop :=
  ∀ s t : State, s.part.Attending → step s = .next t → t.part.Attending

/-- R116, R117: the qualification timers of the contact watch are up to date after every command, and every step keeps them
so. -/
def Obligations.ContactWatchKept : Prop :=
  (∀ (c : Instr) (s t : State), exec c s = .next t → t.part.Watched) ∧
  ∀ s t : State, s.part.Watched → step s = .next t → t.part.Watched

/-- R1, R54, R66, R73, R81, R101, R122, R134, R178, R184, R185, R189: what the state at reset holds, and that the invariants
hold in it. Its inputs, its stopped main domain and its lost mark are the model's choice (logs 1, 3). -/
def Obligations.ResetIsANewPart : Prop :=
  let u := State.reset.part
  State.reset.pending = [] ∧ u.power = .stopped ∧ u.lostMark = true ∧ u.lifecycle = .provisioning ∧
  u.account.balance = 0 ∧ u.account.residue = 0 ∧ u.account.ecOwed = 0 ∧ u.account.debt = 0 ∧ u.account.debtRate = 0 ∧
  u.account.creditState = .exhausted ∧ u.account.ecAvailable = false ∧
  u.accountCauses = { noCredit := true, debtLimit := true } ∧
  u.clock = { count := 0, valid := false, adjustment := 0 } ∧ u.timeBase = 0 ∧
  u.codes.generation = 0 ∧ u.codes.serials = { used := [], floor := 0, highest := 0 } ∧ u.codes.remoteOrder = false ∧
  u.tariff.activeArea = none ∧ u.tariff.pending = .empty ∧ u.tariff.pendingImage = List.replicate 305 0 ∧
  u.load.limit = 0 ∧ u.load.extended = false ∧ u.load.trips = [] ∧
  (∀ c : TamperCause, (u.tamperRecord c).state = .quiet ∧ (u.tamperRecord c).count = 0 ∧ u.condition c = false) ∧
  u.supply.logical = .unset ∧ u.supply.record = { causes := CauseSet.none, test := false } ∧
  (∀ slot ∈ u.array.log.toList, slot = .blank) ∧ (∀ slot ∈ u.array.journal.toList, slot = .blank) ∧
  u.array.areaA = .blank ∧ u.array.areaB = .blank ∧
  u.config.live.mid = 0 ∧ u.config.live.pulseWeight = 625 ∧ u.config.live.pmax = 24000 ∧
  u.config.live.importOnly = false ∧ u.config.live.relayDelay = 2500 ∧ u.config.live.pulseWidth = 60 ∧
  u.config.live.settleTime = 150 ∧ u.config.live.nm = 2 ∧ u.config.live.nk = 5 ∧ u.config.live.mh = 3 ∧
  u.config.live.participants = ⟨true, true⟩ ∧ (∀ slot, (u.config.live.keys.get slot).loaded = false) ∧
  (let ports (m k s : Bool) : PerPort Bool := ⟨m, k, s⟩;
    let table : List (NoticeKind × Nat × PerPort Bool) :=
      [(.tamperRaised, 4, ports true true true), (.supplyChanged, 3, ports true true true),
       (.relayFault, 4, ports true true true), (.awaitingConfirm, 3, ports false true true),
       (.creditExhausted, 3, ports false true true), (.creditLow, 2, ports false true false),
       (.ecAvailable, 2, ports false true false), (.friendlyChanged, 1, ports false true false),
       (.loadTrip, 3, ports false true true), (.tariffChanged, 1, ports false true true),
       (.clockAdjusted, 1, ports false false true), (.bankReopened, 1, ports false false true),
       (.journalAdded, 1, ports false false true)];
    (∀ row ∈ table, u.config.live.levelOf row.1 = row.2.1 ∧ u.config.live.routingOf row.1 = row.2.2) ∧
    u.config.live.levelOf .supplyPending = 4 ∧ u.config.live.levelOf .codeResult = 2) ∧
  u.Ledger ∧ u.CoilsFollowPulse ∧ u.Attending ∧ u.Watched ∧ u.codes.serials.Ordered
end

