-- ==== Sys2Proof/Laws/Frames.lean ====
section
/-! SUPPORT. What each shared operation leaves alone, said once with the blanked parts of Safety.lean. An operation keeps
its blanked part; the single fields follow in Laws/Fields.lean. -/

namespace Sys2Proof.Machine

theorem Part.derived_of_core {u v : Part} (h : v.core = u.core) : v.derived = u.derived := by
  have k := congrArg Part.derived h
  exact k

theorem Part.core_of_sansStore {u v : Part} (h : v.sansStore = u.sansStore) : v.core = u.core := by
  have k := congrArg Part.core h
  exact k

theorem Part.core_of_sansNotices {u v : Part} (h : v.sansNotices = u.sansNotices) : v.core = u.core := by
  have k := congrArg Part.core h
  exact k

/-! ### The store -/

@[simp] theorem Part.markDue_sansStore (u : Part) : u.markDue.sansStore = u.sansStore := rfl

@[simp] theorem Part.markDueIf_sansStore (b : Bool) (u : Part) : (Part.markDueIf b u).sansStore = u.sansStore := by
  cases b <;> rfl

@[simp] theorem Part.startCheckpoint_sansStore (u : Part) (r : ReasonSet) :
    (u.startCheckpoint r).sansStore = u.sansStore := by
  unfold Part.startCheckpoint
  dsimp only
  split <;> rfl

@[simp] theorem Part.startClass2_sansStore (u : Part) (w : Class2Write) (l : List Class2Write) :
    (u.startClass2 w l).sansStore = u.sansStore := rfl

@[simp] theorem Part.startJournal_sansStore (u : Part) (r : JournalRequest) (l : List JournalRequest) :
    (u.startJournal r l).sansStore = u.sansStore := by
  unfold Part.startJournal; dsimp only; split <;> rfl

@[simp] theorem Part.startNext_sansStore (u : Part) : u.startNext.sansStore = u.sansStore := by
  unfold Part.startNext
  repeat' split
  all_goals simp

@[simp] theorem Part.requestCheckpoint_sansStore (r : CheckpointReason) (u : Part) :
    (u.requestCheckpoint r).sansStore = u.sansStore := by simp [Part.requestCheckpoint]; rfl

@[simp] theorem Part.submitClass2_sansStore (w : Class2Write) (u : Part) :
    (u.submitClass2 w).sansStore = u.sansStore := by simp [Part.submitClass2]; rfl

@[simp] theorem Part.submitJournal_sansStore (r : JournalRequest) (u : Part) :
    (u.submitJournal r).sansStore = u.sansStore := by
  unfold Part.submitJournal; split
  · rfl
  · simp; rfl

@[simp] theorem Part.journal_sansStore (d : JournalDetail) (u : Part) : (u.journal d).sansStore = u.sansStore := by
  simp [Part.journal]

/-! ### The notices -/

@[simp] theorem Part.putNotices_sansNotices (p : Port) (n : NoticePort) (u : Part) :
    (u.putNotices p n).sansNotices = u.sansNotices := rfl

@[simp] theorem Part.placeOn_sansNotices (p : Port) (x : Notice) (u : Part) :
    (u.placeOn p x).sansNotices = u.sansNotices := rfl

@[simp] theorem Part.placeIf_sansNotices (b : Bool) (p : Port) (x : Notice) (u : Part) :
    (u.placeIf b p x).sansNotices = u.sansNotices := by cases b <;> rfl

@[simp] theorem Part.place_sansNotices (x : Notice) (u : Part) : (u.place x).sansNotices = u.sansNotices := by
  simp [Part.place]

/-! ### The chain behind a condition or a decision -/

@[simp] theorem Part.markDueIf_core (b : Bool) (u : Part) : (Part.markDueIf b u).core = u.core :=
  Part.core_of_sansStore (by simp)

@[simp] theorem Part.markDue_core (u : Part) : u.markDue.core = u.core := rfl

@[simp] theorem Part.requestCheckpoint_core (r : CheckpointReason) (u : Part) : (u.requestCheckpoint r).core = u.core :=
  Part.core_of_sansStore (by simp)

@[simp] theorem Part.submitJournal_core (r : JournalRequest) (u : Part) : (u.submitJournal r).core = u.core :=
  Part.core_of_sansStore (by simp)

@[simp] theorem Part.journal_core (d : JournalDetail) (u : Part) : (u.journal d).core = u.core :=
  Part.core_of_sansStore (by simp)

@[simp] theorem Part.place_core (x : Notice) (u : Part) : (u.place x).core = u.core :=
  Part.core_of_sansNotices (by simp)

@[simp] theorem Part.placeIf_core (b : Bool) (p : Port) (x : Notice) (u : Part) : (u.placeIf b p x).core = u.core :=
  Part.core_of_sansNotices (by simp)

@[simp] theorem Part.putRecord_core (c : TamperCause) (r : TamperRecord) (u : Part) :
    (u.putRecord c r).core = u.core := by unfold Part.putRecord; simp; rfl

@[simp] theorem Part.putLogical_core (l : Logical) (u : Part) : (u.putLogical l).core = u.core := by
  unfold Part.putLogical; simp; rfl

@[simp] theorem Part.putOpeningRecord_core (r : OpeningRecord) (u : Part) : (u.putOpeningRecord r).core = u.core := by
  unfold Part.putOpeningRecord; simp; rfl

@[simp] theorem Part.settleRelay_core (st : Settled) (u : Part) : (u.settleRelay st).core = u.core := by
  unfold Part.settleRelay; simp; rfl

@[simp] theorem Part.enterRecord_core (c : CauseSet) (u : Part) : (u.enterRecord c).core = u.core := by
  simp [Part.enterRecord]

@[simp] theorem Part.bufferEvent_core (c : Cover) (b : Bool) (u : Part) : (u.bufferEvent c b).core = u.core := by
  unfold Part.bufferEvent; split <;> rfl

@[simp] theorem Part.absentEvidence_core (c : TamperCause) (u : Part) : (u.absentEvidence c).core = u.core := by
  unfold Part.absentEvidence
  dsimp only
  repeat' split
  all_goals simp

@[simp] theorem Part.becomeAbsent_core (c : TamperCause) (u : Part) : (u.becomeAbsent c).core = u.core := by
  simp [Part.becomeAbsent]

@[simp] theorem Part.conditionEnds_core (c : TamperCause) (u : Part) : (u.conditionEnds c).core = u.core := by
  unfold Part.conditionEnds
  dsimp only
  repeat' split
  all_goals simp

@[simp] theorem Part.leaveBypassWatch_core (d : Direction) (u : Part) : (u.leaveBypassWatch d).core = u.core := by
  unfold Part.leaveBypassWatch
  repeat' split
  all_goals simp

@[simp] theorem Part.startOperation_core (d : Direction) (r : Reason) (u : Part) :
    (u.startOperation d r).core = u.core := by
  unfold Part.startOperation
  split
  · simp only [Part.placeIf_core]
    refine Eq.trans (b := (((u.leaveBypassWatch d).putOpeningRecord (u.recordAtStart d r)).putLogical .inProgress).core)
      rfl ?_
    simp
  · rfl

@[simp] theorem Part.leaveOpen_core (u : Part) : u.leaveOpen.core = u.core := by
  unfold Part.leaveOpen; split <;> simp

@[simp] theorem Part.actOn_core (st : Settled) (c : CauseSet) (u : Part) : (u.actOn st c).core = u.core := by
  unfold Part.actOn
  cases st <;> dsimp only <;> (try split) <;> simp

@[simp] theorem Part.recompute_core (u : Part) : u.recompute.core = u.core := by
  unfold Part.recompute
  repeat' split
  all_goals simp
  rfl

@[simp] theorem Part.handCauses_core (c : CauseSet) (u : Part) : (u.handCauses c).core = u.core := by
  unfold Part.handCauses; split
  · rfl
  · simp; rfl

@[simp] theorem Part.evaluateTamperQuietly_core (u : Part) : u.evaluateTamperQuietly.core = u.core := rfl

@[simp] theorem Part.evaluateTamper_core (u : Part) : u.evaluateTamper.core = u.core := by
  simp [Part.evaluateTamper]; rfl

@[simp] theorem Part.presentEvidence_core (c : TamperCause) (u : Part) : (u.presentEvidence c).core = u.core := by
  unfold Part.presentEvidence; dsimp only
  split <;> simp

@[simp] theorem Part.presentOnBattery_core (c : Cover) (u : Part) : (u.presentOnBattery c).core = u.core := by
  unfold Part.presentOnBattery; dsimp only
  split <;> simp

@[simp] theorem Part.becomePresent_core (c : TamperCause) (u : Part) : (u.becomePresent c).core = u.core := by
  unfold Part.becomePresent; dsimp only
  repeat' split
  all_goals simp

@[simp] theorem Part.enterPending_core (c : TamperCause) (b : Bool) (u : Part) : (u.enterPending c b).core = u.core := by
  unfold Part.enterPending; dsimp only
  split <;> simp

@[simp] theorem Part.conditionArises_core (c : TamperCause) (u : Part) : (u.conditionArises c).core = u.core := by
  unfold Part.conditionArises; dsimp only
  repeat' split
  all_goals simp

@[simp] theorem Part.setCondition_core (c : TamperCause) (b : Bool) (u : Part) : (u.setCondition c b).core = u.core := by
  unfold Part.setCondition; dsimp only
  repeat' split
  all_goals simp

/-! ### The derivation -/

@[simp] theorem Part.putAccount_derived (a : Account) (u : Part) (h : a.books = u.account.books) :
    (u.putAccount a).derived = u.derived := by
  unfold Part.putAccount; split
  · rfl
  · show ({ u with account := a } : Part).derived = u.derived
    simp only [Part.derived, Part.core]
    rw [h]

@[simp] theorem Part.creditNotices_core (a : Account) (u : Part) : (u.creditNotices a).core = u.core := by
  unfold Part.creditNotices; dsimp only
  repeat' split
  all_goals simp

@[simp] theorem Part.deriveQuietly_derived (u : Part) : u.deriveQuietly.derived = u.derived := by
  unfold Part.deriveQuietly; dsimp only
  rw [Part.derived_of_core (Part.creditNotices_core _ _)]
  refine Eq.trans ?_ (Part.putAccount_derived u.derivedAccount u rfl)
  rfl

@[simp] theorem Part.derive_derived (u : Part) : u.derive.derived = u.derived := by
  unfold Part.derive; dsimp only
  split
  · simp
  · rw [Part.derived_of_core (Part.recompute_core _)]; simp

@[simp] theorem Part.afterCharge_derived (c : Nat) (u : Part) : (u.afterCharge c).derived = u.derived := by
  unfold Part.afterCharge; dsimp only
  repeat' split
  · simp
  · rw [Part.derived_of_core (Part.requestCheckpoint_core _ _)]; simp
  · simp

/-! ### The contact watch -/

@[simp] theorem Part.watchContacts_unwatched (u : Part) : u.watchContacts.unwatched = u.unwatched := rfl

end Sys2Proof.Machine
end

