-- ==== Sys2Proof/Laws/Fields.lean ====
section
/-! SUPPORT. The single fields that each shared operation leaves alone, read off the lemmas of Laws/Frames.lean. -/

namespace Sys2Proof.Machine

/-! `startNext` -/

@[simp] theorem Part.startNext_power (u : Part) : u.startNext.power = u.power := by have k := congrArg Part.power (Part.startNext_sansStore u); exact k
@[simp] theorem Part.startNext_lostMark (u : Part) : u.startNext.lostMark = u.lostMark := by have k := congrArg Part.lostMark (Part.startNext_sansStore u); exact k
@[simp] theorem Part.startNext_lifecycle (u : Part) : u.startNext.lifecycle = u.lifecycle := by have k := congrArg Part.lifecycle (Part.startNext_sansStore u); exact k
@[simp] theorem Part.startNext_timeBase (u : Part) : u.startNext.timeBase = u.timeBase := by have k := congrArg Part.timeBase (Part.startNext_sansStore u); exact k
@[simp] theorem Part.startNext_clock (u : Part) : u.startNext.clock = u.clock := by have k := congrArg Part.clock (Part.startNext_sansStore u); exact k
@[simp] theorem Part.startNext_inputs (u : Part) : u.startNext.inputs = u.inputs := by have k := congrArg Part.inputs (Part.startNext_sansStore u); exact k
@[simp] theorem Part.startNext_accountCauses (u : Part) : u.startNext.accountCauses = u.accountCauses := by have k := congrArg Part.accountCauses (Part.startNext_sansStore u); exact k
@[simp] theorem Part.startNext_pulse (u : Part) : u.startNext.pulse = u.pulse := by have k := congrArg Part.pulse (Part.startNext_sansStore u); exact k
@[simp] theorem Part.startNext_recon (u : Part) : u.startNext.recon = u.recon := by have k := congrArg Part.recon (Part.startNext_sansStore u); exact k
@[simp] theorem Part.startNext_tariff (u : Part) : u.startNext.tariff = u.tariff := by have k := congrArg Part.tariff (Part.startNext_sansStore u); exact k
@[simp] theorem Part.startNext_codes (u : Part) : u.startNext.codes = u.codes := by have k := congrArg Part.codes (Part.startNext_sansStore u); exact k
@[simp] theorem Part.startNext_load (u : Part) : u.startNext.load = u.load := by have k := congrArg Part.load (Part.startNext_sansStore u); exact k
@[simp] theorem Part.startNext_config (u : Part) : u.startNext.config = u.config := by have k := congrArg Part.config (Part.startNext_sansStore u); exact k
@[simp] theorem Part.startNext_receivers (u : Part) : u.startNext.receivers = u.receivers := by have k := congrArg Part.receivers (Part.startNext_sansStore u); exact k
@[simp] theorem Part.startNext_links (u : Part) : u.startNext.links = u.links := by have k := congrArg Part.links (Part.startNext_sansStore u); exact k
@[simp] theorem Part.startNext_overtaken (u : Part) : u.startNext.overtaken = u.overtaken := by have k := congrArg Part.overtaken (Part.startNext_sansStore u); exact k
@[simp] theorem Part.startNext_outputs (u : Part) : u.startNext.outputs = u.outputs := by have k := congrArg Part.outputs (Part.startNext_sansStore u); exact k
@[simp] theorem Part.startNext_supply (u : Part) : u.startNext.supply = u.supply := by have k := congrArg Part.supply (Part.startNext_sansStore u); exact k
@[simp] theorem Part.startNext_tamper (u : Part) : u.startNext.tamper = u.tamper := by have k := congrArg Part.tamper (Part.startNext_sansStore u); exact k
@[simp] theorem Part.startNext_notices (u : Part) : u.startNext.notices = u.notices := by have k := congrArg Part.notices (Part.startNext_sansStore u); exact k
@[simp] theorem Part.startNext_balance (u : Part) : u.startNext.account.balance = u.account.balance := by have k := congrArg (fun v => v.account.balance) (Part.startNext_sansStore u); exact k
@[simp] theorem Part.startNext_residue (u : Part) : u.startNext.account.residue = u.account.residue := by have k := congrArg (fun v => v.account.residue) (Part.startNext_sansStore u); exact k
@[simp] theorem Part.startNext_ecOwed (u : Part) : u.startNext.account.ecOwed = u.account.ecOwed := by have k := congrArg (fun v => v.account.ecOwed) (Part.startNext_sansStore u); exact k
@[simp] theorem Part.startNext_debt (u : Part) : u.startNext.account.debt = u.account.debt := by have k := congrArg (fun v => v.account.debt) (Part.startNext_sansStore u); exact k
@[simp] theorem Part.startNext_debtRate (u : Part) : u.startNext.account.debtRate = u.account.debtRate := by have k := congrArg (fun v => v.account.debtRate) (Part.startNext_sansStore u); exact k
@[simp] theorem Part.startNext_creditState (u : Part) : u.startNext.account.creditState = u.account.creditState := by have k := congrArg (fun v => v.account.creditState) (Part.startNext_sansStore u); exact k
@[simp] theorem Part.startNext_ecAvailable (u : Part) : u.startNext.account.ecAvailable = u.account.ecAvailable := by have k := congrArg (fun v => v.account.ecAvailable) (Part.startNext_sansStore u); exact k
@[simp] theorem Part.startNext_money (u : Part) : u.startNext.account.money = u.account.money := by have k := congrArg (fun v => v.account) (Part.startNext_sansStore u); exact k

/-! `requestCheckpoint` -/

@[simp] theorem Part.requestCheckpoint_power (r : CheckpointReason) (u : Part) : (u.requestCheckpoint r).power = u.power := by have k := congrArg Part.power (Part.requestCheckpoint_sansStore r u); exact k
@[simp] theorem Part.requestCheckpoint_lostMark (r : CheckpointReason) (u : Part) : (u.requestCheckpoint r).lostMark = u.lostMark := by have k := congrArg Part.lostMark (Part.requestCheckpoint_sansStore r u); exact k
@[simp] theorem Part.requestCheckpoint_lifecycle (r : CheckpointReason) (u : Part) : (u.requestCheckpoint r).lifecycle = u.lifecycle := by have k := congrArg Part.lifecycle (Part.requestCheckpoint_sansStore r u); exact k
@[simp] theorem Part.requestCheckpoint_timeBase (r : CheckpointReason) (u : Part) : (u.requestCheckpoint r).timeBase = u.timeBase := by have k := congrArg Part.timeBase (Part.requestCheckpoint_sansStore r u); exact k
@[simp] theorem Part.requestCheckpoint_clock (r : CheckpointReason) (u : Part) : (u.requestCheckpoint r).clock = u.clock := by have k := congrArg Part.clock (Part.requestCheckpoint_sansStore r u); exact k
@[simp] theorem Part.requestCheckpoint_inputs (r : CheckpointReason) (u : Part) : (u.requestCheckpoint r).inputs = u.inputs := by have k := congrArg Part.inputs (Part.requestCheckpoint_sansStore r u); exact k
@[simp] theorem Part.requestCheckpoint_accountCauses (r : CheckpointReason) (u : Part) : (u.requestCheckpoint r).accountCauses = u.accountCauses := by have k := congrArg Part.accountCauses (Part.requestCheckpoint_sansStore r u); exact k
@[simp] theorem Part.requestCheckpoint_pulse (r : CheckpointReason) (u : Part) : (u.requestCheckpoint r).pulse = u.pulse := by have k := congrArg Part.pulse (Part.requestCheckpoint_sansStore r u); exact k
@[simp] theorem Part.requestCheckpoint_recon (r : CheckpointReason) (u : Part) : (u.requestCheckpoint r).recon = u.recon := by have k := congrArg Part.recon (Part.requestCheckpoint_sansStore r u); exact k
@[simp] theorem Part.requestCheckpoint_tariff (r : CheckpointReason) (u : Part) : (u.requestCheckpoint r).tariff = u.tariff := by have k := congrArg Part.tariff (Part.requestCheckpoint_sansStore r u); exact k
@[simp] theorem Part.requestCheckpoint_codes (r : CheckpointReason) (u : Part) : (u.requestCheckpoint r).codes = u.codes := by have k := congrArg Part.codes (Part.requestCheckpoint_sansStore r u); exact k
@[simp] theorem Part.requestCheckpoint_load (r : CheckpointReason) (u : Part) : (u.requestCheckpoint r).load = u.load := by have k := congrArg Part.load (Part.requestCheckpoint_sansStore r u); exact k
@[simp] theorem Part.requestCheckpoint_config (r : CheckpointReason) (u : Part) : (u.requestCheckpoint r).config = u.config := by have k := congrArg Part.config (Part.requestCheckpoint_sansStore r u); exact k
@[simp] theorem Part.requestCheckpoint_receivers (r : CheckpointReason) (u : Part) : (u.requestCheckpoint r).receivers = u.receivers := by have k := congrArg Part.receivers (Part.requestCheckpoint_sansStore r u); exact k
@[simp] theorem Part.requestCheckpoint_links (r : CheckpointReason) (u : Part) : (u.requestCheckpoint r).links = u.links := by have k := congrArg Part.links (Part.requestCheckpoint_sansStore r u); exact k
@[simp] theorem Part.requestCheckpoint_overtaken (r : CheckpointReason) (u : Part) : (u.requestCheckpoint r).overtaken = u.overtaken := by have k := congrArg Part.overtaken (Part.requestCheckpoint_sansStore r u); exact k
@[simp] theorem Part.requestCheckpoint_outputs (r : CheckpointReason) (u : Part) : (u.requestCheckpoint r).outputs = u.outputs := by have k := congrArg Part.outputs (Part.requestCheckpoint_sansStore r u); exact k
@[simp] theorem Part.requestCheckpoint_supply (r : CheckpointReason) (u : Part) : (u.requestCheckpoint r).supply = u.supply := by have k := congrArg Part.supply (Part.requestCheckpoint_sansStore r u); exact k
@[simp] theorem Part.requestCheckpoint_tamper (r : CheckpointReason) (u : Part) : (u.requestCheckpoint r).tamper = u.tamper := by have k := congrArg Part.tamper (Part.requestCheckpoint_sansStore r u); exact k
@[simp] theorem Part.requestCheckpoint_notices (r : CheckpointReason) (u : Part) : (u.requestCheckpoint r).notices = u.notices := by have k := congrArg Part.notices (Part.requestCheckpoint_sansStore r u); exact k
@[simp] theorem Part.requestCheckpoint_balance (r : CheckpointReason) (u : Part) : (u.requestCheckpoint r).account.balance = u.account.balance := by have k := congrArg (fun v => v.account.balance) (Part.requestCheckpoint_sansStore r u); exact k
@[simp] theorem Part.requestCheckpoint_residue (r : CheckpointReason) (u : Part) : (u.requestCheckpoint r).account.residue = u.account.residue := by have k := congrArg (fun v => v.account.residue) (Part.requestCheckpoint_sansStore r u); exact k
@[simp] theorem Part.requestCheckpoint_ecOwed (r : CheckpointReason) (u : Part) : (u.requestCheckpoint r).account.ecOwed = u.account.ecOwed := by have k := congrArg (fun v => v.account.ecOwed) (Part.requestCheckpoint_sansStore r u); exact k
@[simp] theorem Part.requestCheckpoint_debt (r : CheckpointReason) (u : Part) : (u.requestCheckpoint r).account.debt = u.account.debt := by have k := congrArg (fun v => v.account.debt) (Part.requestCheckpoint_sansStore r u); exact k
@[simp] theorem Part.requestCheckpoint_debtRate (r : CheckpointReason) (u : Part) : (u.requestCheckpoint r).account.debtRate = u.account.debtRate := by have k := congrArg (fun v => v.account.debtRate) (Part.requestCheckpoint_sansStore r u); exact k
@[simp] theorem Part.requestCheckpoint_creditState (r : CheckpointReason) (u : Part) : (u.requestCheckpoint r).account.creditState = u.account.creditState := by have k := congrArg (fun v => v.account.creditState) (Part.requestCheckpoint_sansStore r u); exact k
@[simp] theorem Part.requestCheckpoint_ecAvailable (r : CheckpointReason) (u : Part) : (u.requestCheckpoint r).account.ecAvailable = u.account.ecAvailable := by have k := congrArg (fun v => v.account.ecAvailable) (Part.requestCheckpoint_sansStore r u); exact k
@[simp] theorem Part.requestCheckpoint_money (r : CheckpointReason) (u : Part) : (u.requestCheckpoint r).account.money = u.account.money := by have k := congrArg (fun v => v.account) (Part.requestCheckpoint_sansStore r u); exact k

/-! `submitClass2` -/

@[simp] theorem Part.submitClass2_power (w : Class2Write) (u : Part) : (u.submitClass2 w).power = u.power := by have k := congrArg Part.power (Part.submitClass2_sansStore w u); exact k
@[simp] theorem Part.submitClass2_lostMark (w : Class2Write) (u : Part) : (u.submitClass2 w).lostMark = u.lostMark := by have k := congrArg Part.lostMark (Part.submitClass2_sansStore w u); exact k
@[simp] theorem Part.submitClass2_lifecycle (w : Class2Write) (u : Part) : (u.submitClass2 w).lifecycle = u.lifecycle := by have k := congrArg Part.lifecycle (Part.submitClass2_sansStore w u); exact k
@[simp] theorem Part.submitClass2_timeBase (w : Class2Write) (u : Part) : (u.submitClass2 w).timeBase = u.timeBase := by have k := congrArg Part.timeBase (Part.submitClass2_sansStore w u); exact k
@[simp] theorem Part.submitClass2_clock (w : Class2Write) (u : Part) : (u.submitClass2 w).clock = u.clock := by have k := congrArg Part.clock (Part.submitClass2_sansStore w u); exact k
@[simp] theorem Part.submitClass2_inputs (w : Class2Write) (u : Part) : (u.submitClass2 w).inputs = u.inputs := by have k := congrArg Part.inputs (Part.submitClass2_sansStore w u); exact k
@[simp] theorem Part.submitClass2_accountCauses (w : Class2Write) (u : Part) : (u.submitClass2 w).accountCauses = u.accountCauses := by have k := congrArg Part.accountCauses (Part.submitClass2_sansStore w u); exact k
@[simp] theorem Part.submitClass2_pulse (w : Class2Write) (u : Part) : (u.submitClass2 w).pulse = u.pulse := by have k := congrArg Part.pulse (Part.submitClass2_sansStore w u); exact k
@[simp] theorem Part.submitClass2_recon (w : Class2Write) (u : Part) : (u.submitClass2 w).recon = u.recon := by have k := congrArg Part.recon (Part.submitClass2_sansStore w u); exact k
@[simp] theorem Part.submitClass2_tariff (w : Class2Write) (u : Part) : (u.submitClass2 w).tariff = u.tariff := by have k := congrArg Part.tariff (Part.submitClass2_sansStore w u); exact k
@[simp] theorem Part.submitClass2_codes (w : Class2Write) (u : Part) : (u.submitClass2 w).codes = u.codes := by have k := congrArg Part.codes (Part.submitClass2_sansStore w u); exact k
@[simp] theorem Part.submitClass2_load (w : Class2Write) (u : Part) : (u.submitClass2 w).load = u.load := by have k := congrArg Part.load (Part.submitClass2_sansStore w u); exact k
@[simp] theorem Part.submitClass2_config (w : Class2Write) (u : Part) : (u.submitClass2 w).config = u.config := by have k := congrArg Part.config (Part.submitClass2_sansStore w u); exact k
@[simp] theorem Part.submitClass2_receivers (w : Class2Write) (u : Part) : (u.submitClass2 w).receivers = u.receivers := by have k := congrArg Part.receivers (Part.submitClass2_sansStore w u); exact k
@[simp] theorem Part.submitClass2_links (w : Class2Write) (u : Part) : (u.submitClass2 w).links = u.links := by have k := congrArg Part.links (Part.submitClass2_sansStore w u); exact k
@[simp] theorem Part.submitClass2_overtaken (w : Class2Write) (u : Part) : (u.submitClass2 w).overtaken = u.overtaken := by have k := congrArg Part.overtaken (Part.submitClass2_sansStore w u); exact k
@[simp] theorem Part.submitClass2_outputs (w : Class2Write) (u : Part) : (u.submitClass2 w).outputs = u.outputs := by have k := congrArg Part.outputs (Part.submitClass2_sansStore w u); exact k
@[simp] theorem Part.submitClass2_supply (w : Class2Write) (u : Part) : (u.submitClass2 w).supply = u.supply := by have k := congrArg Part.supply (Part.submitClass2_sansStore w u); exact k
@[simp] theorem Part.submitClass2_tamper (w : Class2Write) (u : Part) : (u.submitClass2 w).tamper = u.tamper := by have k := congrArg Part.tamper (Part.submitClass2_sansStore w u); exact k
@[simp] theorem Part.submitClass2_notices (w : Class2Write) (u : Part) : (u.submitClass2 w).notices = u.notices := by have k := congrArg Part.notices (Part.submitClass2_sansStore w u); exact k
@[simp] theorem Part.submitClass2_balance (w : Class2Write) (u : Part) : (u.submitClass2 w).account.balance = u.account.balance := by have k := congrArg (fun v => v.account.balance) (Part.submitClass2_sansStore w u); exact k
@[simp] theorem Part.submitClass2_residue (w : Class2Write) (u : Part) : (u.submitClass2 w).account.residue = u.account.residue := by have k := congrArg (fun v => v.account.residue) (Part.submitClass2_sansStore w u); exact k
@[simp] theorem Part.submitClass2_ecOwed (w : Class2Write) (u : Part) : (u.submitClass2 w).account.ecOwed = u.account.ecOwed := by have k := congrArg (fun v => v.account.ecOwed) (Part.submitClass2_sansStore w u); exact k
@[simp] theorem Part.submitClass2_debt (w : Class2Write) (u : Part) : (u.submitClass2 w).account.debt = u.account.debt := by have k := congrArg (fun v => v.account.debt) (Part.submitClass2_sansStore w u); exact k
@[simp] theorem Part.submitClass2_debtRate (w : Class2Write) (u : Part) : (u.submitClass2 w).account.debtRate = u.account.debtRate := by have k := congrArg (fun v => v.account.debtRate) (Part.submitClass2_sansStore w u); exact k
@[simp] theorem Part.submitClass2_creditState (w : Class2Write) (u : Part) : (u.submitClass2 w).account.creditState = u.account.creditState := by have k := congrArg (fun v => v.account.creditState) (Part.submitClass2_sansStore w u); exact k
@[simp] theorem Part.submitClass2_ecAvailable (w : Class2Write) (u : Part) : (u.submitClass2 w).account.ecAvailable = u.account.ecAvailable := by have k := congrArg (fun v => v.account.ecAvailable) (Part.submitClass2_sansStore w u); exact k
@[simp] theorem Part.submitClass2_money (w : Class2Write) (u : Part) : (u.submitClass2 w).account.money = u.account.money := by have k := congrArg (fun v => v.account) (Part.submitClass2_sansStore w u); exact k

/-! `submitJournal` -/

@[simp] theorem Part.submitJournal_power (r : JournalRequest) (u : Part) : (u.submitJournal r).power = u.power := by have k := congrArg Part.power (Part.submitJournal_sansStore r u); exact k
@[simp] theorem Part.submitJournal_lostMark (r : JournalRequest) (u : Part) : (u.submitJournal r).lostMark = u.lostMark := by have k := congrArg Part.lostMark (Part.submitJournal_sansStore r u); exact k
@[simp] theorem Part.submitJournal_lifecycle (r : JournalRequest) (u : Part) : (u.submitJournal r).lifecycle = u.lifecycle := by have k := congrArg Part.lifecycle (Part.submitJournal_sansStore r u); exact k
@[simp] theorem Part.submitJournal_timeBase (r : JournalRequest) (u : Part) : (u.submitJournal r).timeBase = u.timeBase := by have k := congrArg Part.timeBase (Part.submitJournal_sansStore r u); exact k
@[simp] theorem Part.submitJournal_clock (r : JournalRequest) (u : Part) : (u.submitJournal r).clock = u.clock := by have k := congrArg Part.clock (Part.submitJournal_sansStore r u); exact k
@[simp] theorem Part.submitJournal_inputs (r : JournalRequest) (u : Part) : (u.submitJournal r).inputs = u.inputs := by have k := congrArg Part.inputs (Part.submitJournal_sansStore r u); exact k
@[simp] theorem Part.submitJournal_accountCauses (r : JournalRequest) (u : Part) : (u.submitJournal r).accountCauses = u.accountCauses := by have k := congrArg Part.accountCauses (Part.submitJournal_sansStore r u); exact k
@[simp] theorem Part.submitJournal_pulse (r : JournalRequest) (u : Part) : (u.submitJournal r).pulse = u.pulse := by have k := congrArg Part.pulse (Part.submitJournal_sansStore r u); exact k
@[simp] theorem Part.submitJournal_recon (r : JournalRequest) (u : Part) : (u.submitJournal r).recon = u.recon := by have k := congrArg Part.recon (Part.submitJournal_sansStore r u); exact k
@[simp] theorem Part.submitJournal_tariff (r : JournalRequest) (u : Part) : (u.submitJournal r).tariff = u.tariff := by have k := congrArg Part.tariff (Part.submitJournal_sansStore r u); exact k
@[simp] theorem Part.submitJournal_codes (r : JournalRequest) (u : Part) : (u.submitJournal r).codes = u.codes := by have k := congrArg Part.codes (Part.submitJournal_sansStore r u); exact k
@[simp] theorem Part.submitJournal_load (r : JournalRequest) (u : Part) : (u.submitJournal r).load = u.load := by have k := congrArg Part.load (Part.submitJournal_sansStore r u); exact k
@[simp] theorem Part.submitJournal_config (r : JournalRequest) (u : Part) : (u.submitJournal r).config = u.config := by have k := congrArg Part.config (Part.submitJournal_sansStore r u); exact k
@[simp] theorem Part.submitJournal_receivers (r : JournalRequest) (u : Part) : (u.submitJournal r).receivers = u.receivers := by have k := congrArg Part.receivers (Part.submitJournal_sansStore r u); exact k
@[simp] theorem Part.submitJournal_links (r : JournalRequest) (u : Part) : (u.submitJournal r).links = u.links := by have k := congrArg Part.links (Part.submitJournal_sansStore r u); exact k
@[simp] theorem Part.submitJournal_overtaken (r : JournalRequest) (u : Part) : (u.submitJournal r).overtaken = u.overtaken := by have k := congrArg Part.overtaken (Part.submitJournal_sansStore r u); exact k
@[simp] theorem Part.submitJournal_outputs (r : JournalRequest) (u : Part) : (u.submitJournal r).outputs = u.outputs := by have k := congrArg Part.outputs (Part.submitJournal_sansStore r u); exact k
@[simp] theorem Part.submitJournal_supply (r : JournalRequest) (u : Part) : (u.submitJournal r).supply = u.supply := by have k := congrArg Part.supply (Part.submitJournal_sansStore r u); exact k
@[simp] theorem Part.submitJournal_tamper (r : JournalRequest) (u : Part) : (u.submitJournal r).tamper = u.tamper := by have k := congrArg Part.tamper (Part.submitJournal_sansStore r u); exact k
@[simp] theorem Part.submitJournal_notices (r : JournalRequest) (u : Part) : (u.submitJournal r).notices = u.notices := by have k := congrArg Part.notices (Part.submitJournal_sansStore r u); exact k
@[simp] theorem Part.submitJournal_balance (r : JournalRequest) (u : Part) : (u.submitJournal r).account.balance = u.account.balance := by have k := congrArg (fun v => v.account.balance) (Part.submitJournal_sansStore r u); exact k
@[simp] theorem Part.submitJournal_residue (r : JournalRequest) (u : Part) : (u.submitJournal r).account.residue = u.account.residue := by have k := congrArg (fun v => v.account.residue) (Part.submitJournal_sansStore r u); exact k
@[simp] theorem Part.submitJournal_ecOwed (r : JournalRequest) (u : Part) : (u.submitJournal r).account.ecOwed = u.account.ecOwed := by have k := congrArg (fun v => v.account.ecOwed) (Part.submitJournal_sansStore r u); exact k
@[simp] theorem Part.submitJournal_debt (r : JournalRequest) (u : Part) : (u.submitJournal r).account.debt = u.account.debt := by have k := congrArg (fun v => v.account.debt) (Part.submitJournal_sansStore r u); exact k
@[simp] theorem Part.submitJournal_debtRate (r : JournalRequest) (u : Part) : (u.submitJournal r).account.debtRate = u.account.debtRate := by have k := congrArg (fun v => v.account.debtRate) (Part.submitJournal_sansStore r u); exact k
@[simp] theorem Part.submitJournal_creditState (r : JournalRequest) (u : Part) : (u.submitJournal r).account.creditState = u.account.creditState := by have k := congrArg (fun v => v.account.creditState) (Part.submitJournal_sansStore r u); exact k
@[simp] theorem Part.submitJournal_ecAvailable (r : JournalRequest) (u : Part) : (u.submitJournal r).account.ecAvailable = u.account.ecAvailable := by have k := congrArg (fun v => v.account.ecAvailable) (Part.submitJournal_sansStore r u); exact k
@[simp] theorem Part.submitJournal_money (r : JournalRequest) (u : Part) : (u.submitJournal r).account.money = u.account.money := by have k := congrArg (fun v => v.account) (Part.submitJournal_sansStore r u); exact k

/-! `journal` -/

@[simp] theorem Part.journal_power (d : JournalDetail) (u : Part) : (u.journal d).power = u.power := by have k := congrArg Part.power (Part.journal_sansStore d u); exact k
@[simp] theorem Part.journal_lostMark (d : JournalDetail) (u : Part) : (u.journal d).lostMark = u.lostMark := by have k := congrArg Part.lostMark (Part.journal_sansStore d u); exact k
@[simp] theorem Part.journal_lifecycle (d : JournalDetail) (u : Part) : (u.journal d).lifecycle = u.lifecycle := by have k := congrArg Part.lifecycle (Part.journal_sansStore d u); exact k
@[simp] theorem Part.journal_timeBase (d : JournalDetail) (u : Part) : (u.journal d).timeBase = u.timeBase := by have k := congrArg Part.timeBase (Part.journal_sansStore d u); exact k
@[simp] theorem Part.journal_clock (d : JournalDetail) (u : Part) : (u.journal d).clock = u.clock := by have k := congrArg Part.clock (Part.journal_sansStore d u); exact k
@[simp] theorem Part.journal_inputs (d : JournalDetail) (u : Part) : (u.journal d).inputs = u.inputs := by have k := congrArg Part.inputs (Part.journal_sansStore d u); exact k
@[simp] theorem Part.journal_accountCauses (d : JournalDetail) (u : Part) : (u.journal d).accountCauses = u.accountCauses := by have k := congrArg Part.accountCauses (Part.journal_sansStore d u); exact k
@[simp] theorem Part.journal_pulse (d : JournalDetail) (u : Part) : (u.journal d).pulse = u.pulse := by have k := congrArg Part.pulse (Part.journal_sansStore d u); exact k
@[simp] theorem Part.journal_recon (d : JournalDetail) (u : Part) : (u.journal d).recon = u.recon := by have k := congrArg Part.recon (Part.journal_sansStore d u); exact k
@[simp] theorem Part.journal_tariff (d : JournalDetail) (u : Part) : (u.journal d).tariff = u.tariff := by have k := congrArg Part.tariff (Part.journal_sansStore d u); exact k
@[simp] theorem Part.journal_codes (d : JournalDetail) (u : Part) : (u.journal d).codes = u.codes := by have k := congrArg Part.codes (Part.journal_sansStore d u); exact k
@[simp] theorem Part.journal_load (d : JournalDetail) (u : Part) : (u.journal d).load = u.load := by have k := congrArg Part.load (Part.journal_sansStore d u); exact k
@[simp] theorem Part.journal_config (d : JournalDetail) (u : Part) : (u.journal d).config = u.config := by have k := congrArg Part.config (Part.journal_sansStore d u); exact k
@[simp] theorem Part.journal_receivers (d : JournalDetail) (u : Part) : (u.journal d).receivers = u.receivers := by have k := congrArg Part.receivers (Part.journal_sansStore d u); exact k
@[simp] theorem Part.journal_links (d : JournalDetail) (u : Part) : (u.journal d).links = u.links := by have k := congrArg Part.links (Part.journal_sansStore d u); exact k
@[simp] theorem Part.journal_overtaken (d : JournalDetail) (u : Part) : (u.journal d).overtaken = u.overtaken := by have k := congrArg Part.overtaken (Part.journal_sansStore d u); exact k
@[simp] theorem Part.journal_outputs (d : JournalDetail) (u : Part) : (u.journal d).outputs = u.outputs := by have k := congrArg Part.outputs (Part.journal_sansStore d u); exact k
@[simp] theorem Part.journal_supply (d : JournalDetail) (u : Part) : (u.journal d).supply = u.supply := by have k := congrArg Part.supply (Part.journal_sansStore d u); exact k
@[simp] theorem Part.journal_tamper (d : JournalDetail) (u : Part) : (u.journal d).tamper = u.tamper := by have k := congrArg Part.tamper (Part.journal_sansStore d u); exact k
@[simp] theorem Part.journal_notices (d : JournalDetail) (u : Part) : (u.journal d).notices = u.notices := by have k := congrArg Part.notices (Part.journal_sansStore d u); exact k
@[simp] theorem Part.journal_balance (d : JournalDetail) (u : Part) : (u.journal d).account.balance = u.account.balance := by have k := congrArg (fun v => v.account.balance) (Part.journal_sansStore d u); exact k
@[simp] theorem Part.journal_residue (d : JournalDetail) (u : Part) : (u.journal d).account.residue = u.account.residue := by have k := congrArg (fun v => v.account.residue) (Part.journal_sansStore d u); exact k
@[simp] theorem Part.journal_ecOwed (d : JournalDetail) (u : Part) : (u.journal d).account.ecOwed = u.account.ecOwed := by have k := congrArg (fun v => v.account.ecOwed) (Part.journal_sansStore d u); exact k
@[simp] theorem Part.journal_debt (d : JournalDetail) (u : Part) : (u.journal d).account.debt = u.account.debt := by have k := congrArg (fun v => v.account.debt) (Part.journal_sansStore d u); exact k
@[simp] theorem Part.journal_debtRate (d : JournalDetail) (u : Part) : (u.journal d).account.debtRate = u.account.debtRate := by have k := congrArg (fun v => v.account.debtRate) (Part.journal_sansStore d u); exact k
@[simp] theorem Part.journal_creditState (d : JournalDetail) (u : Part) : (u.journal d).account.creditState = u.account.creditState := by have k := congrArg (fun v => v.account.creditState) (Part.journal_sansStore d u); exact k
@[simp] theorem Part.journal_ecAvailable (d : JournalDetail) (u : Part) : (u.journal d).account.ecAvailable = u.account.ecAvailable := by have k := congrArg (fun v => v.account.ecAvailable) (Part.journal_sansStore d u); exact k
@[simp] theorem Part.journal_money (d : JournalDetail) (u : Part) : (u.journal d).account.money = u.account.money := by have k := congrArg (fun v => v.account) (Part.journal_sansStore d u); exact k

/-! `markDueIf` -/

@[simp] theorem Part.markDueIf_power (b : Bool) (u : Part) : (Part.markDueIf b u).power = u.power := by have k := congrArg Part.power (Part.markDueIf_sansStore b u); exact k
@[simp] theorem Part.markDueIf_lostMark (b : Bool) (u : Part) : (Part.markDueIf b u).lostMark = u.lostMark := by have k := congrArg Part.lostMark (Part.markDueIf_sansStore b u); exact k
@[simp] theorem Part.markDueIf_lifecycle (b : Bool) (u : Part) : (Part.markDueIf b u).lifecycle = u.lifecycle := by have k := congrArg Part.lifecycle (Part.markDueIf_sansStore b u); exact k
@[simp] theorem Part.markDueIf_timeBase (b : Bool) (u : Part) : (Part.markDueIf b u).timeBase = u.timeBase := by have k := congrArg Part.timeBase (Part.markDueIf_sansStore b u); exact k
@[simp] theorem Part.markDueIf_clock (b : Bool) (u : Part) : (Part.markDueIf b u).clock = u.clock := by have k := congrArg Part.clock (Part.markDueIf_sansStore b u); exact k
@[simp] theorem Part.markDueIf_inputs (b : Bool) (u : Part) : (Part.markDueIf b u).inputs = u.inputs := by have k := congrArg Part.inputs (Part.markDueIf_sansStore b u); exact k
@[simp] theorem Part.markDueIf_accountCauses (b : Bool) (u : Part) : (Part.markDueIf b u).accountCauses = u.accountCauses := by have k := congrArg Part.accountCauses (Part.markDueIf_sansStore b u); exact k
@[simp] theorem Part.markDueIf_pulse (b : Bool) (u : Part) : (Part.markDueIf b u).pulse = u.pulse := by have k := congrArg Part.pulse (Part.markDueIf_sansStore b u); exact k
@[simp] theorem Part.markDueIf_recon (b : Bool) (u : Part) : (Part.markDueIf b u).recon = u.recon := by have k := congrArg Part.recon (Part.markDueIf_sansStore b u); exact k
@[simp] theorem Part.markDueIf_tariff (b : Bool) (u : Part) : (Part.markDueIf b u).tariff = u.tariff := by have k := congrArg Part.tariff (Part.markDueIf_sansStore b u); exact k
@[simp] theorem Part.markDueIf_codes (b : Bool) (u : Part) : (Part.markDueIf b u).codes = u.codes := by have k := congrArg Part.codes (Part.markDueIf_sansStore b u); exact k
@[simp] theorem Part.markDueIf_load (b : Bool) (u : Part) : (Part.markDueIf b u).load = u.load := by have k := congrArg Part.load (Part.markDueIf_sansStore b u); exact k
@[simp] theorem Part.markDueIf_config (b : Bool) (u : Part) : (Part.markDueIf b u).config = u.config := by have k := congrArg Part.config (Part.markDueIf_sansStore b u); exact k
@[simp] theorem Part.markDueIf_receivers (b : Bool) (u : Part) : (Part.markDueIf b u).receivers = u.receivers := by have k := congrArg Part.receivers (Part.markDueIf_sansStore b u); exact k
@[simp] theorem Part.markDueIf_links (b : Bool) (u : Part) : (Part.markDueIf b u).links = u.links := by have k := congrArg Part.links (Part.markDueIf_sansStore b u); exact k
@[simp] theorem Part.markDueIf_overtaken (b : Bool) (u : Part) : (Part.markDueIf b u).overtaken = u.overtaken := by have k := congrArg Part.overtaken (Part.markDueIf_sansStore b u); exact k
@[simp] theorem Part.markDueIf_outputs (b : Bool) (u : Part) : (Part.markDueIf b u).outputs = u.outputs := by have k := congrArg Part.outputs (Part.markDueIf_sansStore b u); exact k
@[simp] theorem Part.markDueIf_supply (b : Bool) (u : Part) : (Part.markDueIf b u).supply = u.supply := by have k := congrArg Part.supply (Part.markDueIf_sansStore b u); exact k
@[simp] theorem Part.markDueIf_tamper (b : Bool) (u : Part) : (Part.markDueIf b u).tamper = u.tamper := by have k := congrArg Part.tamper (Part.markDueIf_sansStore b u); exact k
@[simp] theorem Part.markDueIf_notices (b : Bool) (u : Part) : (Part.markDueIf b u).notices = u.notices := by have k := congrArg Part.notices (Part.markDueIf_sansStore b u); exact k
@[simp] theorem Part.markDueIf_balance (b : Bool) (u : Part) : (Part.markDueIf b u).account.balance = u.account.balance := by have k := congrArg (fun v => v.account.balance) (Part.markDueIf_sansStore b u); exact k
@[simp] theorem Part.markDueIf_residue (b : Bool) (u : Part) : (Part.markDueIf b u).account.residue = u.account.residue := by have k := congrArg (fun v => v.account.residue) (Part.markDueIf_sansStore b u); exact k
@[simp] theorem Part.markDueIf_ecOwed (b : Bool) (u : Part) : (Part.markDueIf b u).account.ecOwed = u.account.ecOwed := by have k := congrArg (fun v => v.account.ecOwed) (Part.markDueIf_sansStore b u); exact k
@[simp] theorem Part.markDueIf_debt (b : Bool) (u : Part) : (Part.markDueIf b u).account.debt = u.account.debt := by have k := congrArg (fun v => v.account.debt) (Part.markDueIf_sansStore b u); exact k
@[simp] theorem Part.markDueIf_debtRate (b : Bool) (u : Part) : (Part.markDueIf b u).account.debtRate = u.account.debtRate := by have k := congrArg (fun v => v.account.debtRate) (Part.markDueIf_sansStore b u); exact k
@[simp] theorem Part.markDueIf_creditState (b : Bool) (u : Part) : (Part.markDueIf b u).account.creditState = u.account.creditState := by have k := congrArg (fun v => v.account.creditState) (Part.markDueIf_sansStore b u); exact k
@[simp] theorem Part.markDueIf_ecAvailable (b : Bool) (u : Part) : (Part.markDueIf b u).account.ecAvailable = u.account.ecAvailable := by have k := congrArg (fun v => v.account.ecAvailable) (Part.markDueIf_sansStore b u); exact k
@[simp] theorem Part.markDueIf_money (b : Bool) (u : Part) : (Part.markDueIf b u).account.money = u.account.money := by have k := congrArg (fun v => v.account) (Part.markDueIf_sansStore b u); exact k

/-! `placeOn` -/

@[simp] theorem Part.placeOn_power (p : Port) (x : Notice) (u : Part) : (u.placeOn p x).power = u.power := by have k := congrArg Part.power (Part.placeOn_sansNotices p x u); exact k
@[simp] theorem Part.placeOn_lostMark (p : Port) (x : Notice) (u : Part) : (u.placeOn p x).lostMark = u.lostMark := by have k := congrArg Part.lostMark (Part.placeOn_sansNotices p x u); exact k
@[simp] theorem Part.placeOn_lifecycle (p : Port) (x : Notice) (u : Part) : (u.placeOn p x).lifecycle = u.lifecycle := by have k := congrArg Part.lifecycle (Part.placeOn_sansNotices p x u); exact k
@[simp] theorem Part.placeOn_timeBase (p : Port) (x : Notice) (u : Part) : (u.placeOn p x).timeBase = u.timeBase := by have k := congrArg Part.timeBase (Part.placeOn_sansNotices p x u); exact k
@[simp] theorem Part.placeOn_clock (p : Port) (x : Notice) (u : Part) : (u.placeOn p x).clock = u.clock := by have k := congrArg Part.clock (Part.placeOn_sansNotices p x u); exact k
@[simp] theorem Part.placeOn_inputs (p : Port) (x : Notice) (u : Part) : (u.placeOn p x).inputs = u.inputs := by have k := congrArg Part.inputs (Part.placeOn_sansNotices p x u); exact k
@[simp] theorem Part.placeOn_accountCauses (p : Port) (x : Notice) (u : Part) : (u.placeOn p x).accountCauses = u.accountCauses := by have k := congrArg Part.accountCauses (Part.placeOn_sansNotices p x u); exact k
@[simp] theorem Part.placeOn_pulse (p : Port) (x : Notice) (u : Part) : (u.placeOn p x).pulse = u.pulse := by have k := congrArg Part.pulse (Part.placeOn_sansNotices p x u); exact k
@[simp] theorem Part.placeOn_recon (p : Port) (x : Notice) (u : Part) : (u.placeOn p x).recon = u.recon := by have k := congrArg Part.recon (Part.placeOn_sansNotices p x u); exact k
@[simp] theorem Part.placeOn_tariff (p : Port) (x : Notice) (u : Part) : (u.placeOn p x).tariff = u.tariff := by have k := congrArg Part.tariff (Part.placeOn_sansNotices p x u); exact k
@[simp] theorem Part.placeOn_codes (p : Port) (x : Notice) (u : Part) : (u.placeOn p x).codes = u.codes := by have k := congrArg Part.codes (Part.placeOn_sansNotices p x u); exact k
@[simp] theorem Part.placeOn_load (p : Port) (x : Notice) (u : Part) : (u.placeOn p x).load = u.load := by have k := congrArg Part.load (Part.placeOn_sansNotices p x u); exact k
@[simp] theorem Part.placeOn_config (p : Port) (x : Notice) (u : Part) : (u.placeOn p x).config = u.config := by have k := congrArg Part.config (Part.placeOn_sansNotices p x u); exact k
@[simp] theorem Part.placeOn_receivers (p : Port) (x : Notice) (u : Part) : (u.placeOn p x).receivers = u.receivers := by have k := congrArg Part.receivers (Part.placeOn_sansNotices p x u); exact k
@[simp] theorem Part.placeOn_links (p : Port) (x : Notice) (u : Part) : (u.placeOn p x).links = u.links := by have k := congrArg Part.links (Part.placeOn_sansNotices p x u); exact k
@[simp] theorem Part.placeOn_overtaken (p : Port) (x : Notice) (u : Part) : (u.placeOn p x).overtaken = u.overtaken := by have k := congrArg Part.overtaken (Part.placeOn_sansNotices p x u); exact k
@[simp] theorem Part.placeOn_account (p : Port) (x : Notice) (u : Part) : (u.placeOn p x).account = u.account := by have k := congrArg Part.account (Part.placeOn_sansNotices p x u); exact k
@[simp] theorem Part.placeOn_supply (p : Port) (x : Notice) (u : Part) : (u.placeOn p x).supply = u.supply := by have k := congrArg Part.supply (Part.placeOn_sansNotices p x u); exact k
@[simp] theorem Part.placeOn_tamper (p : Port) (x : Notice) (u : Part) : (u.placeOn p x).tamper = u.tamper := by have k := congrArg Part.tamper (Part.placeOn_sansNotices p x u); exact k
@[simp] theorem Part.placeOn_checkpointDue (p : Port) (x : Notice) (u : Part) : (u.placeOn p x).checkpointDue = u.checkpointDue := by have k := congrArg Part.checkpointDue (Part.placeOn_sansNotices p x u); exact k
@[simp] theorem Part.placeOn_store (p : Port) (x : Notice) (u : Part) : (u.placeOn p x).store = u.store := by have k := congrArg Part.store (Part.placeOn_sansNotices p x u); exact k
@[simp] theorem Part.placeOn_array (p : Port) (x : Notice) (u : Part) : (u.placeOn p x).array = u.array := by have k := congrArg Part.array (Part.placeOn_sansNotices p x u); exact k
@[simp] theorem Part.placeOn_openCoil (p : Port) (x : Notice) (u : Part) : (u.placeOn p x).outputs.openCoil = u.outputs.openCoil := by have k := congrArg (fun v => v.outputs.openCoil) (Part.placeOn_sansNotices p x u); exact k
@[simp] theorem Part.placeOn_closeCoil (p : Port) (x : Notice) (u : Part) : (u.placeOn p x).outputs.closeCoil = u.outputs.closeCoil := by have k := congrArg (fun v => v.outputs.closeCoil) (Part.placeOn_sansNotices p x u); exact k

/-! `placeIf` -/

@[simp] theorem Part.placeIf_power (b : Bool) (p : Port) (x : Notice) (u : Part) : (u.placeIf b p x).power = u.power := by have k := congrArg Part.power (Part.placeIf_sansNotices b p x u); exact k
@[simp] theorem Part.placeIf_lostMark (b : Bool) (p : Port) (x : Notice) (u : Part) : (u.placeIf b p x).lostMark = u.lostMark := by have k := congrArg Part.lostMark (Part.placeIf_sansNotices b p x u); exact k
@[simp] theorem Part.placeIf_lifecycle (b : Bool) (p : Port) (x : Notice) (u : Part) : (u.placeIf b p x).lifecycle = u.lifecycle := by have k := congrArg Part.lifecycle (Part.placeIf_sansNotices b p x u); exact k
@[simp] theorem Part.placeIf_timeBase (b : Bool) (p : Port) (x : Notice) (u : Part) : (u.placeIf b p x).timeBase = u.timeBase := by have k := congrArg Part.timeBase (Part.placeIf_sansNotices b p x u); exact k
@[simp] theorem Part.placeIf_clock (b : Bool) (p : Port) (x : Notice) (u : Part) : (u.placeIf b p x).clock = u.clock := by have k := congrArg Part.clock (Part.placeIf_sansNotices b p x u); exact k
@[simp] theorem Part.placeIf_inputs (b : Bool) (p : Port) (x : Notice) (u : Part) : (u.placeIf b p x).inputs = u.inputs := by have k := congrArg Part.inputs (Part.placeIf_sansNotices b p x u); exact k
@[simp] theorem Part.placeIf_accountCauses (b : Bool) (p : Port) (x : Notice) (u : Part) : (u.placeIf b p x).accountCauses = u.accountCauses := by have k := congrArg Part.accountCauses (Part.placeIf_sansNotices b p x u); exact k
@[simp] theorem Part.placeIf_pulse (b : Bool) (p : Port) (x : Notice) (u : Part) : (u.placeIf b p x).pulse = u.pulse := by have k := congrArg Part.pulse (Part.placeIf_sansNotices b p x u); exact k
@[simp] theorem Part.placeIf_recon (b : Bool) (p : Port) (x : Notice) (u : Part) : (u.placeIf b p x).recon = u.recon := by have k := congrArg Part.recon (Part.placeIf_sansNotices b p x u); exact k
@[simp] theorem Part.placeIf_tariff (b : Bool) (p : Port) (x : Notice) (u : Part) : (u.placeIf b p x).tariff = u.tariff := by have k := congrArg Part.tariff (Part.placeIf_sansNotices b p x u); exact k
@[simp] theorem Part.placeIf_codes (b : Bool) (p : Port) (x : Notice) (u : Part) : (u.placeIf b p x).codes = u.codes := by have k := congrArg Part.codes (Part.placeIf_sansNotices b p x u); exact k
@[simp] theorem Part.placeIf_load (b : Bool) (p : Port) (x : Notice) (u : Part) : (u.placeIf b p x).load = u.load := by have k := congrArg Part.load (Part.placeIf_sansNotices b p x u); exact k
@[simp] theorem Part.placeIf_config (b : Bool) (p : Port) (x : Notice) (u : Part) : (u.placeIf b p x).config = u.config := by have k := congrArg Part.config (Part.placeIf_sansNotices b p x u); exact k
@[simp] theorem Part.placeIf_receivers (b : Bool) (p : Port) (x : Notice) (u : Part) : (u.placeIf b p x).receivers = u.receivers := by have k := congrArg Part.receivers (Part.placeIf_sansNotices b p x u); exact k
@[simp] theorem Part.placeIf_links (b : Bool) (p : Port) (x : Notice) (u : Part) : (u.placeIf b p x).links = u.links := by have k := congrArg Part.links (Part.placeIf_sansNotices b p x u); exact k
@[simp] theorem Part.placeIf_overtaken (b : Bool) (p : Port) (x : Notice) (u : Part) : (u.placeIf b p x).overtaken = u.overtaken := by have k := congrArg Part.overtaken (Part.placeIf_sansNotices b p x u); exact k
@[simp] theorem Part.placeIf_account (b : Bool) (p : Port) (x : Notice) (u : Part) : (u.placeIf b p x).account = u.account := by have k := congrArg Part.account (Part.placeIf_sansNotices b p x u); exact k
@[simp] theorem Part.placeIf_supply (b : Bool) (p : Port) (x : Notice) (u : Part) : (u.placeIf b p x).supply = u.supply := by have k := congrArg Part.supply (Part.placeIf_sansNotices b p x u); exact k
@[simp] theorem Part.placeIf_tamper (b : Bool) (p : Port) (x : Notice) (u : Part) : (u.placeIf b p x).tamper = u.tamper := by have k := congrArg Part.tamper (Part.placeIf_sansNotices b p x u); exact k
@[simp] theorem Part.placeIf_checkpointDue (b : Bool) (p : Port) (x : Notice) (u : Part) : (u.placeIf b p x).checkpointDue = u.checkpointDue := by have k := congrArg Part.checkpointDue (Part.placeIf_sansNotices b p x u); exact k
@[simp] theorem Part.placeIf_store (b : Bool) (p : Port) (x : Notice) (u : Part) : (u.placeIf b p x).store = u.store := by have k := congrArg Part.store (Part.placeIf_sansNotices b p x u); exact k
@[simp] theorem Part.placeIf_array (b : Bool) (p : Port) (x : Notice) (u : Part) : (u.placeIf b p x).array = u.array := by have k := congrArg Part.array (Part.placeIf_sansNotices b p x u); exact k
@[simp] theorem Part.placeIf_openCoil (b : Bool) (p : Port) (x : Notice) (u : Part) : (u.placeIf b p x).outputs.openCoil = u.outputs.openCoil := by have k := congrArg (fun v => v.outputs.openCoil) (Part.placeIf_sansNotices b p x u); exact k
@[simp] theorem Part.placeIf_closeCoil (b : Bool) (p : Port) (x : Notice) (u : Part) : (u.placeIf b p x).outputs.closeCoil = u.outputs.closeCoil := by have k := congrArg (fun v => v.outputs.closeCoil) (Part.placeIf_sansNotices b p x u); exact k

/-! `place` -/

@[simp] theorem Part.place_power (x : Notice) (u : Part) : (u.place x).power = u.power := by have k := congrArg Part.power (Part.place_sansNotices x u); exact k
@[simp] theorem Part.place_lostMark (x : Notice) (u : Part) : (u.place x).lostMark = u.lostMark := by have k := congrArg Part.lostMark (Part.place_sansNotices x u); exact k
@[simp] theorem Part.place_lifecycle (x : Notice) (u : Part) : (u.place x).lifecycle = u.lifecycle := by have k := congrArg Part.lifecycle (Part.place_sansNotices x u); exact k
@[simp] theorem Part.place_timeBase (x : Notice) (u : Part) : (u.place x).timeBase = u.timeBase := by have k := congrArg Part.timeBase (Part.place_sansNotices x u); exact k
@[simp] theorem Part.place_clock (x : Notice) (u : Part) : (u.place x).clock = u.clock := by have k := congrArg Part.clock (Part.place_sansNotices x u); exact k
@[simp] theorem Part.place_inputs (x : Notice) (u : Part) : (u.place x).inputs = u.inputs := by have k := congrArg Part.inputs (Part.place_sansNotices x u); exact k
@[simp] theorem Part.place_accountCauses (x : Notice) (u : Part) : (u.place x).accountCauses = u.accountCauses := by have k := congrArg Part.accountCauses (Part.place_sansNotices x u); exact k
@[simp] theorem Part.place_pulse (x : Notice) (u : Part) : (u.place x).pulse = u.pulse := by have k := congrArg Part.pulse (Part.place_sansNotices x u); exact k
@[simp] theorem Part.place_recon (x : Notice) (u : Part) : (u.place x).recon = u.recon := by have k := congrArg Part.recon (Part.place_sansNotices x u); exact k
@[simp] theorem Part.place_tariff (x : Notice) (u : Part) : (u.place x).tariff = u.tariff := by have k := congrArg Part.tariff (Part.place_sansNotices x u); exact k
@[simp] theorem Part.place_codes (x : Notice) (u : Part) : (u.place x).codes = u.codes := by have k := congrArg Part.codes (Part.place_sansNotices x u); exact k
@[simp] theorem Part.place_load (x : Notice) (u : Part) : (u.place x).load = u.load := by have k := congrArg Part.load (Part.place_sansNotices x u); exact k
@[simp] theorem Part.place_config (x : Notice) (u : Part) : (u.place x).config = u.config := by have k := congrArg Part.config (Part.place_sansNotices x u); exact k
@[simp] theorem Part.place_receivers (x : Notice) (u : Part) : (u.place x).receivers = u.receivers := by have k := congrArg Part.receivers (Part.place_sansNotices x u); exact k
@[simp] theorem Part.place_links (x : Notice) (u : Part) : (u.place x).links = u.links := by have k := congrArg Part.links (Part.place_sansNotices x u); exact k
@[simp] theorem Part.place_overtaken (x : Notice) (u : Part) : (u.place x).overtaken = u.overtaken := by have k := congrArg Part.overtaken (Part.place_sansNotices x u); exact k
@[simp] theorem Part.place_account (x : Notice) (u : Part) : (u.place x).account = u.account := by have k := congrArg Part.account (Part.place_sansNotices x u); exact k
@[simp] theorem Part.place_supply (x : Notice) (u : Part) : (u.place x).supply = u.supply := by have k := congrArg Part.supply (Part.place_sansNotices x u); exact k
@[simp] theorem Part.place_tamper (x : Notice) (u : Part) : (u.place x).tamper = u.tamper := by have k := congrArg Part.tamper (Part.place_sansNotices x u); exact k
@[simp] theorem Part.place_checkpointDue (x : Notice) (u : Part) : (u.place x).checkpointDue = u.checkpointDue := by have k := congrArg Part.checkpointDue (Part.place_sansNotices x u); exact k
@[simp] theorem Part.place_store (x : Notice) (u : Part) : (u.place x).store = u.store := by have k := congrArg Part.store (Part.place_sansNotices x u); exact k
@[simp] theorem Part.place_array (x : Notice) (u : Part) : (u.place x).array = u.array := by have k := congrArg Part.array (Part.place_sansNotices x u); exact k
@[simp] theorem Part.place_openCoil (x : Notice) (u : Part) : (u.place x).outputs.openCoil = u.outputs.openCoil := by have k := congrArg (fun v => v.outputs.openCoil) (Part.place_sansNotices x u); exact k
@[simp] theorem Part.place_closeCoil (x : Notice) (u : Part) : (u.place x).outputs.closeCoil = u.outputs.closeCoil := by have k := congrArg (fun v => v.outputs.closeCoil) (Part.place_sansNotices x u); exact k

/-! `putRecord` -/

@[simp] theorem Part.putRecord_power (c : TamperCause) (r : TamperRecord) (u : Part) : (u.putRecord c r).power = u.power := by have k := congrArg Part.power (Part.putRecord_core c r u); exact k
@[simp] theorem Part.putRecord_lostMark (c : TamperCause) (r : TamperRecord) (u : Part) : (u.putRecord c r).lostMark = u.lostMark := by have k := congrArg Part.lostMark (Part.putRecord_core c r u); exact k
@[simp] theorem Part.putRecord_lifecycle (c : TamperCause) (r : TamperRecord) (u : Part) : (u.putRecord c r).lifecycle = u.lifecycle := by have k := congrArg Part.lifecycle (Part.putRecord_core c r u); exact k
@[simp] theorem Part.putRecord_timeBase (c : TamperCause) (r : TamperRecord) (u : Part) : (u.putRecord c r).timeBase = u.timeBase := by have k := congrArg Part.timeBase (Part.putRecord_core c r u); exact k
@[simp] theorem Part.putRecord_clock (c : TamperCause) (r : TamperRecord) (u : Part) : (u.putRecord c r).clock = u.clock := by have k := congrArg Part.clock (Part.putRecord_core c r u); exact k
@[simp] theorem Part.putRecord_inputs (c : TamperCause) (r : TamperRecord) (u : Part) : (u.putRecord c r).inputs = u.inputs := by have k := congrArg Part.inputs (Part.putRecord_core c r u); exact k
@[simp] theorem Part.putRecord_accountCauses (c : TamperCause) (r : TamperRecord) (u : Part) : (u.putRecord c r).accountCauses = u.accountCauses := by have k := congrArg Part.accountCauses (Part.putRecord_core c r u); exact k
@[simp] theorem Part.putRecord_pulse (c : TamperCause) (r : TamperRecord) (u : Part) : (u.putRecord c r).pulse = u.pulse := by have k := congrArg Part.pulse (Part.putRecord_core c r u); exact k
@[simp] theorem Part.putRecord_recon (c : TamperCause) (r : TamperRecord) (u : Part) : (u.putRecord c r).recon = u.recon := by have k := congrArg Part.recon (Part.putRecord_core c r u); exact k
@[simp] theorem Part.putRecord_tariff (c : TamperCause) (r : TamperRecord) (u : Part) : (u.putRecord c r).tariff = u.tariff := by have k := congrArg Part.tariff (Part.putRecord_core c r u); exact k
@[simp] theorem Part.putRecord_codes (c : TamperCause) (r : TamperRecord) (u : Part) : (u.putRecord c r).codes = u.codes := by have k := congrArg Part.codes (Part.putRecord_core c r u); exact k
@[simp] theorem Part.putRecord_load (c : TamperCause) (r : TamperRecord) (u : Part) : (u.putRecord c r).load = u.load := by have k := congrArg Part.load (Part.putRecord_core c r u); exact k
@[simp] theorem Part.putRecord_config (c : TamperCause) (r : TamperRecord) (u : Part) : (u.putRecord c r).config = u.config := by have k := congrArg Part.config (Part.putRecord_core c r u); exact k
@[simp] theorem Part.putRecord_receivers (c : TamperCause) (r : TamperRecord) (u : Part) : (u.putRecord c r).receivers = u.receivers := by have k := congrArg Part.receivers (Part.putRecord_core c r u); exact k
@[simp] theorem Part.putRecord_links (c : TamperCause) (r : TamperRecord) (u : Part) : (u.putRecord c r).links = u.links := by have k := congrArg Part.links (Part.putRecord_core c r u); exact k
@[simp] theorem Part.putRecord_overtaken (c : TamperCause) (r : TamperRecord) (u : Part) : (u.putRecord c r).overtaken = u.overtaken := by have k := congrArg Part.overtaken (Part.putRecord_core c r u); exact k
@[simp] theorem Part.putRecord_balance (c : TamperCause) (r : TamperRecord) (u : Part) : (u.putRecord c r).account.balance = u.account.balance := by have k := congrArg (fun v => v.account.balance) (Part.putRecord_core c r u); exact k
@[simp] theorem Part.putRecord_residue (c : TamperCause) (r : TamperRecord) (u : Part) : (u.putRecord c r).account.residue = u.account.residue := by have k := congrArg (fun v => v.account.residue) (Part.putRecord_core c r u); exact k
@[simp] theorem Part.putRecord_ecOwed (c : TamperCause) (r : TamperRecord) (u : Part) : (u.putRecord c r).account.ecOwed = u.account.ecOwed := by have k := congrArg (fun v => v.account.ecOwed) (Part.putRecord_core c r u); exact k
@[simp] theorem Part.putRecord_debt (c : TamperCause) (r : TamperRecord) (u : Part) : (u.putRecord c r).account.debt = u.account.debt := by have k := congrArg (fun v => v.account.debt) (Part.putRecord_core c r u); exact k
@[simp] theorem Part.putRecord_debtRate (c : TamperCause) (r : TamperRecord) (u : Part) : (u.putRecord c r).account.debtRate = u.account.debtRate := by have k := congrArg (fun v => v.account.debtRate) (Part.putRecord_core c r u); exact k
@[simp] theorem Part.putRecord_creditState (c : TamperCause) (r : TamperRecord) (u : Part) : (u.putRecord c r).account.creditState = u.account.creditState := by have k := congrArg (fun v => v.account.creditState) (Part.putRecord_core c r u); exact k
@[simp] theorem Part.putRecord_ecAvailable (c : TamperCause) (r : TamperRecord) (u : Part) : (u.putRecord c r).account.ecAvailable = u.account.ecAvailable := by have k := congrArg (fun v => v.account.ecAvailable) (Part.putRecord_core c r u); exact k
@[simp] theorem Part.putRecord_money (c : TamperCause) (r : TamperRecord) (u : Part) : (u.putRecord c r).account.money = u.account.money := by have k := congrArg (fun v => v.account) (Part.putRecord_core c r u); exact k
@[simp] theorem Part.putRecord_openCoil (c : TamperCause) (r : TamperRecord) (u : Part) : (u.putRecord c r).outputs.openCoil = u.outputs.openCoil := by have k := congrArg (fun v => v.outputs.openCoil) (Part.putRecord_core c r u); exact k
@[simp] theorem Part.putRecord_closeCoil (c : TamperCause) (r : TamperRecord) (u : Part) : (u.putRecord c r).outputs.closeCoil = u.outputs.closeCoil := by have k := congrArg (fun v => v.outputs.closeCoil) (Part.putRecord_core c r u); exact k

/-! `putLogical` -/

@[simp] theorem Part.putLogical_power (l : Logical) (u : Part) : (u.putLogical l).power = u.power := by have k := congrArg Part.power (Part.putLogical_core l u); exact k
@[simp] theorem Part.putLogical_lostMark (l : Logical) (u : Part) : (u.putLogical l).lostMark = u.lostMark := by have k := congrArg Part.lostMark (Part.putLogical_core l u); exact k
@[simp] theorem Part.putLogical_lifecycle (l : Logical) (u : Part) : (u.putLogical l).lifecycle = u.lifecycle := by have k := congrArg Part.lifecycle (Part.putLogical_core l u); exact k
@[simp] theorem Part.putLogical_timeBase (l : Logical) (u : Part) : (u.putLogical l).timeBase = u.timeBase := by have k := congrArg Part.timeBase (Part.putLogical_core l u); exact k
@[simp] theorem Part.putLogical_clock (l : Logical) (u : Part) : (u.putLogical l).clock = u.clock := by have k := congrArg Part.clock (Part.putLogical_core l u); exact k
@[simp] theorem Part.putLogical_inputs (l : Logical) (u : Part) : (u.putLogical l).inputs = u.inputs := by have k := congrArg Part.inputs (Part.putLogical_core l u); exact k
@[simp] theorem Part.putLogical_accountCauses (l : Logical) (u : Part) : (u.putLogical l).accountCauses = u.accountCauses := by have k := congrArg Part.accountCauses (Part.putLogical_core l u); exact k
@[simp] theorem Part.putLogical_pulse (l : Logical) (u : Part) : (u.putLogical l).pulse = u.pulse := by have k := congrArg Part.pulse (Part.putLogical_core l u); exact k
@[simp] theorem Part.putLogical_recon (l : Logical) (u : Part) : (u.putLogical l).recon = u.recon := by have k := congrArg Part.recon (Part.putLogical_core l u); exact k
@[simp] theorem Part.putLogical_tariff (l : Logical) (u : Part) : (u.putLogical l).tariff = u.tariff := by have k := congrArg Part.tariff (Part.putLogical_core l u); exact k
@[simp] theorem Part.putLogical_codes (l : Logical) (u : Part) : (u.putLogical l).codes = u.codes := by have k := congrArg Part.codes (Part.putLogical_core l u); exact k
@[simp] theorem Part.putLogical_load (l : Logical) (u : Part) : (u.putLogical l).load = u.load := by have k := congrArg Part.load (Part.putLogical_core l u); exact k
@[simp] theorem Part.putLogical_config (l : Logical) (u : Part) : (u.putLogical l).config = u.config := by have k := congrArg Part.config (Part.putLogical_core l u); exact k
@[simp] theorem Part.putLogical_receivers (l : Logical) (u : Part) : (u.putLogical l).receivers = u.receivers := by have k := congrArg Part.receivers (Part.putLogical_core l u); exact k
@[simp] theorem Part.putLogical_links (l : Logical) (u : Part) : (u.putLogical l).links = u.links := by have k := congrArg Part.links (Part.putLogical_core l u); exact k
@[simp] theorem Part.putLogical_overtaken (l : Logical) (u : Part) : (u.putLogical l).overtaken = u.overtaken := by have k := congrArg Part.overtaken (Part.putLogical_core l u); exact k
@[simp] theorem Part.putLogical_balance (l : Logical) (u : Part) : (u.putLogical l).account.balance = u.account.balance := by have k := congrArg (fun v => v.account.balance) (Part.putLogical_core l u); exact k
@[simp] theorem Part.putLogical_residue (l : Logical) (u : Part) : (u.putLogical l).account.residue = u.account.residue := by have k := congrArg (fun v => v.account.residue) (Part.putLogical_core l u); exact k
@[simp] theorem Part.putLogical_ecOwed (l : Logical) (u : Part) : (u.putLogical l).account.ecOwed = u.account.ecOwed := by have k := congrArg (fun v => v.account.ecOwed) (Part.putLogical_core l u); exact k
@[simp] theorem Part.putLogical_debt (l : Logical) (u : Part) : (u.putLogical l).account.debt = u.account.debt := by have k := congrArg (fun v => v.account.debt) (Part.putLogical_core l u); exact k
@[simp] theorem Part.putLogical_debtRate (l : Logical) (u : Part) : (u.putLogical l).account.debtRate = u.account.debtRate := by have k := congrArg (fun v => v.account.debtRate) (Part.putLogical_core l u); exact k
@[simp] theorem Part.putLogical_creditState (l : Logical) (u : Part) : (u.putLogical l).account.creditState = u.account.creditState := by have k := congrArg (fun v => v.account.creditState) (Part.putLogical_core l u); exact k
@[simp] theorem Part.putLogical_ecAvailable (l : Logical) (u : Part) : (u.putLogical l).account.ecAvailable = u.account.ecAvailable := by have k := congrArg (fun v => v.account.ecAvailable) (Part.putLogical_core l u); exact k
@[simp] theorem Part.putLogical_money (l : Logical) (u : Part) : (u.putLogical l).account.money = u.account.money := by have k := congrArg (fun v => v.account) (Part.putLogical_core l u); exact k
@[simp] theorem Part.putLogical_openCoil (l : Logical) (u : Part) : (u.putLogical l).outputs.openCoil = u.outputs.openCoil := by have k := congrArg (fun v => v.outputs.openCoil) (Part.putLogical_core l u); exact k
@[simp] theorem Part.putLogical_closeCoil (l : Logical) (u : Part) : (u.putLogical l).outputs.closeCoil = u.outputs.closeCoil := by have k := congrArg (fun v => v.outputs.closeCoil) (Part.putLogical_core l u); exact k

/-! `settleRelay` -/

@[simp] theorem Part.settleRelay_power (st : Settled) (u : Part) : (u.settleRelay st).power = u.power := by have k := congrArg Part.power (Part.settleRelay_core st u); exact k
@[simp] theorem Part.settleRelay_lostMark (st : Settled) (u : Part) : (u.settleRelay st).lostMark = u.lostMark := by have k := congrArg Part.lostMark (Part.settleRelay_core st u); exact k
@[simp] theorem Part.settleRelay_lifecycle (st : Settled) (u : Part) : (u.settleRelay st).lifecycle = u.lifecycle := by have k := congrArg Part.lifecycle (Part.settleRelay_core st u); exact k
@[simp] theorem Part.settleRelay_timeBase (st : Settled) (u : Part) : (u.settleRelay st).timeBase = u.timeBase := by have k := congrArg Part.timeBase (Part.settleRelay_core st u); exact k
@[simp] theorem Part.settleRelay_clock (st : Settled) (u : Part) : (u.settleRelay st).clock = u.clock := by have k := congrArg Part.clock (Part.settleRelay_core st u); exact k
@[simp] theorem Part.settleRelay_inputs (st : Settled) (u : Part) : (u.settleRelay st).inputs = u.inputs := by have k := congrArg Part.inputs (Part.settleRelay_core st u); exact k
@[simp] theorem Part.settleRelay_accountCauses (st : Settled) (u : Part) : (u.settleRelay st).accountCauses = u.accountCauses := by have k := congrArg Part.accountCauses (Part.settleRelay_core st u); exact k
@[simp] theorem Part.settleRelay_pulse (st : Settled) (u : Part) : (u.settleRelay st).pulse = u.pulse := by have k := congrArg Part.pulse (Part.settleRelay_core st u); exact k
@[simp] theorem Part.settleRelay_recon (st : Settled) (u : Part) : (u.settleRelay st).recon = u.recon := by have k := congrArg Part.recon (Part.settleRelay_core st u); exact k
@[simp] theorem Part.settleRelay_tariff (st : Settled) (u : Part) : (u.settleRelay st).tariff = u.tariff := by have k := congrArg Part.tariff (Part.settleRelay_core st u); exact k
@[simp] theorem Part.settleRelay_codes (st : Settled) (u : Part) : (u.settleRelay st).codes = u.codes := by have k := congrArg Part.codes (Part.settleRelay_core st u); exact k
@[simp] theorem Part.settleRelay_load (st : Settled) (u : Part) : (u.settleRelay st).load = u.load := by have k := congrArg Part.load (Part.settleRelay_core st u); exact k
@[simp] theorem Part.settleRelay_config (st : Settled) (u : Part) : (u.settleRelay st).config = u.config := by have k := congrArg Part.config (Part.settleRelay_core st u); exact k
@[simp] theorem Part.settleRelay_receivers (st : Settled) (u : Part) : (u.settleRelay st).receivers = u.receivers := by have k := congrArg Part.receivers (Part.settleRelay_core st u); exact k
@[simp] theorem Part.settleRelay_links (st : Settled) (u : Part) : (u.settleRelay st).links = u.links := by have k := congrArg Part.links (Part.settleRelay_core st u); exact k
@[simp] theorem Part.settleRelay_overtaken (st : Settled) (u : Part) : (u.settleRelay st).overtaken = u.overtaken := by have k := congrArg Part.overtaken (Part.settleRelay_core st u); exact k
@[simp] theorem Part.settleRelay_balance (st : Settled) (u : Part) : (u.settleRelay st).account.balance = u.account.balance := by have k := congrArg (fun v => v.account.balance) (Part.settleRelay_core st u); exact k
@[simp] theorem Part.settleRelay_residue (st : Settled) (u : Part) : (u.settleRelay st).account.residue = u.account.residue := by have k := congrArg (fun v => v.account.residue) (Part.settleRelay_core st u); exact k
@[simp] theorem Part.settleRelay_ecOwed (st : Settled) (u : Part) : (u.settleRelay st).account.ecOwed = u.account.ecOwed := by have k := congrArg (fun v => v.account.ecOwed) (Part.settleRelay_core st u); exact k
@[simp] theorem Part.settleRelay_debt (st : Settled) (u : Part) : (u.settleRelay st).account.debt = u.account.debt := by have k := congrArg (fun v => v.account.debt) (Part.settleRelay_core st u); exact k
@[simp] theorem Part.settleRelay_debtRate (st : Settled) (u : Part) : (u.settleRelay st).account.debtRate = u.account.debtRate := by have k := congrArg (fun v => v.account.debtRate) (Part.settleRelay_core st u); exact k
@[simp] theorem Part.settleRelay_creditState (st : Settled) (u : Part) : (u.settleRelay st).account.creditState = u.account.creditState := by have k := congrArg (fun v => v.account.creditState) (Part.settleRelay_core st u); exact k
@[simp] theorem Part.settleRelay_ecAvailable (st : Settled) (u : Part) : (u.settleRelay st).account.ecAvailable = u.account.ecAvailable := by have k := congrArg (fun v => v.account.ecAvailable) (Part.settleRelay_core st u); exact k
@[simp] theorem Part.settleRelay_money (st : Settled) (u : Part) : (u.settleRelay st).account.money = u.account.money := by have k := congrArg (fun v => v.account) (Part.settleRelay_core st u); exact k
@[simp] theorem Part.settleRelay_openCoil (st : Settled) (u : Part) : (u.settleRelay st).outputs.openCoil = u.outputs.openCoil := by have k := congrArg (fun v => v.outputs.openCoil) (Part.settleRelay_core st u); exact k
@[simp] theorem Part.settleRelay_closeCoil (st : Settled) (u : Part) : (u.settleRelay st).outputs.closeCoil = u.outputs.closeCoil := by have k := congrArg (fun v => v.outputs.closeCoil) (Part.settleRelay_core st u); exact k

/-! `conditionEnds` -/

@[simp] theorem Part.conditionEnds_power (c : TamperCause) (u : Part) : (u.conditionEnds c).power = u.power := by have k := congrArg Part.power (Part.conditionEnds_core c u); exact k
@[simp] theorem Part.conditionEnds_lostMark (c : TamperCause) (u : Part) : (u.conditionEnds c).lostMark = u.lostMark := by have k := congrArg Part.lostMark (Part.conditionEnds_core c u); exact k
@[simp] theorem Part.conditionEnds_lifecycle (c : TamperCause) (u : Part) : (u.conditionEnds c).lifecycle = u.lifecycle := by have k := congrArg Part.lifecycle (Part.conditionEnds_core c u); exact k
@[simp] theorem Part.conditionEnds_timeBase (c : TamperCause) (u : Part) : (u.conditionEnds c).timeBase = u.timeBase := by have k := congrArg Part.timeBase (Part.conditionEnds_core c u); exact k
@[simp] theorem Part.conditionEnds_clock (c : TamperCause) (u : Part) : (u.conditionEnds c).clock = u.clock := by have k := congrArg Part.clock (Part.conditionEnds_core c u); exact k
@[simp] theorem Part.conditionEnds_inputs (c : TamperCause) (u : Part) : (u.conditionEnds c).inputs = u.inputs := by have k := congrArg Part.inputs (Part.conditionEnds_core c u); exact k
@[simp] theorem Part.conditionEnds_accountCauses (c : TamperCause) (u : Part) : (u.conditionEnds c).accountCauses = u.accountCauses := by have k := congrArg Part.accountCauses (Part.conditionEnds_core c u); exact k
@[simp] theorem Part.conditionEnds_pulse (c : TamperCause) (u : Part) : (u.conditionEnds c).pulse = u.pulse := by have k := congrArg Part.pulse (Part.conditionEnds_core c u); exact k
@[simp] theorem Part.conditionEnds_recon (c : TamperCause) (u : Part) : (u.conditionEnds c).recon = u.recon := by have k := congrArg Part.recon (Part.conditionEnds_core c u); exact k
@[simp] theorem Part.conditionEnds_tariff (c : TamperCause) (u : Part) : (u.conditionEnds c).tariff = u.tariff := by have k := congrArg Part.tariff (Part.conditionEnds_core c u); exact k
@[simp] theorem Part.conditionEnds_codes (c : TamperCause) (u : Part) : (u.conditionEnds c).codes = u.codes := by have k := congrArg Part.codes (Part.conditionEnds_core c u); exact k
@[simp] theorem Part.conditionEnds_load (c : TamperCause) (u : Part) : (u.conditionEnds c).load = u.load := by have k := congrArg Part.load (Part.conditionEnds_core c u); exact k
@[simp] theorem Part.conditionEnds_config (c : TamperCause) (u : Part) : (u.conditionEnds c).config = u.config := by have k := congrArg Part.config (Part.conditionEnds_core c u); exact k
@[simp] theorem Part.conditionEnds_receivers (c : TamperCause) (u : Part) : (u.conditionEnds c).receivers = u.receivers := by have k := congrArg Part.receivers (Part.conditionEnds_core c u); exact k
@[simp] theorem Part.conditionEnds_links (c : TamperCause) (u : Part) : (u.conditionEnds c).links = u.links := by have k := congrArg Part.links (Part.conditionEnds_core c u); exact k
@[simp] theorem Part.conditionEnds_overtaken (c : TamperCause) (u : Part) : (u.conditionEnds c).overtaken = u.overtaken := by have k := congrArg Part.overtaken (Part.conditionEnds_core c u); exact k
@[simp] theorem Part.conditionEnds_balance (c : TamperCause) (u : Part) : (u.conditionEnds c).account.balance = u.account.balance := by have k := congrArg (fun v => v.account.balance) (Part.conditionEnds_core c u); exact k
@[simp] theorem Part.conditionEnds_residue (c : TamperCause) (u : Part) : (u.conditionEnds c).account.residue = u.account.residue := by have k := congrArg (fun v => v.account.residue) (Part.conditionEnds_core c u); exact k
@[simp] theorem Part.conditionEnds_ecOwed (c : TamperCause) (u : Part) : (u.conditionEnds c).account.ecOwed = u.account.ecOwed := by have k := congrArg (fun v => v.account.ecOwed) (Part.conditionEnds_core c u); exact k
@[simp] theorem Part.conditionEnds_debt (c : TamperCause) (u : Part) : (u.conditionEnds c).account.debt = u.account.debt := by have k := congrArg (fun v => v.account.debt) (Part.conditionEnds_core c u); exact k
@[simp] theorem Part.conditionEnds_debtRate (c : TamperCause) (u : Part) : (u.conditionEnds c).account.debtRate = u.account.debtRate := by have k := congrArg (fun v => v.account.debtRate) (Part.conditionEnds_core c u); exact k
@[simp] theorem Part.conditionEnds_creditState (c : TamperCause) (u : Part) : (u.conditionEnds c).account.creditState = u.account.creditState := by have k := congrArg (fun v => v.account.creditState) (Part.conditionEnds_core c u); exact k
@[simp] theorem Part.conditionEnds_ecAvailable (c : TamperCause) (u : Part) : (u.conditionEnds c).account.ecAvailable = u.account.ecAvailable := by have k := congrArg (fun v => v.account.ecAvailable) (Part.conditionEnds_core c u); exact k
@[simp] theorem Part.conditionEnds_money (c : TamperCause) (u : Part) : (u.conditionEnds c).account.money = u.account.money := by have k := congrArg (fun v => v.account) (Part.conditionEnds_core c u); exact k
@[simp] theorem Part.conditionEnds_openCoil (c : TamperCause) (u : Part) : (u.conditionEnds c).outputs.openCoil = u.outputs.openCoil := by have k := congrArg (fun v => v.outputs.openCoil) (Part.conditionEnds_core c u); exact k
@[simp] theorem Part.conditionEnds_closeCoil (c : TamperCause) (u : Part) : (u.conditionEnds c).outputs.closeCoil = u.outputs.closeCoil := by have k := congrArg (fun v => v.outputs.closeCoil) (Part.conditionEnds_core c u); exact k

/-! `becomePresent` -/

@[simp] theorem Part.becomePresent_power (c : TamperCause) (u : Part) : (u.becomePresent c).power = u.power := by have k := congrArg Part.power (Part.becomePresent_core c u); exact k
@[simp] theorem Part.becomePresent_lostMark (c : TamperCause) (u : Part) : (u.becomePresent c).lostMark = u.lostMark := by have k := congrArg Part.lostMark (Part.becomePresent_core c u); exact k
@[simp] theorem Part.becomePresent_lifecycle (c : TamperCause) (u : Part) : (u.becomePresent c).lifecycle = u.lifecycle := by have k := congrArg Part.lifecycle (Part.becomePresent_core c u); exact k
@[simp] theorem Part.becomePresent_timeBase (c : TamperCause) (u : Part) : (u.becomePresent c).timeBase = u.timeBase := by have k := congrArg Part.timeBase (Part.becomePresent_core c u); exact k
@[simp] theorem Part.becomePresent_clock (c : TamperCause) (u : Part) : (u.becomePresent c).clock = u.clock := by have k := congrArg Part.clock (Part.becomePresent_core c u); exact k
@[simp] theorem Part.becomePresent_inputs (c : TamperCause) (u : Part) : (u.becomePresent c).inputs = u.inputs := by have k := congrArg Part.inputs (Part.becomePresent_core c u); exact k
@[simp] theorem Part.becomePresent_accountCauses (c : TamperCause) (u : Part) : (u.becomePresent c).accountCauses = u.accountCauses := by have k := congrArg Part.accountCauses (Part.becomePresent_core c u); exact k
@[simp] theorem Part.becomePresent_pulse (c : TamperCause) (u : Part) : (u.becomePresent c).pulse = u.pulse := by have k := congrArg Part.pulse (Part.becomePresent_core c u); exact k
@[simp] theorem Part.becomePresent_recon (c : TamperCause) (u : Part) : (u.becomePresent c).recon = u.recon := by have k := congrArg Part.recon (Part.becomePresent_core c u); exact k
@[simp] theorem Part.becomePresent_tariff (c : TamperCause) (u : Part) : (u.becomePresent c).tariff = u.tariff := by have k := congrArg Part.tariff (Part.becomePresent_core c u); exact k
@[simp] theorem Part.becomePresent_codes (c : TamperCause) (u : Part) : (u.becomePresent c).codes = u.codes := by have k := congrArg Part.codes (Part.becomePresent_core c u); exact k
@[simp] theorem Part.becomePresent_load (c : TamperCause) (u : Part) : (u.becomePresent c).load = u.load := by have k := congrArg Part.load (Part.becomePresent_core c u); exact k
@[simp] theorem Part.becomePresent_config (c : TamperCause) (u : Part) : (u.becomePresent c).config = u.config := by have k := congrArg Part.config (Part.becomePresent_core c u); exact k
@[simp] theorem Part.becomePresent_receivers (c : TamperCause) (u : Part) : (u.becomePresent c).receivers = u.receivers := by have k := congrArg Part.receivers (Part.becomePresent_core c u); exact k
@[simp] theorem Part.becomePresent_links (c : TamperCause) (u : Part) : (u.becomePresent c).links = u.links := by have k := congrArg Part.links (Part.becomePresent_core c u); exact k
@[simp] theorem Part.becomePresent_overtaken (c : TamperCause) (u : Part) : (u.becomePresent c).overtaken = u.overtaken := by have k := congrArg Part.overtaken (Part.becomePresent_core c u); exact k
@[simp] theorem Part.becomePresent_balance (c : TamperCause) (u : Part) : (u.becomePresent c).account.balance = u.account.balance := by have k := congrArg (fun v => v.account.balance) (Part.becomePresent_core c u); exact k
@[simp] theorem Part.becomePresent_residue (c : TamperCause) (u : Part) : (u.becomePresent c).account.residue = u.account.residue := by have k := congrArg (fun v => v.account.residue) (Part.becomePresent_core c u); exact k
@[simp] theorem Part.becomePresent_ecOwed (c : TamperCause) (u : Part) : (u.becomePresent c).account.ecOwed = u.account.ecOwed := by have k := congrArg (fun v => v.account.ecOwed) (Part.becomePresent_core c u); exact k
@[simp] theorem Part.becomePresent_debt (c : TamperCause) (u : Part) : (u.becomePresent c).account.debt = u.account.debt := by have k := congrArg (fun v => v.account.debt) (Part.becomePresent_core c u); exact k
@[simp] theorem Part.becomePresent_debtRate (c : TamperCause) (u : Part) : (u.becomePresent c).account.debtRate = u.account.debtRate := by have k := congrArg (fun v => v.account.debtRate) (Part.becomePresent_core c u); exact k
@[simp] theorem Part.becomePresent_creditState (c : TamperCause) (u : Part) : (u.becomePresent c).account.creditState = u.account.creditState := by have k := congrArg (fun v => v.account.creditState) (Part.becomePresent_core c u); exact k
@[simp] theorem Part.becomePresent_ecAvailable (c : TamperCause) (u : Part) : (u.becomePresent c).account.ecAvailable = u.account.ecAvailable := by have k := congrArg (fun v => v.account.ecAvailable) (Part.becomePresent_core c u); exact k
@[simp] theorem Part.becomePresent_money (c : TamperCause) (u : Part) : (u.becomePresent c).account.money = u.account.money := by have k := congrArg (fun v => v.account) (Part.becomePresent_core c u); exact k
@[simp] theorem Part.becomePresent_openCoil (c : TamperCause) (u : Part) : (u.becomePresent c).outputs.openCoil = u.outputs.openCoil := by have k := congrArg (fun v => v.outputs.openCoil) (Part.becomePresent_core c u); exact k
@[simp] theorem Part.becomePresent_closeCoil (c : TamperCause) (u : Part) : (u.becomePresent c).outputs.closeCoil = u.outputs.closeCoil := by have k := congrArg (fun v => v.outputs.closeCoil) (Part.becomePresent_core c u); exact k

/-! `becomeAbsent` -/

@[simp] theorem Part.becomeAbsent_power (c : TamperCause) (u : Part) : (u.becomeAbsent c).power = u.power := by have k := congrArg Part.power (Part.becomeAbsent_core c u); exact k
@[simp] theorem Part.becomeAbsent_lostMark (c : TamperCause) (u : Part) : (u.becomeAbsent c).lostMark = u.lostMark := by have k := congrArg Part.lostMark (Part.becomeAbsent_core c u); exact k
@[simp] theorem Part.becomeAbsent_lifecycle (c : TamperCause) (u : Part) : (u.becomeAbsent c).lifecycle = u.lifecycle := by have k := congrArg Part.lifecycle (Part.becomeAbsent_core c u); exact k
@[simp] theorem Part.becomeAbsent_timeBase (c : TamperCause) (u : Part) : (u.becomeAbsent c).timeBase = u.timeBase := by have k := congrArg Part.timeBase (Part.becomeAbsent_core c u); exact k
@[simp] theorem Part.becomeAbsent_clock (c : TamperCause) (u : Part) : (u.becomeAbsent c).clock = u.clock := by have k := congrArg Part.clock (Part.becomeAbsent_core c u); exact k
@[simp] theorem Part.becomeAbsent_inputs (c : TamperCause) (u : Part) : (u.becomeAbsent c).inputs = u.inputs := by have k := congrArg Part.inputs (Part.becomeAbsent_core c u); exact k
@[simp] theorem Part.becomeAbsent_accountCauses (c : TamperCause) (u : Part) : (u.becomeAbsent c).accountCauses = u.accountCauses := by have k := congrArg Part.accountCauses (Part.becomeAbsent_core c u); exact k
@[simp] theorem Part.becomeAbsent_pulse (c : TamperCause) (u : Part) : (u.becomeAbsent c).pulse = u.pulse := by have k := congrArg Part.pulse (Part.becomeAbsent_core c u); exact k
@[simp] theorem Part.becomeAbsent_recon (c : TamperCause) (u : Part) : (u.becomeAbsent c).recon = u.recon := by have k := congrArg Part.recon (Part.becomeAbsent_core c u); exact k
@[simp] theorem Part.becomeAbsent_tariff (c : TamperCause) (u : Part) : (u.becomeAbsent c).tariff = u.tariff := by have k := congrArg Part.tariff (Part.becomeAbsent_core c u); exact k
@[simp] theorem Part.becomeAbsent_codes (c : TamperCause) (u : Part) : (u.becomeAbsent c).codes = u.codes := by have k := congrArg Part.codes (Part.becomeAbsent_core c u); exact k
@[simp] theorem Part.becomeAbsent_load (c : TamperCause) (u : Part) : (u.becomeAbsent c).load = u.load := by have k := congrArg Part.load (Part.becomeAbsent_core c u); exact k
@[simp] theorem Part.becomeAbsent_config (c : TamperCause) (u : Part) : (u.becomeAbsent c).config = u.config := by have k := congrArg Part.config (Part.becomeAbsent_core c u); exact k
@[simp] theorem Part.becomeAbsent_receivers (c : TamperCause) (u : Part) : (u.becomeAbsent c).receivers = u.receivers := by have k := congrArg Part.receivers (Part.becomeAbsent_core c u); exact k
@[simp] theorem Part.becomeAbsent_links (c : TamperCause) (u : Part) : (u.becomeAbsent c).links = u.links := by have k := congrArg Part.links (Part.becomeAbsent_core c u); exact k
@[simp] theorem Part.becomeAbsent_overtaken (c : TamperCause) (u : Part) : (u.becomeAbsent c).overtaken = u.overtaken := by have k := congrArg Part.overtaken (Part.becomeAbsent_core c u); exact k
@[simp] theorem Part.becomeAbsent_balance (c : TamperCause) (u : Part) : (u.becomeAbsent c).account.balance = u.account.balance := by have k := congrArg (fun v => v.account.balance) (Part.becomeAbsent_core c u); exact k
@[simp] theorem Part.becomeAbsent_residue (c : TamperCause) (u : Part) : (u.becomeAbsent c).account.residue = u.account.residue := by have k := congrArg (fun v => v.account.residue) (Part.becomeAbsent_core c u); exact k
@[simp] theorem Part.becomeAbsent_ecOwed (c : TamperCause) (u : Part) : (u.becomeAbsent c).account.ecOwed = u.account.ecOwed := by have k := congrArg (fun v => v.account.ecOwed) (Part.becomeAbsent_core c u); exact k
@[simp] theorem Part.becomeAbsent_debt (c : TamperCause) (u : Part) : (u.becomeAbsent c).account.debt = u.account.debt := by have k := congrArg (fun v => v.account.debt) (Part.becomeAbsent_core c u); exact k
@[simp] theorem Part.becomeAbsent_debtRate (c : TamperCause) (u : Part) : (u.becomeAbsent c).account.debtRate = u.account.debtRate := by have k := congrArg (fun v => v.account.debtRate) (Part.becomeAbsent_core c u); exact k
@[simp] theorem Part.becomeAbsent_creditState (c : TamperCause) (u : Part) : (u.becomeAbsent c).account.creditState = u.account.creditState := by have k := congrArg (fun v => v.account.creditState) (Part.becomeAbsent_core c u); exact k
@[simp] theorem Part.becomeAbsent_ecAvailable (c : TamperCause) (u : Part) : (u.becomeAbsent c).account.ecAvailable = u.account.ecAvailable := by have k := congrArg (fun v => v.account.ecAvailable) (Part.becomeAbsent_core c u); exact k
@[simp] theorem Part.becomeAbsent_money (c : TamperCause) (u : Part) : (u.becomeAbsent c).account.money = u.account.money := by have k := congrArg (fun v => v.account) (Part.becomeAbsent_core c u); exact k
@[simp] theorem Part.becomeAbsent_openCoil (c : TamperCause) (u : Part) : (u.becomeAbsent c).outputs.openCoil = u.outputs.openCoil := by have k := congrArg (fun v => v.outputs.openCoil) (Part.becomeAbsent_core c u); exact k
@[simp] theorem Part.becomeAbsent_closeCoil (c : TamperCause) (u : Part) : (u.becomeAbsent c).outputs.closeCoil = u.outputs.closeCoil := by have k := congrArg (fun v => v.outputs.closeCoil) (Part.becomeAbsent_core c u); exact k

/-! `setCondition` -/

@[simp] theorem Part.setCondition_power (c : TamperCause) (b : Bool) (u : Part) : (u.setCondition c b).power = u.power := by have k := congrArg Part.power (Part.setCondition_core c b u); exact k
@[simp] theorem Part.setCondition_lostMark (c : TamperCause) (b : Bool) (u : Part) : (u.setCondition c b).lostMark = u.lostMark := by have k := congrArg Part.lostMark (Part.setCondition_core c b u); exact k
@[simp] theorem Part.setCondition_lifecycle (c : TamperCause) (b : Bool) (u : Part) : (u.setCondition c b).lifecycle = u.lifecycle := by have k := congrArg Part.lifecycle (Part.setCondition_core c b u); exact k
@[simp] theorem Part.setCondition_timeBase (c : TamperCause) (b : Bool) (u : Part) : (u.setCondition c b).timeBase = u.timeBase := by have k := congrArg Part.timeBase (Part.setCondition_core c b u); exact k
@[simp] theorem Part.setCondition_clock (c : TamperCause) (b : Bool) (u : Part) : (u.setCondition c b).clock = u.clock := by have k := congrArg Part.clock (Part.setCondition_core c b u); exact k
@[simp] theorem Part.setCondition_inputs (c : TamperCause) (b : Bool) (u : Part) : (u.setCondition c b).inputs = u.inputs := by have k := congrArg Part.inputs (Part.setCondition_core c b u); exact k
@[simp] theorem Part.setCondition_accountCauses (c : TamperCause) (b : Bool) (u : Part) : (u.setCondition c b).accountCauses = u.accountCauses := by have k := congrArg Part.accountCauses (Part.setCondition_core c b u); exact k
@[simp] theorem Part.setCondition_pulse (c : TamperCause) (b : Bool) (u : Part) : (u.setCondition c b).pulse = u.pulse := by have k := congrArg Part.pulse (Part.setCondition_core c b u); exact k
@[simp] theorem Part.setCondition_recon (c : TamperCause) (b : Bool) (u : Part) : (u.setCondition c b).recon = u.recon := by have k := congrArg Part.recon (Part.setCondition_core c b u); exact k
@[simp] theorem Part.setCondition_tariff (c : TamperCause) (b : Bool) (u : Part) : (u.setCondition c b).tariff = u.tariff := by have k := congrArg Part.tariff (Part.setCondition_core c b u); exact k
@[simp] theorem Part.setCondition_codes (c : TamperCause) (b : Bool) (u : Part) : (u.setCondition c b).codes = u.codes := by have k := congrArg Part.codes (Part.setCondition_core c b u); exact k
@[simp] theorem Part.setCondition_load (c : TamperCause) (b : Bool) (u : Part) : (u.setCondition c b).load = u.load := by have k := congrArg Part.load (Part.setCondition_core c b u); exact k
@[simp] theorem Part.setCondition_config (c : TamperCause) (b : Bool) (u : Part) : (u.setCondition c b).config = u.config := by have k := congrArg Part.config (Part.setCondition_core c b u); exact k
@[simp] theorem Part.setCondition_receivers (c : TamperCause) (b : Bool) (u : Part) : (u.setCondition c b).receivers = u.receivers := by have k := congrArg Part.receivers (Part.setCondition_core c b u); exact k
@[simp] theorem Part.setCondition_links (c : TamperCause) (b : Bool) (u : Part) : (u.setCondition c b).links = u.links := by have k := congrArg Part.links (Part.setCondition_core c b u); exact k
@[simp] theorem Part.setCondition_overtaken (c : TamperCause) (b : Bool) (u : Part) : (u.setCondition c b).overtaken = u.overtaken := by have k := congrArg Part.overtaken (Part.setCondition_core c b u); exact k
@[simp] theorem Part.setCondition_balance (c : TamperCause) (b : Bool) (u : Part) : (u.setCondition c b).account.balance = u.account.balance := by have k := congrArg (fun v => v.account.balance) (Part.setCondition_core c b u); exact k
@[simp] theorem Part.setCondition_residue (c : TamperCause) (b : Bool) (u : Part) : (u.setCondition c b).account.residue = u.account.residue := by have k := congrArg (fun v => v.account.residue) (Part.setCondition_core c b u); exact k
@[simp] theorem Part.setCondition_ecOwed (c : TamperCause) (b : Bool) (u : Part) : (u.setCondition c b).account.ecOwed = u.account.ecOwed := by have k := congrArg (fun v => v.account.ecOwed) (Part.setCondition_core c b u); exact k
@[simp] theorem Part.setCondition_debt (c : TamperCause) (b : Bool) (u : Part) : (u.setCondition c b).account.debt = u.account.debt := by have k := congrArg (fun v => v.account.debt) (Part.setCondition_core c b u); exact k
@[simp] theorem Part.setCondition_debtRate (c : TamperCause) (b : Bool) (u : Part) : (u.setCondition c b).account.debtRate = u.account.debtRate := by have k := congrArg (fun v => v.account.debtRate) (Part.setCondition_core c b u); exact k
@[simp] theorem Part.setCondition_creditState (c : TamperCause) (b : Bool) (u : Part) : (u.setCondition c b).account.creditState = u.account.creditState := by have k := congrArg (fun v => v.account.creditState) (Part.setCondition_core c b u); exact k
@[simp] theorem Part.setCondition_ecAvailable (c : TamperCause) (b : Bool) (u : Part) : (u.setCondition c b).account.ecAvailable = u.account.ecAvailable := by have k := congrArg (fun v => v.account.ecAvailable) (Part.setCondition_core c b u); exact k
@[simp] theorem Part.setCondition_money (c : TamperCause) (b : Bool) (u : Part) : (u.setCondition c b).account.money = u.account.money := by have k := congrArg (fun v => v.account) (Part.setCondition_core c b u); exact k
@[simp] theorem Part.setCondition_openCoil (c : TamperCause) (b : Bool) (u : Part) : (u.setCondition c b).outputs.openCoil = u.outputs.openCoil := by have k := congrArg (fun v => v.outputs.openCoil) (Part.setCondition_core c b u); exact k
@[simp] theorem Part.setCondition_closeCoil (c : TamperCause) (b : Bool) (u : Part) : (u.setCondition c b).outputs.closeCoil = u.outputs.closeCoil := by have k := congrArg (fun v => v.outputs.closeCoil) (Part.setCondition_core c b u); exact k

/-! `startOperation` -/

@[simp] theorem Part.startOperation_power (d : Direction) (r : Reason) (u : Part) : (u.startOperation d r).power = u.power := by have k := congrArg Part.power (Part.startOperation_core d r u); exact k
@[simp] theorem Part.startOperation_lostMark (d : Direction) (r : Reason) (u : Part) : (u.startOperation d r).lostMark = u.lostMark := by have k := congrArg Part.lostMark (Part.startOperation_core d r u); exact k
@[simp] theorem Part.startOperation_lifecycle (d : Direction) (r : Reason) (u : Part) : (u.startOperation d r).lifecycle = u.lifecycle := by have k := congrArg Part.lifecycle (Part.startOperation_core d r u); exact k
@[simp] theorem Part.startOperation_timeBase (d : Direction) (r : Reason) (u : Part) : (u.startOperation d r).timeBase = u.timeBase := by have k := congrArg Part.timeBase (Part.startOperation_core d r u); exact k
@[simp] theorem Part.startOperation_clock (d : Direction) (r : Reason) (u : Part) : (u.startOperation d r).clock = u.clock := by have k := congrArg Part.clock (Part.startOperation_core d r u); exact k
@[simp] theorem Part.startOperation_inputs (d : Direction) (r : Reason) (u : Part) : (u.startOperation d r).inputs = u.inputs := by have k := congrArg Part.inputs (Part.startOperation_core d r u); exact k
@[simp] theorem Part.startOperation_accountCauses (d : Direction) (r : Reason) (u : Part) : (u.startOperation d r).accountCauses = u.accountCauses := by have k := congrArg Part.accountCauses (Part.startOperation_core d r u); exact k
@[simp] theorem Part.startOperation_pulse (d : Direction) (r : Reason) (u : Part) : (u.startOperation d r).pulse = u.pulse := by have k := congrArg Part.pulse (Part.startOperation_core d r u); exact k
@[simp] theorem Part.startOperation_recon (d : Direction) (r : Reason) (u : Part) : (u.startOperation d r).recon = u.recon := by have k := congrArg Part.recon (Part.startOperation_core d r u); exact k
@[simp] theorem Part.startOperation_tariff (d : Direction) (r : Reason) (u : Part) : (u.startOperation d r).tariff = u.tariff := by have k := congrArg Part.tariff (Part.startOperation_core d r u); exact k
@[simp] theorem Part.startOperation_codes (d : Direction) (r : Reason) (u : Part) : (u.startOperation d r).codes = u.codes := by have k := congrArg Part.codes (Part.startOperation_core d r u); exact k
@[simp] theorem Part.startOperation_load (d : Direction) (r : Reason) (u : Part) : (u.startOperation d r).load = u.load := by have k := congrArg Part.load (Part.startOperation_core d r u); exact k
@[simp] theorem Part.startOperation_config (d : Direction) (r : Reason) (u : Part) : (u.startOperation d r).config = u.config := by have k := congrArg Part.config (Part.startOperation_core d r u); exact k
@[simp] theorem Part.startOperation_receivers (d : Direction) (r : Reason) (u : Part) : (u.startOperation d r).receivers = u.receivers := by have k := congrArg Part.receivers (Part.startOperation_core d r u); exact k
@[simp] theorem Part.startOperation_links (d : Direction) (r : Reason) (u : Part) : (u.startOperation d r).links = u.links := by have k := congrArg Part.links (Part.startOperation_core d r u); exact k
@[simp] theorem Part.startOperation_overtaken (d : Direction) (r : Reason) (u : Part) : (u.startOperation d r).overtaken = u.overtaken := by have k := congrArg Part.overtaken (Part.startOperation_core d r u); exact k
@[simp] theorem Part.startOperation_balance (d : Direction) (r : Reason) (u : Part) : (u.startOperation d r).account.balance = u.account.balance := by have k := congrArg (fun v => v.account.balance) (Part.startOperation_core d r u); exact k
@[simp] theorem Part.startOperation_residue (d : Direction) (r : Reason) (u : Part) : (u.startOperation d r).account.residue = u.account.residue := by have k := congrArg (fun v => v.account.residue) (Part.startOperation_core d r u); exact k
@[simp] theorem Part.startOperation_ecOwed (d : Direction) (r : Reason) (u : Part) : (u.startOperation d r).account.ecOwed = u.account.ecOwed := by have k := congrArg (fun v => v.account.ecOwed) (Part.startOperation_core d r u); exact k
@[simp] theorem Part.startOperation_debt (d : Direction) (r : Reason) (u : Part) : (u.startOperation d r).account.debt = u.account.debt := by have k := congrArg (fun v => v.account.debt) (Part.startOperation_core d r u); exact k
@[simp] theorem Part.startOperation_debtRate (d : Direction) (r : Reason) (u : Part) : (u.startOperation d r).account.debtRate = u.account.debtRate := by have k := congrArg (fun v => v.account.debtRate) (Part.startOperation_core d r u); exact k
@[simp] theorem Part.startOperation_creditState (d : Direction) (r : Reason) (u : Part) : (u.startOperation d r).account.creditState = u.account.creditState := by have k := congrArg (fun v => v.account.creditState) (Part.startOperation_core d r u); exact k
@[simp] theorem Part.startOperation_ecAvailable (d : Direction) (r : Reason) (u : Part) : (u.startOperation d r).account.ecAvailable = u.account.ecAvailable := by have k := congrArg (fun v => v.account.ecAvailable) (Part.startOperation_core d r u); exact k
@[simp] theorem Part.startOperation_money (d : Direction) (r : Reason) (u : Part) : (u.startOperation d r).account.money = u.account.money := by have k := congrArg (fun v => v.account) (Part.startOperation_core d r u); exact k
@[simp] theorem Part.startOperation_openCoil (d : Direction) (r : Reason) (u : Part) : (u.startOperation d r).outputs.openCoil = u.outputs.openCoil := by have k := congrArg (fun v => v.outputs.openCoil) (Part.startOperation_core d r u); exact k
@[simp] theorem Part.startOperation_closeCoil (d : Direction) (r : Reason) (u : Part) : (u.startOperation d r).outputs.closeCoil = u.outputs.closeCoil := by have k := congrArg (fun v => v.outputs.closeCoil) (Part.startOperation_core d r u); exact k

/-! `recompute` -/

@[simp] theorem Part.recompute_power (u : Part) : u.recompute.power = u.power := by have k := congrArg Part.power (Part.recompute_core u); exact k
@[simp] theorem Part.recompute_lostMark (u : Part) : u.recompute.lostMark = u.lostMark := by have k := congrArg Part.lostMark (Part.recompute_core u); exact k
@[simp] theorem Part.recompute_lifecycle (u : Part) : u.recompute.lifecycle = u.lifecycle := by have k := congrArg Part.lifecycle (Part.recompute_core u); exact k
@[simp] theorem Part.recompute_timeBase (u : Part) : u.recompute.timeBase = u.timeBase := by have k := congrArg Part.timeBase (Part.recompute_core u); exact k
@[simp] theorem Part.recompute_clock (u : Part) : u.recompute.clock = u.clock := by have k := congrArg Part.clock (Part.recompute_core u); exact k
@[simp] theorem Part.recompute_inputs (u : Part) : u.recompute.inputs = u.inputs := by have k := congrArg Part.inputs (Part.recompute_core u); exact k
@[simp] theorem Part.recompute_accountCauses (u : Part) : u.recompute.accountCauses = u.accountCauses := by have k := congrArg Part.accountCauses (Part.recompute_core u); exact k
@[simp] theorem Part.recompute_pulse (u : Part) : u.recompute.pulse = u.pulse := by have k := congrArg Part.pulse (Part.recompute_core u); exact k
@[simp] theorem Part.recompute_recon (u : Part) : u.recompute.recon = u.recon := by have k := congrArg Part.recon (Part.recompute_core u); exact k
@[simp] theorem Part.recompute_tariff (u : Part) : u.recompute.tariff = u.tariff := by have k := congrArg Part.tariff (Part.recompute_core u); exact k
@[simp] theorem Part.recompute_codes (u : Part) : u.recompute.codes = u.codes := by have k := congrArg Part.codes (Part.recompute_core u); exact k
@[simp] theorem Part.recompute_load (u : Part) : u.recompute.load = u.load := by have k := congrArg Part.load (Part.recompute_core u); exact k
@[simp] theorem Part.recompute_config (u : Part) : u.recompute.config = u.config := by have k := congrArg Part.config (Part.recompute_core u); exact k
@[simp] theorem Part.recompute_receivers (u : Part) : u.recompute.receivers = u.receivers := by have k := congrArg Part.receivers (Part.recompute_core u); exact k
@[simp] theorem Part.recompute_links (u : Part) : u.recompute.links = u.links := by have k := congrArg Part.links (Part.recompute_core u); exact k
@[simp] theorem Part.recompute_overtaken (u : Part) : u.recompute.overtaken = u.overtaken := by have k := congrArg Part.overtaken (Part.recompute_core u); exact k
@[simp] theorem Part.recompute_balance (u : Part) : u.recompute.account.balance = u.account.balance := by have k := congrArg (fun v => v.account.balance) (Part.recompute_core u); exact k
@[simp] theorem Part.recompute_residue (u : Part) : u.recompute.account.residue = u.account.residue := by have k := congrArg (fun v => v.account.residue) (Part.recompute_core u); exact k
@[simp] theorem Part.recompute_ecOwed (u : Part) : u.recompute.account.ecOwed = u.account.ecOwed := by have k := congrArg (fun v => v.account.ecOwed) (Part.recompute_core u); exact k
@[simp] theorem Part.recompute_debt (u : Part) : u.recompute.account.debt = u.account.debt := by have k := congrArg (fun v => v.account.debt) (Part.recompute_core u); exact k
@[simp] theorem Part.recompute_debtRate (u : Part) : u.recompute.account.debtRate = u.account.debtRate := by have k := congrArg (fun v => v.account.debtRate) (Part.recompute_core u); exact k
@[simp] theorem Part.recompute_creditState (u : Part) : u.recompute.account.creditState = u.account.creditState := by have k := congrArg (fun v => v.account.creditState) (Part.recompute_core u); exact k
@[simp] theorem Part.recompute_ecAvailable (u : Part) : u.recompute.account.ecAvailable = u.account.ecAvailable := by have k := congrArg (fun v => v.account.ecAvailable) (Part.recompute_core u); exact k
@[simp] theorem Part.recompute_money (u : Part) : u.recompute.account.money = u.account.money := by have k := congrArg (fun v => v.account) (Part.recompute_core u); exact k
@[simp] theorem Part.recompute_openCoil (u : Part) : u.recompute.outputs.openCoil = u.outputs.openCoil := by have k := congrArg (fun v => v.outputs.openCoil) (Part.recompute_core u); exact k
@[simp] theorem Part.recompute_closeCoil (u : Part) : u.recompute.outputs.closeCoil = u.outputs.closeCoil := by have k := congrArg (fun v => v.outputs.closeCoil) (Part.recompute_core u); exact k

/-! `handCauses` -/

@[simp] theorem Part.handCauses_power (c : CauseSet) (u : Part) : (u.handCauses c).power = u.power := by have k := congrArg Part.power (Part.handCauses_core c u); exact k
@[simp] theorem Part.handCauses_lostMark (c : CauseSet) (u : Part) : (u.handCauses c).lostMark = u.lostMark := by have k := congrArg Part.lostMark (Part.handCauses_core c u); exact k
@[simp] theorem Part.handCauses_lifecycle (c : CauseSet) (u : Part) : (u.handCauses c).lifecycle = u.lifecycle := by have k := congrArg Part.lifecycle (Part.handCauses_core c u); exact k
@[simp] theorem Part.handCauses_timeBase (c : CauseSet) (u : Part) : (u.handCauses c).timeBase = u.timeBase := by have k := congrArg Part.timeBase (Part.handCauses_core c u); exact k
@[simp] theorem Part.handCauses_clock (c : CauseSet) (u : Part) : (u.handCauses c).clock = u.clock := by have k := congrArg Part.clock (Part.handCauses_core c u); exact k
@[simp] theorem Part.handCauses_inputs (c : CauseSet) (u : Part) : (u.handCauses c).inputs = u.inputs := by have k := congrArg Part.inputs (Part.handCauses_core c u); exact k
@[simp] theorem Part.handCauses_accountCauses (c : CauseSet) (u : Part) : (u.handCauses c).accountCauses = u.accountCauses := by have k := congrArg Part.accountCauses (Part.handCauses_core c u); exact k
@[simp] theorem Part.handCauses_pulse (c : CauseSet) (u : Part) : (u.handCauses c).pulse = u.pulse := by have k := congrArg Part.pulse (Part.handCauses_core c u); exact k
@[simp] theorem Part.handCauses_recon (c : CauseSet) (u : Part) : (u.handCauses c).recon = u.recon := by have k := congrArg Part.recon (Part.handCauses_core c u); exact k
@[simp] theorem Part.handCauses_tariff (c : CauseSet) (u : Part) : (u.handCauses c).tariff = u.tariff := by have k := congrArg Part.tariff (Part.handCauses_core c u); exact k
@[simp] theorem Part.handCauses_codes (c : CauseSet) (u : Part) : (u.handCauses c).codes = u.codes := by have k := congrArg Part.codes (Part.handCauses_core c u); exact k
@[simp] theorem Part.handCauses_load (c : CauseSet) (u : Part) : (u.handCauses c).load = u.load := by have k := congrArg Part.load (Part.handCauses_core c u); exact k
@[simp] theorem Part.handCauses_config (c : CauseSet) (u : Part) : (u.handCauses c).config = u.config := by have k := congrArg Part.config (Part.handCauses_core c u); exact k
@[simp] theorem Part.handCauses_receivers (c : CauseSet) (u : Part) : (u.handCauses c).receivers = u.receivers := by have k := congrArg Part.receivers (Part.handCauses_core c u); exact k
@[simp] theorem Part.handCauses_links (c : CauseSet) (u : Part) : (u.handCauses c).links = u.links := by have k := congrArg Part.links (Part.handCauses_core c u); exact k
@[simp] theorem Part.handCauses_overtaken (c : CauseSet) (u : Part) : (u.handCauses c).overtaken = u.overtaken := by have k := congrArg Part.overtaken (Part.handCauses_core c u); exact k
@[simp] theorem Part.handCauses_balance (c : CauseSet) (u : Part) : (u.handCauses c).account.balance = u.account.balance := by have k := congrArg (fun v => v.account.balance) (Part.handCauses_core c u); exact k
@[simp] theorem Part.handCauses_residue (c : CauseSet) (u : Part) : (u.handCauses c).account.residue = u.account.residue := by have k := congrArg (fun v => v.account.residue) (Part.handCauses_core c u); exact k
@[simp] theorem Part.handCauses_ecOwed (c : CauseSet) (u : Part) : (u.handCauses c).account.ecOwed = u.account.ecOwed := by have k := congrArg (fun v => v.account.ecOwed) (Part.handCauses_core c u); exact k
@[simp] theorem Part.handCauses_debt (c : CauseSet) (u : Part) : (u.handCauses c).account.debt = u.account.debt := by have k := congrArg (fun v => v.account.debt) (Part.handCauses_core c u); exact k
@[simp] theorem Part.handCauses_debtRate (c : CauseSet) (u : Part) : (u.handCauses c).account.debtRate = u.account.debtRate := by have k := congrArg (fun v => v.account.debtRate) (Part.handCauses_core c u); exact k
@[simp] theorem Part.handCauses_creditState (c : CauseSet) (u : Part) : (u.handCauses c).account.creditState = u.account.creditState := by have k := congrArg (fun v => v.account.creditState) (Part.handCauses_core c u); exact k
@[simp] theorem Part.handCauses_ecAvailable (c : CauseSet) (u : Part) : (u.handCauses c).account.ecAvailable = u.account.ecAvailable := by have k := congrArg (fun v => v.account.ecAvailable) (Part.handCauses_core c u); exact k
@[simp] theorem Part.handCauses_money (c : CauseSet) (u : Part) : (u.handCauses c).account.money = u.account.money := by have k := congrArg (fun v => v.account) (Part.handCauses_core c u); exact k
@[simp] theorem Part.handCauses_openCoil (c : CauseSet) (u : Part) : (u.handCauses c).outputs.openCoil = u.outputs.openCoil := by have k := congrArg (fun v => v.outputs.openCoil) (Part.handCauses_core c u); exact k
@[simp] theorem Part.handCauses_closeCoil (c : CauseSet) (u : Part) : (u.handCauses c).outputs.closeCoil = u.outputs.closeCoil := by have k := congrArg (fun v => v.outputs.closeCoil) (Part.handCauses_core c u); exact k

/-! `evaluateTamper` -/

@[simp] theorem Part.evaluateTamper_power (u : Part) : u.evaluateTamper.power = u.power := by have k := congrArg Part.power (Part.evaluateTamper_core u); exact k
@[simp] theorem Part.evaluateTamper_lostMark (u : Part) : u.evaluateTamper.lostMark = u.lostMark := by have k := congrArg Part.lostMark (Part.evaluateTamper_core u); exact k
@[simp] theorem Part.evaluateTamper_lifecycle (u : Part) : u.evaluateTamper.lifecycle = u.lifecycle := by have k := congrArg Part.lifecycle (Part.evaluateTamper_core u); exact k
@[simp] theorem Part.evaluateTamper_timeBase (u : Part) : u.evaluateTamper.timeBase = u.timeBase := by have k := congrArg Part.timeBase (Part.evaluateTamper_core u); exact k
@[simp] theorem Part.evaluateTamper_clock (u : Part) : u.evaluateTamper.clock = u.clock := by have k := congrArg Part.clock (Part.evaluateTamper_core u); exact k
@[simp] theorem Part.evaluateTamper_inputs (u : Part) : u.evaluateTamper.inputs = u.inputs := by have k := congrArg Part.inputs (Part.evaluateTamper_core u); exact k
@[simp] theorem Part.evaluateTamper_accountCauses (u : Part) : u.evaluateTamper.accountCauses = u.accountCauses := by have k := congrArg Part.accountCauses (Part.evaluateTamper_core u); exact k
@[simp] theorem Part.evaluateTamper_pulse (u : Part) : u.evaluateTamper.pulse = u.pulse := by have k := congrArg Part.pulse (Part.evaluateTamper_core u); exact k
@[simp] theorem Part.evaluateTamper_recon (u : Part) : u.evaluateTamper.recon = u.recon := by have k := congrArg Part.recon (Part.evaluateTamper_core u); exact k
@[simp] theorem Part.evaluateTamper_tariff (u : Part) : u.evaluateTamper.tariff = u.tariff := by have k := congrArg Part.tariff (Part.evaluateTamper_core u); exact k
@[simp] theorem Part.evaluateTamper_codes (u : Part) : u.evaluateTamper.codes = u.codes := by have k := congrArg Part.codes (Part.evaluateTamper_core u); exact k
@[simp] theorem Part.evaluateTamper_load (u : Part) : u.evaluateTamper.load = u.load := by have k := congrArg Part.load (Part.evaluateTamper_core u); exact k
@[simp] theorem Part.evaluateTamper_config (u : Part) : u.evaluateTamper.config = u.config := by have k := congrArg Part.config (Part.evaluateTamper_core u); exact k
@[simp] theorem Part.evaluateTamper_receivers (u : Part) : u.evaluateTamper.receivers = u.receivers := by have k := congrArg Part.receivers (Part.evaluateTamper_core u); exact k
@[simp] theorem Part.evaluateTamper_links (u : Part) : u.evaluateTamper.links = u.links := by have k := congrArg Part.links (Part.evaluateTamper_core u); exact k
@[simp] theorem Part.evaluateTamper_overtaken (u : Part) : u.evaluateTamper.overtaken = u.overtaken := by have k := congrArg Part.overtaken (Part.evaluateTamper_core u); exact k
@[simp] theorem Part.evaluateTamper_balance (u : Part) : u.evaluateTamper.account.balance = u.account.balance := by have k := congrArg (fun v => v.account.balance) (Part.evaluateTamper_core u); exact k
@[simp] theorem Part.evaluateTamper_residue (u : Part) : u.evaluateTamper.account.residue = u.account.residue := by have k := congrArg (fun v => v.account.residue) (Part.evaluateTamper_core u); exact k
@[simp] theorem Part.evaluateTamper_ecOwed (u : Part) : u.evaluateTamper.account.ecOwed = u.account.ecOwed := by have k := congrArg (fun v => v.account.ecOwed) (Part.evaluateTamper_core u); exact k
@[simp] theorem Part.evaluateTamper_debt (u : Part) : u.evaluateTamper.account.debt = u.account.debt := by have k := congrArg (fun v => v.account.debt) (Part.evaluateTamper_core u); exact k
@[simp] theorem Part.evaluateTamper_debtRate (u : Part) : u.evaluateTamper.account.debtRate = u.account.debtRate := by have k := congrArg (fun v => v.account.debtRate) (Part.evaluateTamper_core u); exact k
@[simp] theorem Part.evaluateTamper_creditState (u : Part) : u.evaluateTamper.account.creditState = u.account.creditState := by have k := congrArg (fun v => v.account.creditState) (Part.evaluateTamper_core u); exact k
@[simp] theorem Part.evaluateTamper_ecAvailable (u : Part) : u.evaluateTamper.account.ecAvailable = u.account.ecAvailable := by have k := congrArg (fun v => v.account.ecAvailable) (Part.evaluateTamper_core u); exact k
@[simp] theorem Part.evaluateTamper_money (u : Part) : u.evaluateTamper.account.money = u.account.money := by have k := congrArg (fun v => v.account) (Part.evaluateTamper_core u); exact k
@[simp] theorem Part.evaluateTamper_openCoil (u : Part) : u.evaluateTamper.outputs.openCoil = u.outputs.openCoil := by have k := congrArg (fun v => v.outputs.openCoil) (Part.evaluateTamper_core u); exact k
@[simp] theorem Part.evaluateTamper_closeCoil (u : Part) : u.evaluateTamper.outputs.closeCoil = u.outputs.closeCoil := by have k := congrArg (fun v => v.outputs.closeCoil) (Part.evaluateTamper_core u); exact k

end Sys2Proof.Machine
end

