-- ==== Sys2Proof/Laws/Tamper.lean ====
section
/-! SUPPORT. The tamper records: what each operation does to the record it names, and that it leaves the others (R134 to
R139). -/

namespace Sys2Proof.Machine

theorem causeIndex_inj {c d : TamperCause} (h : (causeIndex c).val = (causeIndex d).val) : c = d := by
  cases c <;> cases d <;> first | rfl | exact absurd h (by decide)

/-- A record depends on the monitor alone. -/
theorem Part.tamperRecord_congr {u v : Part} (h : u.tamper = v.tamper) (c : TamperCause) :
    u.tamperRecord c = v.tamperRecord c := by unfold Part.tamperRecord; rw [h]

@[simp] theorem Part.putRecord_self (c : TamperCause) (r : TamperRecord) (u : Part) :
    (u.putRecord c r).tamperRecord c = r := by
  unfold Part.putRecord Part.tamperRecord
  simp [Vector.get_eq_getElem]

theorem Part.putRecord_other {c d : TamperCause} (h : d ≠ c) (r : TamperRecord) (u : Part) :
    (u.putRecord c r).tamperRecord d = u.tamperRecord d := by
  unfold Part.putRecord Part.tamperRecord
  simp only [Part.markDueIf_tamper, Vector.get_eq_getElem]
  rw [Vector.getElem_set_ne]
  exact fun e => h (causeIndex_inj e.symm)

@[simp] theorem Part.putRecord_member (c : TamperCause) (r : TamperRecord) (u : Part) :
    (u.putRecord c r).tamper.member = u.tamper.member := by unfold Part.putRecord; simp

@[simp] theorem Part.putRecord_buffer (c : TamperCause) (r : TamperRecord) (u : Part) :
    (u.putRecord c r).tamper.buffer = u.tamper.buffer := by unfold Part.putRecord; simp

@[simp] theorem Part.putRecord_supply (c : TamperCause) (r : TamperRecord) (u : Part) :
    (u.putRecord c r).supply = u.supply := by unfold Part.putRecord; simp

@[simp] theorem Part.putRecord_outputs (c : TamperCause) (r : TamperRecord) (u : Part) :
    (u.putRecord c r).outputs = u.outputs := by unfold Part.putRecord; simp

@[simp] theorem Part.putRecord_notices (c : TamperCause) (r : TamperRecord) (u : Part) :
    (u.putRecord c r).notices = u.notices := by unfold Part.putRecord; simp

@[simp] theorem Part.markDue_tamper (u : Part) : u.markDue.tamper = u.tamper := rfl

@[simp] theorem Part.tamperRecord_markDue (u : Part) (c : TamperCause) : u.markDue.tamperRecord c = u.tamperRecord c := rfl

@[simp] theorem Part.bufferEvent_record (k : Cover) (b : Bool) (u : Part) (c : TamperCause) :
    (u.bufferEvent k b).tamperRecord c = u.tamperRecord c := by
  unfold Part.bufferEvent; split <;> rfl

@[simp] theorem Part.journal_record (j : JournalDetail) (u : Part) (c : TamperCause) :
    (u.journal j).tamperRecord c = u.tamperRecord c := Part.tamperRecord_congr (by simp) c

@[simp] theorem Part.place_record (x : Notice) (u : Part) (c : TamperCause) :
    (u.place x).tamperRecord c = u.tamperRecord c := Part.tamperRecord_congr (by simp) c

@[simp] theorem Part.requestCheckpoint_record (r : CheckpointReason) (u : Part) (c : TamperCause) :
    (u.requestCheckpoint r).tamperRecord c = u.tamperRecord c := Part.tamperRecord_congr (by simp) c

@[simp] theorem Part.absentEvidence_record (c d : TamperCause) (u : Part) :
    (u.absentEvidence c).tamperRecord d = u.tamperRecord d := by
  unfold Part.absentEvidence
  dsimp only
  repeat' split
  all_goals simp

theorem Part.becomeAbsent_self (c : TamperCause) (u : Part) :
    (u.becomeAbsent c).tamperRecord c = { u.tamperRecord c with state := .latchedAbsent, timer := none } := by
  simp [Part.becomeAbsent]

theorem Part.becomeAbsent_other {c d : TamperCause} (h : d ≠ c) (u : Part) :
    (u.becomeAbsent c).tamperRecord d = u.tamperRecord d := by
  simp [Part.becomeAbsent, Part.putRecord_other h]

/-- From PRESENT the carried form stands (R153), so the record itself sets no flag (log 65). -/
theorem Part.becomeAbsent_of_present {c : TamperCause} {u : Part} (h : (u.tamperRecord c).state = .present) :
    u.becomeAbsent c =
      Part.absentEvidence c
        { u with tamper := { u.tamper with
            records := u.tamper.records.set (causeIndex c).val
              { u.tamperRecord c with state := .latchedAbsent, timer := none } (causeIndex c).isLt } } := by
  unfold Part.becomeAbsent Part.putRecord Part.markDueIf
  simp [TamperRecord.carried, RecordState.latched, h]

theorem Part.bufferEvent_store (k : Cover) (b : Bool) (u : Part) : (u.bufferEvent k b).store = u.store := by
  unfold Part.bufferEvent; split <;> rfl

/-- A cover that becomes LATCHED_ABSENT on battery sets the checkpoint-due flag, and of the store controller nothing else moves
(R144, R161; log 65). -/
theorem Part.becomeAbsent_on_battery {c : TamperCause} {k : Cover} {u : Part} (h : (u.tamperRecord c).state = .present)
    (cover : causeCover c = some k) (battery : u.onBattery = true) :
    (u.becomeAbsent c).checkpointDue = true ∧
    (u.becomeAbsent c).store = { u.store with inFlight := u.store.inFlight.map Attempt.noteChange } := by
  rw [Part.becomeAbsent_of_present h]
  unfold Part.absentEvidence
  have b : ∀ x : Tamper, Part.onBattery { u with tamper := x } = true := fun _ => battery
  simp [cover, b, Part.markDue, Part.bufferEvent_store]

theorem Part.conditionEnds_other {c d : TamperCause} (h : d ≠ c) (u : Part) :
    (u.conditionEnds c).tamperRecord d = u.tamperRecord d := by
  unfold Part.conditionEnds
  dsimp only
  repeat' split
  all_goals simp [Part.becomeAbsent_other h, Part.putRecord_other h]

/-- The record of a condition that ends (R137). -/
def TamperRecord.ended (r : TamperRecord) (release : Option Nat) : TamperRecord :=
  match r.state with
  | .quiet => { r with condition := false }
  | .latchedAbsent => { r with condition := false }
  | .pending prior =>
    { r with condition := false, state := if prior then .latchedAbsent else .quiet, timer := none }
  | .present =>
    match release with
    | some t => { r with condition := false, timer := some t }
    | none => { r with condition := false, state := .latchedAbsent, timer := none }

theorem Part.conditionEnds_self (c : TamperCause) (u : Part) :
    (u.conditionEnds c).tamperRecord c =
      (u.tamperRecord c).ended (if c.hasRelease then some (u.timeBase + debounceTicks c) else none) := by
  unfold Part.conditionEnds TamperRecord.ended
  dsimp only
  cases (u.tamperRecord c).state <;> simp only [Part.putRecord_self]
  cases c.hasRelease <;> simp [Part.becomeAbsent_self]

@[simp] theorem Part.conditionEnds_condition (c : TamperCause) (u : Part) : (u.conditionEnds c).condition c = false := by
  unfold Part.condition
  rw [Part.conditionEnds_self]
  unfold TamperRecord.ended
  repeat' split
  all_goals rfl

/-! ### The decision leaves every record but that of BYPASS -/

theorem Part.leaveBypassWatch_record {d : TamperCause} (h : d ≠ .bypass) (dir : Direction) (u : Part) :
    (u.leaveBypassWatch dir).tamperRecord d = u.tamperRecord d := by
  unfold Part.leaveBypassWatch
  repeat' split
  all_goals simp [Part.conditionEnds_other h]

@[simp] theorem Part.putLogical_record (l : Logical) (u : Part) (c : TamperCause) :
    (u.putLogical l).tamperRecord c = u.tamperRecord c := by
  apply Part.tamperRecord_congr; unfold Part.putLogical; simp

@[simp] theorem Part.putOpeningRecord_record (r : OpeningRecord) (u : Part) (c : TamperCause) :
    (u.putOpeningRecord r).tamperRecord c = u.tamperRecord c := by
  apply Part.tamperRecord_congr; unfold Part.putOpeningRecord; simp

@[simp] theorem Part.settleRelay_record (st : Settled) (u : Part) (c : TamperCause) :
    (u.settleRelay st).tamperRecord c = u.tamperRecord c := by
  unfold Part.settleRelay; simp; rfl

@[simp] theorem Part.enterRecord_record (s : CauseSet) (u : Part) (c : TamperCause) :
    (u.enterRecord s).tamperRecord c = u.tamperRecord c := by simp [Part.enterRecord]

@[simp] theorem Part.placeIf_record (b : Bool) (p : Port) (x : Notice) (u : Part) (c : TamperCause) :
    (u.placeIf b p x).tamperRecord c = u.tamperRecord c := Part.tamperRecord_congr (by simp) c

theorem Part.startOperation_record {d : TamperCause} (h : d ≠ .bypass) (dir : Direction) (r : Reason) (u : Part) :
    (u.startOperation dir r).tamperRecord d = u.tamperRecord d := by
  unfold Part.startOperation
  split
  · simp only [Part.placeIf_record]
    refine Eq.trans (b := (((u.leaveBypassWatch dir).putOpeningRecord (u.recordAtStart dir r)).putLogical
      .inProgress).tamperRecord d) rfl ?_
    simp [Part.leaveBypassWatch_record h]
  · rfl

theorem Part.recompute_record {d : TamperCause} (h : d ≠ .bypass) (u : Part) :
    u.recompute.tamperRecord d = u.tamperRecord d := by
  unfold Part.recompute
  repeat' split
  · rfl
  · unfold Part.actOn Part.leaveOpen
    repeat' split
    all_goals simp [Part.startOperation_record h]
    all_goals rfl
  · rfl

theorem Part.handCauses_record {d : TamperCause} (h : d ≠ .bypass) (c : CauseSet) (u : Part) :
    (u.handCauses c).tamperRecord d = u.tamperRecord d := by
  unfold Part.handCauses
  split
  · rfl
  · rw [Part.recompute_record h]; rfl

theorem Part.evaluateTamper_record {d : TamperCause} (h : d ≠ .bypass) (u : Part) :
    u.evaluateTamper.tamperRecord d = u.tamperRecord d := by
  unfold Part.evaluateTamper
  rw [Part.handCauses_record h]; rfl

/-! ### A condition takes its value -/

theorem Part.presentEvidence_record {d : TamperCause} (h : d ≠ .bypass) (c : TamperCause) (u : Part) :
    (u.presentEvidence c).tamperRecord d = u.tamperRecord d := by
  unfold Part.presentEvidence
  dsimp only
  split <;> simp [Part.evaluateTamper_record h]

theorem Part.presentOnBattery_other {d : TamperCause} (h : d ≠ .bypass) {k : Cover} (e : d ≠ coverCause k) (u : Part) :
    (u.presentOnBattery k).tamperRecord d = u.tamperRecord d := by
  unfold Part.presentOnBattery
  dsimp only
  split <;> simp [Part.evaluateTamper_record h, Part.putRecord_other e]

theorem Part.presentOnBattery_self (k : Cover) (u : Part) :
    (u.presentOnBattery k).tamperRecord (coverCause k) =
      { u.tamperRecord (coverCause k) with raisedOnBattery := true } := by
  have h : coverCause k ≠ .bypass := by cases k <;> decide
  unfold Part.presentOnBattery
  dsimp only
  split <;> simp [Part.evaluateTamper_record h]

theorem coverCause_of_causeCover {c : TamperCause} {k : Cover} (h : causeCover c = some k) : coverCause k = c := by
  cases c <;> cases k <;> simp_all [causeCover, coverCause]

theorem Part.becomePresent_other {c d : TamperCause} (h : d ≠ .bypass) (e : d ≠ c) (u : Part) :
    (u.becomePresent c).tamperRecord d = u.tamperRecord d := by
  unfold Part.becomePresent
  dsimp only
  split
  · rename_i k hk
    split
    · rw [Part.presentOnBattery_other h (by rw [coverCause_of_causeCover hk]; exact e), Part.putRecord_other e]
    · rw [Part.presentEvidence_record h, Part.putRecord_other e]
  · rw [Part.presentEvidence_record h, Part.putRecord_other e]

/-- A cause that becomes present (R136); a cover on battery also takes its mark (R142). -/
theorem Part.becomePresent_self {c : TamperCause} (h : c ≠ .bypass) (u : Part) :
    (u.becomePresent c).tamperRecord c =
      { (u.tamperRecord c).presented u.stamp with
        raisedOnBattery := ((causeCover c).isSome && u.onBattery) || (u.tamperRecord c).raisedOnBattery } := by
  unfold Part.becomePresent
  dsimp only
  have on : ∀ r, (u.putRecord c r).onBattery = u.onBattery := by intro r; simp [Part.onBattery]
  split
  · rename_i k hk
    have e := coverCause_of_causeCover hk
    rw [on]
    split
    · rename_i hb
      subst e
      rw [Part.presentOnBattery_self, Part.putRecord_self]
      simp [hk, hb, TamperRecord.presented]
    · rename_i hb
      rw [Part.presentEvidence_record h, Part.putRecord_self]
      simp [hb, TamperRecord.presented]
  · rename_i hk
    rw [Part.presentEvidence_record h, Part.putRecord_self]
    simp [hk, TamperRecord.presented]

theorem Part.enterPending_other {c d : TamperCause} (h : d ≠ .bypass) (e : d ≠ c) (b : Bool) (u : Part) :
    (u.enterPending c b).tamperRecord d = u.tamperRecord d := by
  unfold Part.enterPending
  dsimp only
  split
  · rw [Part.putRecord_other e]
  · rw [Part.becomePresent_other h e]

theorem Part.conditionArises_other {c d : TamperCause} (h : d ≠ .bypass) (e : d ≠ c) (u : Part) :
    (u.conditionArises c).tamperRecord d = u.tamperRecord d := by
  unfold Part.conditionArises
  dsimp only
  repeat' split
  all_goals simp [Part.putRecord_other e, Part.enterPending_other h e]

/-- A condition's event leaves the other records, apart from that of BYPASS, which a closing may end (R116). -/
theorem Part.setCondition_other {c d : TamperCause} (h : d ≠ .bypass) (e : d ≠ c) (b : Bool) (u : Part) :
    (u.setCondition c b).tamperRecord d = u.tamperRecord d := by
  unfold Part.setCondition
  dsimp only
  repeat' split
  · rfl
  · rw [Part.conditionArises_other h e]
  · rw [Part.evaluateTamper_record h, Part.conditionEnds_other e]
  · rw [Part.conditionEnds_other e]

theorem Part.enterPending_condition {c : TamperCause} (h : c ≠ .bypass) (b : Bool) (u : Part) :
    (u.enterPending c b).condition c = u.condition c := by
  unfold Part.enterPending Part.condition
  dsimp only
  split
  · simp
  · rw [Part.becomePresent_self h]; rfl

theorem Part.conditionArises_condition {c : TamperCause} (h : c ≠ .bypass) (u : Part) :
    (u.conditionArises c).condition c = true := by
  unfold Part.conditionArises
  dsimp only
  repeat' split
  all_goals first
    | (rw [Part.enterPending_condition h]; simp [Part.condition])
    | simp [Part.condition]

/-- An event of an input gives its cause's condition (R133). -/
@[simp] theorem Part.setCondition_condition {c : TamperCause} (h : c ≠ .bypass) (b : Bool) (u : Part) :
    (u.setCondition c b).condition c = b := by
  unfold Part.setCondition
  dsimp only
  split
  · assumption
  · cases b
    · simp only [Bool.false_eq_true, if_false]
      have k := Part.conditionEnds_condition c u
      split
      · unfold Part.condition at k ⊢; rw [Part.evaluateTamper_record h]; exact k
      · exact k
    · simp only [if_true]
      exact Part.conditionArises_condition h u

end Sys2Proof.Machine
end

