-- ==== Sys2Proof/Laws/Books.lean ====
section
/-! SUPPORT. What every operation that makes no charge, credit or grant keeps: the books of the account, the records of the
checkpoint log, and the record being written, which is an earlier one or a snapshot of these books (R22, R23, R153). -/

namespace Sys2Proof.Machine

/-- `v` follows from `u` by operations that leave the books alone. -/
structure Part.KeepsBooks (u v : Part) : Prop where
  books : v.account.books = u.account.books
  charges : v.account.chargesSinceCheckpoint = u.account.chargesSinceCheckpoint ∨ v.account.chargesSinceCheckpoint = 0
  log : ∀ r, Slot.valid r ∈ v.array.log.toList → Slot.valid r ∈ u.array.log.toList
  inFlight : ∀ c, v.store.inFlight = some (.checkpoint c) →
    c.record.account.books = u.account.books ∨ ∃ d, u.store.inFlight = some (.checkpoint d) ∧ c.record = d.record

namespace Part.KeepsBooks

theorem refl (u : Part) : u.KeepsBooks u := ⟨rfl, .inl rfl, fun _ h => h, fun c h => .inr ⟨c, h, rfl⟩⟩

theorem trans {u v w : Part} (a : u.KeepsBooks v) (b : v.KeepsBooks w) : u.KeepsBooks w where
  books := b.books.trans a.books
  charges := by
    rcases b.charges with h | h
    · rw [h]; exact a.charges
    · exact .inr h
  log := fun r h => a.log r (b.log r h)
  inFlight := by
    intro c h
    rcases b.inFlight c h with k | ⟨d, hd, e⟩
    · exact .inl (k.trans a.books)
    · rw [e]; exact a.inFlight d hd

/-- An update that touches none of what is kept. -/
theorem of_eq {u v : Part} (a : v.account = u.account) (l : v.array.log = u.array.log)
    (i : v.store.inFlight = u.store.inFlight) : u.KeepsBooks v :=
  ⟨by rw [a], .inl (by rw [a]), fun r h => l ▸ h, fun c h => .inr ⟨c, i ▸ h, rfl⟩⟩

/-- Operations after an update that touches none of what is kept. -/
theorem after {u v w : Part} (h : v.KeepsBooks w) (a : v.account = u.account := by rfl)
    (l : v.array.log = u.array.log := by rfl) (i : v.store.inFlight = u.store.inFlight := by rfl) : u.KeepsBooks w :=
  (of_eq a l i).trans h

end Part.KeepsBooks

/-- Writing `invalid` into a slot adds no record. -/
theorem mem_setLog_invalid {v : NvArray} {slot : Nat} {r : CheckpointRecord}
    (h : Slot.valid r ∈ (v.setLog slot .invalid).log.toList) : Slot.valid r ∈ v.log.toList := by
  unfold NvArray.setLog at h
  rw [Vector.toList_setIfInBounds] at h
  rcases List.mem_or_eq_of_mem_set h with k | k
  · exact k
  · cases k

/-- Writing a record into a slot adds that record at most. -/
theorem mem_setLog_valid {v : NvArray} {slot : Nat} {r x : CheckpointRecord}
    (h : Slot.valid r ∈ (v.setLog slot (.valid x)).log.toList) : Slot.valid r ∈ v.log.toList ∨ r = x := by
  unfold NvArray.setLog at h
  rw [Vector.toList_setIfInBounds] at h
  rcases List.mem_or_eq_of_mem_set h with k | k
  · exact .inl k
  · exact .inr (by cases k; rfl)

namespace Part

open Part.KeepsBooks (of_eq)

theorem markDue_keeps (u : Part) : u.KeepsBooks u.markDue := by
  refine ⟨rfl, .inl rfl, fun _ h => h, fun c h => .inr ?_⟩
  unfold Part.markDue at h
  dsimp only at h
  cases e : u.store.inFlight with
  | none => rw [e] at h; cases h
  | some a =>
    rw [e] at h
    cases a with
    | checkpoint d => exact ⟨d, rfl, by cases h; rfl⟩
    | bank | config | journal => cases h

theorem markDueIf_keeps (b : Bool) (u : Part) : u.KeepsBooks (Part.markDueIf b u) := by
  cases b
  · exact KeepsBooks.refl u
  · exact markDue_keeps u

theorem startCheckpoint_keeps (u : Part) (r : ReasonSet) : u.KeepsBooks (u.startCheckpoint r) := by
  refine ⟨rfl, .inr rfl, ?_, ?_⟩
  · intro x h
    unfold Part.startCheckpoint at h
    dsimp only at h
    split at h
    · exact h
    · exact mem_setLog_invalid h
  · intro c h
    unfold Part.startCheckpoint at h
    dsimp only at h
    simp only [Option.some.injEq, Attempt.checkpoint.injEq] at h
    subst h
    exact .inl rfl

theorem startClass2_keeps (u : Part) (w : Class2Write) (l : List Class2Write) : u.KeepsBooks (u.startClass2 w l) := by
  refine ⟨rfl, .inl rfl, fun _ h => h, fun c h => ?_⟩
  unfold Part.startClass2 at h
  cases w <;> simp at h

theorem startJournal_keeps (u : Part) (r : JournalRequest) (l : List JournalRequest) :
    u.KeepsBooks (u.startJournal r l) := by
  unfold Part.startJournal
  dsimp only
  split
  · exact ⟨rfl, .inl rfl, fun _ h => h, fun c h => by simp at h⟩
  · exact ⟨rfl, .inl rfl, fun _ h => h, fun c h => by simp [Part.markDue, Attempt.noteChange] at h⟩

theorem startNext_keeps (u : Part) : u.KeepsBooks u.startNext := by
  unfold Part.startNext
  repeat' split
  all_goals first
    | exact KeepsBooks.refl _
    | exact startCheckpoint_keeps _ _
    | exact startClass2_keeps _ _ _
    | exact startJournal_keeps _ _ _

theorem requestCheckpoint_keeps (r : CheckpointReason) (u : Part) : u.KeepsBooks (u.requestCheckpoint r) :=
  (startNext_keeps _).after

theorem submitClass2_keeps (w : Class2Write) (u : Part) : u.KeepsBooks (u.submitClass2 w) :=
  (startNext_keeps _).after

theorem submitJournal_keeps (r : JournalRequest) (u : Part) : u.KeepsBooks (u.submitJournal r) := by
  unfold Part.submitJournal
  split
  · exact KeepsBooks.refl u
  · exact (startNext_keeps _).after

theorem journal_keeps (d : JournalDetail) (u : Part) : u.KeepsBooks (u.journal d) := submitJournal_keeps _ _

theorem placeOn_keeps (p : Port) (x : Notice) (u : Part) : u.KeepsBooks (u.placeOn p x) := of_eq rfl rfl rfl

theorem placeIf_keeps (b : Bool) (p : Port) (x : Notice) (u : Part) : u.KeepsBooks (u.placeIf b p x) :=
  of_eq (by simp) (by simp) (by simp)

theorem place_keeps (x : Notice) (u : Part) : u.KeepsBooks (u.place x) := of_eq (by simp) (by simp) (by simp)

theorem putRecord_keeps (c : TamperCause) (r : TamperRecord) (u : Part) : u.KeepsBooks (u.putRecord c r) :=
  (markDueIf_keeps _ _).after

theorem putLogical_keeps (l : Logical) (u : Part) : u.KeepsBooks (u.putLogical l) :=
  (markDueIf_keeps _ _).after

theorem putOpeningRecord_keeps (r : OpeningRecord) (u : Part) : u.KeepsBooks (u.putOpeningRecord r) :=
  (markDueIf_keeps _ _).after

theorem settleRelay_keeps (st : Settled) (u : Part) : u.KeepsBooks (u.settleRelay st) :=
  (putLogical_keeps _ _).after

theorem enterRecord_keeps (c : CauseSet) (u : Part) : u.KeepsBooks (u.enterRecord c) := putOpeningRecord_keeps _ _

theorem bufferEvent_keeps (k : Cover) (b : Bool) (u : Part) : u.KeepsBooks (u.bufferEvent k b) := by
  unfold Part.bufferEvent
  split
  · exact KeepsBooks.refl u
  · exact of_eq rfl rfl rfl

theorem absentEvidence_keeps (c : TamperCause) (u : Part) : u.KeepsBooks (u.absentEvidence c) := by
  unfold Part.absentEvidence
  dsimp only
  repeat' split
  · exact (bufferEvent_keeps _ _ _).trans (markDue_keeps _)
  · exact journal_keeps _ _
  · exact journal_keeps _ _
  · exact markDue_keeps _

theorem becomeAbsent_keeps (c : TamperCause) (u : Part) : u.KeepsBooks (u.becomeAbsent c) :=
  (putRecord_keeps _ _ _).trans (absentEvidence_keeps _ _)

theorem conditionEnds_keeps (c : TamperCause) (u : Part) : u.KeepsBooks (u.conditionEnds c) := by
  unfold Part.conditionEnds
  dsimp only
  repeat' split
  all_goals first
    | exact putRecord_keeps _ _ _
    | exact (putRecord_keeps _ _ _).trans (becomeAbsent_keeps _ _)

theorem leaveBypassWatch_keeps (d : Direction) (u : Part) : u.KeepsBooks (u.leaveBypassWatch d) := by
  unfold Part.leaveBypassWatch
  repeat' split
  all_goals first
    | exact KeepsBooks.refl _
    | exact conditionEnds_keeps _ _

theorem startOperation_keeps (d : Direction) (r : Reason) (u : Part) : u.KeepsBooks (u.startOperation d r) := by
  unfold Part.startOperation
  split
  · refine KeepsBooks.trans ?_ (placeIf_keeps _ _ _ _)
    refine KeepsBooks.trans ?_ (placeIf_keeps _ _ _ _)
    exact (((leaveBypassWatch_keeps d u).trans (putOpeningRecord_keeps _ _)).trans (putLogical_keeps _ _)).trans
      (of_eq rfl rfl rfl)
  · exact KeepsBooks.refl u

theorem leaveOpen_keeps (u : Part) : u.KeepsBooks u.leaveOpen := by
  unfold Part.leaveOpen
  split
  · exact (settleRelay_keeps _ _).trans (place_keeps _ _)
  · exact startOperation_keeps _ _ _

theorem actOn_keeps (st : Settled) (c : CauseSet) (u : Part) : u.KeepsBooks (u.actOn st c) := by
  unfold Part.actOn
  cases st <;> dsimp only <;> (try split)
  all_goals first
    | exact KeepsBooks.refl _
    | exact startOperation_keeps _ _ _
    | exact enterRecord_keeps _ _
    | exact (enterRecord_keeps _ _).trans (leaveOpen_keeps _)
    | exact (enterRecord_keeps _ _).trans (settleRelay_keeps _ _)

theorem recompute_keeps (u : Part) : u.KeepsBooks u.recompute := by
  unfold Part.recompute
  repeat' split
  · exact KeepsBooks.refl u
  · exact (actOn_keeps _ _ _).after
  · exact KeepsBooks.refl u

theorem handCauses_keeps (c : CauseSet) (u : Part) : u.KeepsBooks (u.handCauses c) := by
  unfold Part.handCauses
  split
  · exact KeepsBooks.refl u
  · exact (recompute_keeps _).after

theorem evaluateTamper_keeps (u : Part) : u.KeepsBooks u.evaluateTamper :=
  (handCauses_keeps _ _).after

theorem evaluateTamperQuietly_keeps (u : Part) : u.KeepsBooks u.evaluateTamperQuietly := of_eq rfl rfl rfl

theorem presentEvidence_keeps (c : TamperCause) (u : Part) : u.KeepsBooks (u.presentEvidence c) := by
  unfold Part.presentEvidence
  dsimp only
  split
  · exact ((journal_keeps _ u).trans (evaluateTamper_keeps _)).trans (requestCheckpoint_keeps _ _)
  · exact (((journal_keeps _ u).trans (place_keeps _ _)).trans (evaluateTamper_keeps _)).trans
      (requestCheckpoint_keeps _ _)

theorem presentOnBattery_keeps (k : Cover) (u : Part) : u.KeepsBooks (u.presentOnBattery k) := by
  unfold Part.presentOnBattery
  dsimp only
  have h := ((putRecord_keeps (coverCause k) { u.tamperRecord (coverCause k) with raisedOnBattery := true } u).trans
    (bufferEvent_keeps k true _)).trans (markDue_keeps _)
  split
  · exact h.trans (evaluateTamper_keeps _)
  · exact h

theorem becomePresent_keeps (c : TamperCause) (u : Part) : u.KeepsBooks (u.becomePresent c) := by
  unfold Part.becomePresent
  dsimp only
  repeat' split
  all_goals first
    | exact (putRecord_keeps _ _ _).trans (presentOnBattery_keeps _ _)
    | exact (putRecord_keeps _ _ _).trans (presentEvidence_keeps _ _)

theorem enterPending_keeps (c : TamperCause) (b : Bool) (u : Part) : u.KeepsBooks (u.enterPending c b) := by
  unfold Part.enterPending
  dsimp only
  split
  · exact putRecord_keeps _ _ _
  · exact becomePresent_keeps _ _

theorem conditionArises_keeps (c : TamperCause) (u : Part) : u.KeepsBooks (u.conditionArises c) := by
  unfold Part.conditionArises
  dsimp only
  repeat' split
  all_goals first
    | exact putRecord_keeps _ _ _
    | exact (putRecord_keeps _ _ _).trans (enterPending_keeps _ _ _)
    | exact (putRecord_keeps _ _ _).trans (putRecord_keeps _ _ _)

theorem setCondition_keeps (c : TamperCause) (b : Bool) (u : Part) : u.KeepsBooks (u.setCondition c b) := by
  unfold Part.setCondition
  dsimp only
  repeat' split
  · exact KeepsBooks.refl u
  · exact conditionArises_keeps _ _
  · exact (conditionEnds_keeps _ _).trans (evaluateTamper_keeps _)
  · exact conditionEnds_keeps _ _

theorem placeWhen_keeps (b : Prop) [Decidable b] (x : Notice) (u : Part) :
    u.KeepsBooks (if b then u.place x else u) := by
  split
  · exact place_keeps _ _
  · exact KeepsBooks.refl u

theorem placeUnless_keeps (b : Prop) [Decidable b] (x : Notice) (u : Part) :
    u.KeepsBooks (if b then u else u.place x) := by
  split
  · exact KeepsBooks.refl u
  · exact place_keeps _ _

theorem creditNotices_keeps (a : Account) (u : Part) : u.KeepsBooks (u.creditNotices a) :=
  (((placeWhen_keeps _ _ u).trans (placeWhen_keeps _ _ _)).trans (placeWhen_keeps _ _ _)).trans
    (placeUnless_keeps _ _ _)

/-- An account with the same books and charges takes the old one's place. -/
theorem putAccount_keeps {a : Account} {u : Part} (b : a.books = u.account.books)
    (c : a.chargesSinceCheckpoint = u.account.chargesSinceCheckpoint) : u.KeepsBooks (u.putAccount a) := by
  unfold Part.putAccount
  split
  · exact KeepsBooks.refl u
  · refine KeepsBooks.trans (v := { u with account := a }) ?_ (markDue_keeps _)
    exact ⟨b, .inl c, fun _ h => h, fun d h => .inr ⟨d, h, rfl⟩⟩

theorem deriveQuietly_keeps (u : Part) : u.KeepsBooks u.deriveQuietly := by
  unfold Part.deriveQuietly
  dsimp only
  exact KeepsBooks.trans (v := u.putAccount u.derivedAccount) (putAccount_keeps rfl rfl) (creditNotices_keeps _ _).after

theorem derive_keeps (u : Part) : u.KeepsBooks u.derive := by
  unfold Part.derive
  dsimp only
  split
  · exact deriveQuietly_keeps u
  · exact (deriveQuietly_keeps u).trans (recompute_keeps _)

theorem afterCharge_keeps (c : Nat) (u : Part) : u.KeepsBooks (u.afterCharge c) := by
  unfold Part.afterCharge
  dsimp only
  repeat' split
  · exact derive_keeps u
  · exact (derive_keeps u).trans (requestCheckpoint_keeps _ _)
  · exact derive_keeps u

end Part

end Sys2Proof.Machine
end

