-- ==== Sys2Proof/Laws/State.lean ====
section
/-! SUPPORT. One lemma per field per named update of the part, true by rfl. -/

namespace Sys2Proof.Machine

@[simp] theorem State.withFront_part (s : State) (c : Instr) : (s.withFront c).part = s.part := rfl
@[simp] theorem State.withFront_pending (s : State) (c : Instr) : (s.withFront c).pending = c :: s.pending := rfl

/-! `setReceive` -/

@[simp] theorem Part.setReceive_power (p : Port) (st : Receive) (u : Part) : (u.setReceive p st).power = u.power := rfl
@[simp] theorem Part.setReceive_lostMark (p : Port) (st : Receive) (u : Part) : (u.setReceive p st).lostMark = u.lostMark := rfl
@[simp] theorem Part.setReceive_lifecycle (p : Port) (st : Receive) (u : Part) : (u.setReceive p st).lifecycle = u.lifecycle := rfl
@[simp] theorem Part.setReceive_timeBase (p : Port) (st : Receive) (u : Part) : (u.setReceive p st).timeBase = u.timeBase := rfl
@[simp] theorem Part.setReceive_clock (p : Port) (st : Receive) (u : Part) : (u.setReceive p st).clock = u.clock := rfl
@[simp] theorem Part.setReceive_inputs (p : Port) (st : Receive) (u : Part) : (u.setReceive p st).inputs = u.inputs := rfl
@[simp] theorem Part.setReceive_outputs (p : Port) (st : Receive) (u : Part) : (u.setReceive p st).outputs = u.outputs := rfl
@[simp] theorem Part.setReceive_account (p : Port) (st : Receive) (u : Part) : (u.setReceive p st).account = u.account := rfl
@[simp] theorem Part.setReceive_accountCauses (p : Port) (st : Receive) (u : Part) : (u.setReceive p st).accountCauses = u.accountCauses := rfl
@[simp] theorem Part.setReceive_pulse (p : Port) (st : Receive) (u : Part) : (u.setReceive p st).pulse = u.pulse := rfl
@[simp] theorem Part.setReceive_recon (p : Port) (st : Receive) (u : Part) : (u.setReceive p st).recon = u.recon := rfl
@[simp] theorem Part.setReceive_tariff (p : Port) (st : Receive) (u : Part) : (u.setReceive p st).tariff = u.tariff := rfl
@[simp] theorem Part.setReceive_codes (p : Port) (st : Receive) (u : Part) : (u.setReceive p st).codes = u.codes := rfl
@[simp] theorem Part.setReceive_supply (p : Port) (st : Receive) (u : Part) : (u.setReceive p st).supply = u.supply := rfl
@[simp] theorem Part.setReceive_load (p : Port) (st : Receive) (u : Part) : (u.setReceive p st).load = u.load := rfl
@[simp] theorem Part.setReceive_tamper (p : Port) (st : Receive) (u : Part) : (u.setReceive p st).tamper = u.tamper := rfl
@[simp] theorem Part.setReceive_checkpointDue (p : Port) (st : Receive) (u : Part) : (u.setReceive p st).checkpointDue = u.checkpointDue := rfl
@[simp] theorem Part.setReceive_store (p : Port) (st : Receive) (u : Part) : (u.setReceive p st).store = u.store := rfl
@[simp] theorem Part.setReceive_array (p : Port) (st : Receive) (u : Part) : (u.setReceive p st).array = u.array := rfl
@[simp] theorem Part.setReceive_config (p : Port) (st : Receive) (u : Part) : (u.setReceive p st).config = u.config := rfl
@[simp] theorem Part.setReceive_links (p : Port) (st : Receive) (u : Part) : (u.setReceive p st).links = u.links := rfl
@[simp] theorem Part.setReceive_overtaken (p : Port) (st : Receive) (u : Part) : (u.setReceive p st).overtaken = u.overtaken := rfl
@[simp] theorem Part.setReceive_notices (p : Port) (st : Receive) (u : Part) : (u.setReceive p st).notices = u.notices := rfl

/-! `noteCarried` -/

@[simp] theorem Part.noteCarried_power (a : Option Area) (u : Part) : (u.noteCarried a).power = u.power := rfl
@[simp] theorem Part.noteCarried_lostMark (a : Option Area) (u : Part) : (u.noteCarried a).lostMark = u.lostMark := rfl
@[simp] theorem Part.noteCarried_lifecycle (a : Option Area) (u : Part) : (u.noteCarried a).lifecycle = u.lifecycle := rfl
@[simp] theorem Part.noteCarried_timeBase (a : Option Area) (u : Part) : (u.noteCarried a).timeBase = u.timeBase := rfl
@[simp] theorem Part.noteCarried_clock (a : Option Area) (u : Part) : (u.noteCarried a).clock = u.clock := rfl
@[simp] theorem Part.noteCarried_inputs (a : Option Area) (u : Part) : (u.noteCarried a).inputs = u.inputs := rfl
@[simp] theorem Part.noteCarried_outputs (a : Option Area) (u : Part) : (u.noteCarried a).outputs = u.outputs := rfl
@[simp] theorem Part.noteCarried_account (a : Option Area) (u : Part) : (u.noteCarried a).account = u.account := rfl
@[simp] theorem Part.noteCarried_accountCauses (a : Option Area) (u : Part) : (u.noteCarried a).accountCauses = u.accountCauses := rfl
@[simp] theorem Part.noteCarried_pulse (a : Option Area) (u : Part) : (u.noteCarried a).pulse = u.pulse := rfl
@[simp] theorem Part.noteCarried_recon (a : Option Area) (u : Part) : (u.noteCarried a).recon = u.recon := rfl
@[simp] theorem Part.noteCarried_codes (a : Option Area) (u : Part) : (u.noteCarried a).codes = u.codes := rfl
@[simp] theorem Part.noteCarried_supply (a : Option Area) (u : Part) : (u.noteCarried a).supply = u.supply := rfl
@[simp] theorem Part.noteCarried_load (a : Option Area) (u : Part) : (u.noteCarried a).load = u.load := rfl
@[simp] theorem Part.noteCarried_tamper (a : Option Area) (u : Part) : (u.noteCarried a).tamper = u.tamper := rfl
@[simp] theorem Part.noteCarried_checkpointDue (a : Option Area) (u : Part) : (u.noteCarried a).checkpointDue = u.checkpointDue := rfl
@[simp] theorem Part.noteCarried_store (a : Option Area) (u : Part) : (u.noteCarried a).store = u.store := rfl
@[simp] theorem Part.noteCarried_array (a : Option Area) (u : Part) : (u.noteCarried a).array = u.array := rfl
@[simp] theorem Part.noteCarried_config (a : Option Area) (u : Part) : (u.noteCarried a).config = u.config := rfl
@[simp] theorem Part.noteCarried_receivers (a : Option Area) (u : Part) : (u.noteCarried a).receivers = u.receivers := rfl
@[simp] theorem Part.noteCarried_links (a : Option Area) (u : Part) : (u.noteCarried a).links = u.links := rfl
@[simp] theorem Part.noteCarried_notices (a : Option Area) (u : Part) : (u.noteCarried a).notices = u.notices := rfl
@[simp] theorem Part.noteCarried_overtaken (a : Option Area) (u : Part) : (u.noteCarried a).overtaken = u.overtaken := rfl

/-! `overtaking` -/

@[simp] theorem Part.overtaking_power (u : Part) (w : List Instr) (v : Part) : (u.overtaking w v).power = v.power := rfl
@[simp] theorem Part.overtaking_lostMark (u : Part) (w : List Instr) (v : Part) : (u.overtaking w v).lostMark = v.lostMark := rfl
@[simp] theorem Part.overtaking_lifecycle (u : Part) (w : List Instr) (v : Part) : (u.overtaking w v).lifecycle = v.lifecycle := rfl
@[simp] theorem Part.overtaking_timeBase (u : Part) (w : List Instr) (v : Part) : (u.overtaking w v).timeBase = v.timeBase := rfl
@[simp] theorem Part.overtaking_clock (u : Part) (w : List Instr) (v : Part) : (u.overtaking w v).clock = v.clock := rfl
@[simp] theorem Part.overtaking_inputs (u : Part) (w : List Instr) (v : Part) : (u.overtaking w v).inputs = v.inputs := rfl
@[simp] theorem Part.overtaking_outputs (u : Part) (w : List Instr) (v : Part) : (u.overtaking w v).outputs = v.outputs := rfl
@[simp] theorem Part.overtaking_account (u : Part) (w : List Instr) (v : Part) : (u.overtaking w v).account = v.account := rfl
@[simp] theorem Part.overtaking_accountCauses (u : Part) (w : List Instr) (v : Part) : (u.overtaking w v).accountCauses = v.accountCauses := rfl
@[simp] theorem Part.overtaking_pulse (u : Part) (w : List Instr) (v : Part) : (u.overtaking w v).pulse = v.pulse := rfl
@[simp] theorem Part.overtaking_recon (u : Part) (w : List Instr) (v : Part) : (u.overtaking w v).recon = v.recon := rfl
@[simp] theorem Part.overtaking_tariff (u : Part) (w : List Instr) (v : Part) : (u.overtaking w v).tariff = v.tariff := rfl
@[simp] theorem Part.overtaking_codes (u : Part) (w : List Instr) (v : Part) : (u.overtaking w v).codes = v.codes := rfl
@[simp] theorem Part.overtaking_supply (u : Part) (w : List Instr) (v : Part) : (u.overtaking w v).supply = v.supply := rfl
@[simp] theorem Part.overtaking_load (u : Part) (w : List Instr) (v : Part) : (u.overtaking w v).load = v.load := rfl
@[simp] theorem Part.overtaking_tamper (u : Part) (w : List Instr) (v : Part) : (u.overtaking w v).tamper = v.tamper := rfl
@[simp] theorem Part.overtaking_checkpointDue (u : Part) (w : List Instr) (v : Part) : (u.overtaking w v).checkpointDue = v.checkpointDue := rfl
@[simp] theorem Part.overtaking_store (u : Part) (w : List Instr) (v : Part) : (u.overtaking w v).store = v.store := rfl
@[simp] theorem Part.overtaking_array (u : Part) (w : List Instr) (v : Part) : (u.overtaking w v).array = v.array := rfl
@[simp] theorem Part.overtaking_config (u : Part) (w : List Instr) (v : Part) : (u.overtaking w v).config = v.config := rfl
@[simp] theorem Part.overtaking_receivers (u : Part) (w : List Instr) (v : Part) : (u.overtaking w v).receivers = v.receivers := rfl
@[simp] theorem Part.overtaking_links (u : Part) (w : List Instr) (v : Part) : (u.overtaking w v).links = v.links := rfl
@[simp] theorem Part.overtaking_notices (u : Part) (w : List Instr) (v : Part) : (u.overtaking w v).notices = v.notices := rfl

/-- Only an expiry that waits and whose time had come enters the list. -/
theorem Part.mem_overtaking {u v : Part} {w : List Instr} {i : Instr} :
    i ∈ (u.overtaking w v).overtaken ↔
      i ∈ v.overtaken ∨ (i ∈ w ∧ u.hasCome i = true ∧ v.hasCome i = false) := by
  by_cases h : i ∈ v.overtaken <;> simp [Part.overtaking, h]

/-- With nothing waiting nothing is overtaken. -/
@[simp] theorem Part.overtaking_nil (u v : Part) : u.overtaking [] v = v := by simp [Part.overtaking]

/-- An event that leaves every time as it stands overtakes nothing. -/
theorem Part.overtaking_of_hasCome {u v : Part} (h : ∀ i, v.hasCome i = u.hasCome i) (w : List Instr) :
    u.overtaking w v = v := by
  simp [Part.overtaking, h]

/-! `becomes` -/

@[simp] theorem State.becomes_pending (s : State) (u : Part) : (s.becomes u).pending = s.pending := rfl
@[simp] theorem State.becomes_part (s : State) (u : Part) :
    (s.becomes u).part = s.part.overtaking s.pending u.watchContacts := rfl

theorem answer_eq (s : State) (f : Part → Part) : answer s f = .next (s.becomes (f s.part)) := rfl

/-! `unlessOvertaken`, `expire` -/

theorem Part.unlessOvertaken_of_not_mem {i : Instr} {u : Part} (h : i ∉ u.overtaken) (f : Part → Part) :
    u.unlessOvertaken i f = f u := by
  simp [Part.unlessOvertaken, h]

theorem Part.unlessOvertaken_of_mem {i : Instr} {u : Part} (h : i ∈ u.overtaken) (f : Part → Part) :
    u.unlessOvertaken i f = { u with overtaken := u.overtaken.erase i } := by
  simp [Part.unlessOvertaken, h]

/-- An expiry that nothing has overtaken has its effect. -/
theorem expire_of_not_mem {i : Instr} {s : State} (h : i ∉ s.part.overtaken) (f : Part → Part) :
    expire i s f = .next (s.becomes (f s.part)) := by
  simp [expire, answer, Part.unlessOvertaken_of_not_mem h]

/-- An overtaken expiry leaves the list and does nothing else. -/
theorem expire_of_mem {i : Instr} {s : State} (h : i ∈ s.part.overtaken) (f : Part → Part) :
    expire i s f = .next (s.becomes { s.part with overtaken := s.part.overtaken.erase i }) := by
  simp [expire, answer, Part.unlessOvertaken_of_mem h]

/-! `hear` -/

@[simp] theorem Part.hear_power (p : Port) (st : Receive) (u : Part) : (u.hear p st).power = u.power := rfl
@[simp] theorem Part.hear_lostMark (p : Port) (st : Receive) (u : Part) : (u.hear p st).lostMark = u.lostMark := rfl
@[simp] theorem Part.hear_lifecycle (p : Port) (st : Receive) (u : Part) : (u.hear p st).lifecycle = u.lifecycle := rfl
@[simp] theorem Part.hear_timeBase (p : Port) (st : Receive) (u : Part) : (u.hear p st).timeBase = u.timeBase := rfl
@[simp] theorem Part.hear_clock (p : Port) (st : Receive) (u : Part) : (u.hear p st).clock = u.clock := rfl
@[simp] theorem Part.hear_inputs (p : Port) (st : Receive) (u : Part) : (u.hear p st).inputs = u.inputs := rfl
@[simp] theorem Part.hear_outputs (p : Port) (st : Receive) (u : Part) : (u.hear p st).outputs = u.outputs := rfl
@[simp] theorem Part.hear_account (p : Port) (st : Receive) (u : Part) : (u.hear p st).account = u.account := rfl
@[simp] theorem Part.hear_accountCauses (p : Port) (st : Receive) (u : Part) : (u.hear p st).accountCauses = u.accountCauses := rfl
@[simp] theorem Part.hear_pulse (p : Port) (st : Receive) (u : Part) : (u.hear p st).pulse = u.pulse := rfl
@[simp] theorem Part.hear_recon (p : Port) (st : Receive) (u : Part) : (u.hear p st).recon = u.recon := rfl
@[simp] theorem Part.hear_tariff (p : Port) (st : Receive) (u : Part) : (u.hear p st).tariff = u.tariff := rfl
@[simp] theorem Part.hear_codes (p : Port) (st : Receive) (u : Part) : (u.hear p st).codes = u.codes := rfl
@[simp] theorem Part.hear_supply (p : Port) (st : Receive) (u : Part) : (u.hear p st).supply = u.supply := rfl
@[simp] theorem Part.hear_load (p : Port) (st : Receive) (u : Part) : (u.hear p st).load = u.load := rfl
@[simp] theorem Part.hear_tamper (p : Port) (st : Receive) (u : Part) : (u.hear p st).tamper = u.tamper := rfl
@[simp] theorem Part.hear_checkpointDue (p : Port) (st : Receive) (u : Part) : (u.hear p st).checkpointDue = u.checkpointDue := rfl
@[simp] theorem Part.hear_store (p : Port) (st : Receive) (u : Part) : (u.hear p st).store = u.store := rfl
@[simp] theorem Part.hear_array (p : Port) (st : Receive) (u : Part) : (u.hear p st).array = u.array := rfl
@[simp] theorem Part.hear_config (p : Port) (st : Receive) (u : Part) : (u.hear p st).config = u.config := rfl
@[simp] theorem Part.hear_links (p : Port) (st : Receive) (u : Part) : (u.hear p st).links = u.links := rfl
@[simp] theorem Part.hear_overtaken (p : Port) (st : Receive) (u : Part) : (u.hear p st).overtaken = u.overtaken := rfl
@[simp] theorem Part.hear_notices (p : Port) (st : Receive) (u : Part) : (u.hear p st).notices = u.notices := rfl

/-! `setFailureRun` -/

@[simp] theorem Part.setFailureRun_power (n : Nat) (u : Part) : (u.setFailureRun n).power = u.power := rfl
@[simp] theorem Part.setFailureRun_lostMark (n : Nat) (u : Part) : (u.setFailureRun n).lostMark = u.lostMark := rfl
@[simp] theorem Part.setFailureRun_lifecycle (n : Nat) (u : Part) : (u.setFailureRun n).lifecycle = u.lifecycle := rfl
@[simp] theorem Part.setFailureRun_timeBase (n : Nat) (u : Part) : (u.setFailureRun n).timeBase = u.timeBase := rfl
@[simp] theorem Part.setFailureRun_clock (n : Nat) (u : Part) : (u.setFailureRun n).clock = u.clock := rfl
@[simp] theorem Part.setFailureRun_inputs (n : Nat) (u : Part) : (u.setFailureRun n).inputs = u.inputs := rfl
@[simp] theorem Part.setFailureRun_outputs (n : Nat) (u : Part) : (u.setFailureRun n).outputs = u.outputs := rfl
@[simp] theorem Part.setFailureRun_account (n : Nat) (u : Part) : (u.setFailureRun n).account = u.account := rfl
@[simp] theorem Part.setFailureRun_accountCauses (n : Nat) (u : Part) : (u.setFailureRun n).accountCauses = u.accountCauses := rfl
@[simp] theorem Part.setFailureRun_pulse (n : Nat) (u : Part) : (u.setFailureRun n).pulse = u.pulse := rfl
@[simp] theorem Part.setFailureRun_recon (n : Nat) (u : Part) : (u.setFailureRun n).recon = u.recon := rfl
@[simp] theorem Part.setFailureRun_tariff (n : Nat) (u : Part) : (u.setFailureRun n).tariff = u.tariff := rfl
@[simp] theorem Part.setFailureRun_codes (n : Nat) (u : Part) : (u.setFailureRun n).codes = u.codes := rfl
@[simp] theorem Part.setFailureRun_supply (n : Nat) (u : Part) : (u.setFailureRun n).supply = u.supply := rfl
@[simp] theorem Part.setFailureRun_load (n : Nat) (u : Part) : (u.setFailureRun n).load = u.load := rfl
@[simp] theorem Part.setFailureRun_tamper (n : Nat) (u : Part) : (u.setFailureRun n).tamper = u.tamper := rfl
@[simp] theorem Part.setFailureRun_checkpointDue (n : Nat) (u : Part) : (u.setFailureRun n).checkpointDue = u.checkpointDue := rfl
@[simp] theorem Part.setFailureRun_array (n : Nat) (u : Part) : (u.setFailureRun n).array = u.array := rfl
@[simp] theorem Part.setFailureRun_config (n : Nat) (u : Part) : (u.setFailureRun n).config = u.config := rfl
@[simp] theorem Part.setFailureRun_receivers (n : Nat) (u : Part) : (u.setFailureRun n).receivers = u.receivers := rfl
@[simp] theorem Part.setFailureRun_links (n : Nat) (u : Part) : (u.setFailureRun n).links = u.links := rfl
@[simp] theorem Part.setFailureRun_overtaken (n : Nat) (u : Part) : (u.setFailureRun n).overtaken = u.overtaken := rfl
@[simp] theorem Part.setFailureRun_notices (n : Nat) (u : Part) : (u.setFailureRun n).notices = u.notices := rfl

/-! `putInFlight` -/

@[simp] theorem Part.putInFlight_power (a : Option Attempt) (u : Part) : (u.putInFlight a).power = u.power := rfl
@[simp] theorem Part.putInFlight_lostMark (a : Option Attempt) (u : Part) : (u.putInFlight a).lostMark = u.lostMark := rfl
@[simp] theorem Part.putInFlight_lifecycle (a : Option Attempt) (u : Part) : (u.putInFlight a).lifecycle = u.lifecycle := rfl
@[simp] theorem Part.putInFlight_timeBase (a : Option Attempt) (u : Part) : (u.putInFlight a).timeBase = u.timeBase := rfl
@[simp] theorem Part.putInFlight_clock (a : Option Attempt) (u : Part) : (u.putInFlight a).clock = u.clock := rfl
@[simp] theorem Part.putInFlight_inputs (a : Option Attempt) (u : Part) : (u.putInFlight a).inputs = u.inputs := rfl
@[simp] theorem Part.putInFlight_outputs (a : Option Attempt) (u : Part) : (u.putInFlight a).outputs = u.outputs := rfl
@[simp] theorem Part.putInFlight_account (a : Option Attempt) (u : Part) : (u.putInFlight a).account = u.account := rfl
@[simp] theorem Part.putInFlight_accountCauses (a : Option Attempt) (u : Part) : (u.putInFlight a).accountCauses = u.accountCauses := rfl
@[simp] theorem Part.putInFlight_pulse (a : Option Attempt) (u : Part) : (u.putInFlight a).pulse = u.pulse := rfl
@[simp] theorem Part.putInFlight_recon (a : Option Attempt) (u : Part) : (u.putInFlight a).recon = u.recon := rfl
@[simp] theorem Part.putInFlight_tariff (a : Option Attempt) (u : Part) : (u.putInFlight a).tariff = u.tariff := rfl
@[simp] theorem Part.putInFlight_codes (a : Option Attempt) (u : Part) : (u.putInFlight a).codes = u.codes := rfl
@[simp] theorem Part.putInFlight_supply (a : Option Attempt) (u : Part) : (u.putInFlight a).supply = u.supply := rfl
@[simp] theorem Part.putInFlight_load (a : Option Attempt) (u : Part) : (u.putInFlight a).load = u.load := rfl
@[simp] theorem Part.putInFlight_tamper (a : Option Attempt) (u : Part) : (u.putInFlight a).tamper = u.tamper := rfl
@[simp] theorem Part.putInFlight_checkpointDue (a : Option Attempt) (u : Part) : (u.putInFlight a).checkpointDue = u.checkpointDue := rfl
@[simp] theorem Part.putInFlight_array (a : Option Attempt) (u : Part) : (u.putInFlight a).array = u.array := rfl
@[simp] theorem Part.putInFlight_config (a : Option Attempt) (u : Part) : (u.putInFlight a).config = u.config := rfl
@[simp] theorem Part.putInFlight_receivers (a : Option Attempt) (u : Part) : (u.putInFlight a).receivers = u.receivers := rfl
@[simp] theorem Part.putInFlight_links (a : Option Attempt) (u : Part) : (u.putInFlight a).links = u.links := rfl
@[simp] theorem Part.putInFlight_overtaken (a : Option Attempt) (u : Part) : (u.putInFlight a).overtaken = u.overtaken := rfl
@[simp] theorem Part.putInFlight_notices (a : Option Attempt) (u : Part) : (u.putInFlight a).notices = u.notices := rfl

/-! `setHead` -/

@[simp] theorem Part.setHead_power (h : HeadStage) (u : Part) : (u.setHead h).power = u.power := rfl
@[simp] theorem Part.setHead_lostMark (h : HeadStage) (u : Part) : (u.setHead h).lostMark = u.lostMark := rfl
@[simp] theorem Part.setHead_lifecycle (h : HeadStage) (u : Part) : (u.setHead h).lifecycle = u.lifecycle := rfl
@[simp] theorem Part.setHead_timeBase (h : HeadStage) (u : Part) : (u.setHead h).timeBase = u.timeBase := rfl
@[simp] theorem Part.setHead_clock (h : HeadStage) (u : Part) : (u.setHead h).clock = u.clock := rfl
@[simp] theorem Part.setHead_inputs (h : HeadStage) (u : Part) : (u.setHead h).inputs = u.inputs := rfl
@[simp] theorem Part.setHead_outputs (h : HeadStage) (u : Part) : (u.setHead h).outputs = u.outputs := rfl
@[simp] theorem Part.setHead_account (h : HeadStage) (u : Part) : (u.setHead h).account = u.account := rfl
@[simp] theorem Part.setHead_accountCauses (h : HeadStage) (u : Part) : (u.setHead h).accountCauses = u.accountCauses := rfl
@[simp] theorem Part.setHead_pulse (h : HeadStage) (u : Part) : (u.setHead h).pulse = u.pulse := rfl
@[simp] theorem Part.setHead_recon (h : HeadStage) (u : Part) : (u.setHead h).recon = u.recon := rfl
@[simp] theorem Part.setHead_tariff (h : HeadStage) (u : Part) : (u.setHead h).tariff = u.tariff := rfl
@[simp] theorem Part.setHead_supply (h : HeadStage) (u : Part) : (u.setHead h).supply = u.supply := rfl
@[simp] theorem Part.setHead_load (h : HeadStage) (u : Part) : (u.setHead h).load = u.load := rfl
@[simp] theorem Part.setHead_tamper (h : HeadStage) (u : Part) : (u.setHead h).tamper = u.tamper := rfl
@[simp] theorem Part.setHead_checkpointDue (h : HeadStage) (u : Part) : (u.setHead h).checkpointDue = u.checkpointDue := rfl
@[simp] theorem Part.setHead_store (h : HeadStage) (u : Part) : (u.setHead h).store = u.store := rfl
@[simp] theorem Part.setHead_array (h : HeadStage) (u : Part) : (u.setHead h).array = u.array := rfl
@[simp] theorem Part.setHead_config (h : HeadStage) (u : Part) : (u.setHead h).config = u.config := rfl
@[simp] theorem Part.setHead_receivers (h : HeadStage) (u : Part) : (u.setHead h).receivers = u.receivers := rfl
@[simp] theorem Part.setHead_links (h : HeadStage) (u : Part) : (u.setHead h).links = u.links := rfl
@[simp] theorem Part.setHead_overtaken (h : HeadStage) (u : Part) : (u.setHead h).overtaken = u.overtaken := rfl
@[simp] theorem Part.setHead_notices (h : HeadStage) (u : Part) : (u.setHead h).notices = u.notices := rfl

/-! `putOperation` -/

@[simp] theorem Part.putOperation_power (op : Operation) (u : Part) : (u.putOperation op).power = u.power := rfl
@[simp] theorem Part.putOperation_lostMark (op : Operation) (u : Part) : (u.putOperation op).lostMark = u.lostMark := rfl
@[simp] theorem Part.putOperation_lifecycle (op : Operation) (u : Part) : (u.putOperation op).lifecycle = u.lifecycle := rfl
@[simp] theorem Part.putOperation_timeBase (op : Operation) (u : Part) : (u.putOperation op).timeBase = u.timeBase := rfl
@[simp] theorem Part.putOperation_clock (op : Operation) (u : Part) : (u.putOperation op).clock = u.clock := rfl
@[simp] theorem Part.putOperation_inputs (op : Operation) (u : Part) : (u.putOperation op).inputs = u.inputs := rfl
@[simp] theorem Part.putOperation_outputs (op : Operation) (u : Part) : (u.putOperation op).outputs = u.outputs := rfl
@[simp] theorem Part.putOperation_account (op : Operation) (u : Part) : (u.putOperation op).account = u.account := rfl
@[simp] theorem Part.putOperation_accountCauses (op : Operation) (u : Part) : (u.putOperation op).accountCauses = u.accountCauses := rfl
@[simp] theorem Part.putOperation_pulse (op : Operation) (u : Part) : (u.putOperation op).pulse = u.pulse := rfl
@[simp] theorem Part.putOperation_recon (op : Operation) (u : Part) : (u.putOperation op).recon = u.recon := rfl
@[simp] theorem Part.putOperation_tariff (op : Operation) (u : Part) : (u.putOperation op).tariff = u.tariff := rfl
@[simp] theorem Part.putOperation_codes (op : Operation) (u : Part) : (u.putOperation op).codes = u.codes := rfl
@[simp] theorem Part.putOperation_load (op : Operation) (u : Part) : (u.putOperation op).load = u.load := rfl
@[simp] theorem Part.putOperation_tamper (op : Operation) (u : Part) : (u.putOperation op).tamper = u.tamper := rfl
@[simp] theorem Part.putOperation_checkpointDue (op : Operation) (u : Part) : (u.putOperation op).checkpointDue = u.checkpointDue := rfl
@[simp] theorem Part.putOperation_store (op : Operation) (u : Part) : (u.putOperation op).store = u.store := rfl
@[simp] theorem Part.putOperation_array (op : Operation) (u : Part) : (u.putOperation op).array = u.array := rfl
@[simp] theorem Part.putOperation_config (op : Operation) (u : Part) : (u.putOperation op).config = u.config := rfl
@[simp] theorem Part.putOperation_receivers (op : Operation) (u : Part) : (u.putOperation op).receivers = u.receivers := rfl
@[simp] theorem Part.putOperation_links (op : Operation) (u : Part) : (u.putOperation op).links = u.links := rfl
@[simp] theorem Part.putOperation_overtaken (op : Operation) (u : Part) : (u.putOperation op).overtaken = u.overtaken := rfl
@[simp] theorem Part.putOperation_notices (op : Operation) (u : Part) : (u.putOperation op).notices = u.notices := rfl

/-! `drive` -/

@[simp] theorem Part.drive_power (a b : Bool) (u : Part) : (u.drive a b).power = u.power := rfl
@[simp] theorem Part.drive_lostMark (a b : Bool) (u : Part) : (u.drive a b).lostMark = u.lostMark := rfl
@[simp] theorem Part.drive_lifecycle (a b : Bool) (u : Part) : (u.drive a b).lifecycle = u.lifecycle := rfl
@[simp] theorem Part.drive_timeBase (a b : Bool) (u : Part) : (u.drive a b).timeBase = u.timeBase := rfl
@[simp] theorem Part.drive_clock (a b : Bool) (u : Part) : (u.drive a b).clock = u.clock := rfl
@[simp] theorem Part.drive_inputs (a b : Bool) (u : Part) : (u.drive a b).inputs = u.inputs := rfl
@[simp] theorem Part.drive_account (a b : Bool) (u : Part) : (u.drive a b).account = u.account := rfl
@[simp] theorem Part.drive_accountCauses (a b : Bool) (u : Part) : (u.drive a b).accountCauses = u.accountCauses := rfl
@[simp] theorem Part.drive_pulse (a b : Bool) (u : Part) : (u.drive a b).pulse = u.pulse := rfl
@[simp] theorem Part.drive_recon (a b : Bool) (u : Part) : (u.drive a b).recon = u.recon := rfl
@[simp] theorem Part.drive_tariff (a b : Bool) (u : Part) : (u.drive a b).tariff = u.tariff := rfl
@[simp] theorem Part.drive_codes (a b : Bool) (u : Part) : (u.drive a b).codes = u.codes := rfl
@[simp] theorem Part.drive_supply (a b : Bool) (u : Part) : (u.drive a b).supply = u.supply := rfl
@[simp] theorem Part.drive_load (a b : Bool) (u : Part) : (u.drive a b).load = u.load := rfl
@[simp] theorem Part.drive_tamper (a b : Bool) (u : Part) : (u.drive a b).tamper = u.tamper := rfl
@[simp] theorem Part.drive_checkpointDue (a b : Bool) (u : Part) : (u.drive a b).checkpointDue = u.checkpointDue := rfl
@[simp] theorem Part.drive_store (a b : Bool) (u : Part) : (u.drive a b).store = u.store := rfl
@[simp] theorem Part.drive_array (a b : Bool) (u : Part) : (u.drive a b).array = u.array := rfl
@[simp] theorem Part.drive_config (a b : Bool) (u : Part) : (u.drive a b).config = u.config := rfl
@[simp] theorem Part.drive_receivers (a b : Bool) (u : Part) : (u.drive a b).receivers = u.receivers := rfl
@[simp] theorem Part.drive_links (a b : Bool) (u : Part) : (u.drive a b).links = u.links := rfl
@[simp] theorem Part.drive_overtaken (a b : Bool) (u : Part) : (u.drive a b).overtaken = u.overtaken := rfl
@[simp] theorem Part.drive_notices (a b : Bool) (u : Part) : (u.drive a b).notices = u.notices := rfl

/-! `setOverLimit` -/

@[simp] theorem Part.setOverLimit_power (n : Nat) (u : Part) : (u.setOverLimit n).power = u.power := rfl
@[simp] theorem Part.setOverLimit_lostMark (n : Nat) (u : Part) : (u.setOverLimit n).lostMark = u.lostMark := rfl
@[simp] theorem Part.setOverLimit_lifecycle (n : Nat) (u : Part) : (u.setOverLimit n).lifecycle = u.lifecycle := rfl
@[simp] theorem Part.setOverLimit_timeBase (n : Nat) (u : Part) : (u.setOverLimit n).timeBase = u.timeBase := rfl
@[simp] theorem Part.setOverLimit_clock (n : Nat) (u : Part) : (u.setOverLimit n).clock = u.clock := rfl
@[simp] theorem Part.setOverLimit_inputs (n : Nat) (u : Part) : (u.setOverLimit n).inputs = u.inputs := rfl
@[simp] theorem Part.setOverLimit_outputs (n : Nat) (u : Part) : (u.setOverLimit n).outputs = u.outputs := rfl
@[simp] theorem Part.setOverLimit_account (n : Nat) (u : Part) : (u.setOverLimit n).account = u.account := rfl
@[simp] theorem Part.setOverLimit_accountCauses (n : Nat) (u : Part) : (u.setOverLimit n).accountCauses = u.accountCauses := rfl
@[simp] theorem Part.setOverLimit_pulse (n : Nat) (u : Part) : (u.setOverLimit n).pulse = u.pulse := rfl
@[simp] theorem Part.setOverLimit_recon (n : Nat) (u : Part) : (u.setOverLimit n).recon = u.recon := rfl
@[simp] theorem Part.setOverLimit_tariff (n : Nat) (u : Part) : (u.setOverLimit n).tariff = u.tariff := rfl
@[simp] theorem Part.setOverLimit_codes (n : Nat) (u : Part) : (u.setOverLimit n).codes = u.codes := rfl
@[simp] theorem Part.setOverLimit_supply (n : Nat) (u : Part) : (u.setOverLimit n).supply = u.supply := rfl
@[simp] theorem Part.setOverLimit_tamper (n : Nat) (u : Part) : (u.setOverLimit n).tamper = u.tamper := rfl
@[simp] theorem Part.setOverLimit_checkpointDue (n : Nat) (u : Part) : (u.setOverLimit n).checkpointDue = u.checkpointDue := rfl
@[simp] theorem Part.setOverLimit_store (n : Nat) (u : Part) : (u.setOverLimit n).store = u.store := rfl
@[simp] theorem Part.setOverLimit_array (n : Nat) (u : Part) : (u.setOverLimit n).array = u.array := rfl
@[simp] theorem Part.setOverLimit_config (n : Nat) (u : Part) : (u.setOverLimit n).config = u.config := rfl
@[simp] theorem Part.setOverLimit_receivers (n : Nat) (u : Part) : (u.setOverLimit n).receivers = u.receivers := rfl
@[simp] theorem Part.setOverLimit_links (n : Nat) (u : Part) : (u.setOverLimit n).links = u.links := rfl
@[simp] theorem Part.setOverLimit_overtaken (n : Nat) (u : Part) : (u.setOverLimit n).overtaken = u.overtaken := rfl
@[simp] theorem Part.setOverLimit_notices (n : Nat) (u : Part) : (u.setOverLimit n).notices = u.notices := rfl

/-! `openWindow` -/

@[simp] theorem Part.openWindow_power (u : Part) : u.openWindow.power = u.power := rfl
@[simp] theorem Part.openWindow_lostMark (u : Part) : u.openWindow.lostMark = u.lostMark := rfl
@[simp] theorem Part.openWindow_lifecycle (u : Part) : u.openWindow.lifecycle = u.lifecycle := rfl
@[simp] theorem Part.openWindow_timeBase (u : Part) : u.openWindow.timeBase = u.timeBase := rfl
@[simp] theorem Part.openWindow_clock (u : Part) : u.openWindow.clock = u.clock := rfl
@[simp] theorem Part.openWindow_inputs (u : Part) : u.openWindow.inputs = u.inputs := rfl
@[simp] theorem Part.openWindow_outputs (u : Part) : u.openWindow.outputs = u.outputs := rfl
@[simp] theorem Part.openWindow_account (u : Part) : u.openWindow.account = u.account := rfl
@[simp] theorem Part.openWindow_accountCauses (u : Part) : u.openWindow.accountCauses = u.accountCauses := rfl
@[simp] theorem Part.openWindow_pulse (u : Part) : u.openWindow.pulse = u.pulse := rfl
@[simp] theorem Part.openWindow_tariff (u : Part) : u.openWindow.tariff = u.tariff := rfl
@[simp] theorem Part.openWindow_codes (u : Part) : u.openWindow.codes = u.codes := rfl
@[simp] theorem Part.openWindow_supply (u : Part) : u.openWindow.supply = u.supply := rfl
@[simp] theorem Part.openWindow_load (u : Part) : u.openWindow.load = u.load := rfl
@[simp] theorem Part.openWindow_tamper (u : Part) : u.openWindow.tamper = u.tamper := rfl
@[simp] theorem Part.openWindow_checkpointDue (u : Part) : u.openWindow.checkpointDue = u.checkpointDue := rfl
@[simp] theorem Part.openWindow_store (u : Part) : u.openWindow.store = u.store := rfl
@[simp] theorem Part.openWindow_array (u : Part) : u.openWindow.array = u.array := rfl
@[simp] theorem Part.openWindow_config (u : Part) : u.openWindow.config = u.config := rfl
@[simp] theorem Part.openWindow_receivers (u : Part) : u.openWindow.receivers = u.receivers := rfl
@[simp] theorem Part.openWindow_links (u : Part) : u.openWindow.links = u.links := rfl
@[simp] theorem Part.openWindow_overtaken (u : Part) : u.openWindow.overtaken = u.overtaken := rfl
@[simp] theorem Part.openWindow_notices (u : Part) : u.openWindow.notices = u.notices := rfl

/-! `walkQuietly` -/

@[simp] theorem Part.walkQuietly_power (u : Part) : u.walkQuietly.power = u.power := rfl
@[simp] theorem Part.walkQuietly_lostMark (u : Part) : u.walkQuietly.lostMark = u.lostMark := rfl
@[simp] theorem Part.walkQuietly_lifecycle (u : Part) : u.walkQuietly.lifecycle = u.lifecycle := rfl
@[simp] theorem Part.walkQuietly_timeBase (u : Part) : u.walkQuietly.timeBase = u.timeBase := rfl
@[simp] theorem Part.walkQuietly_clock (u : Part) : u.walkQuietly.clock = u.clock := rfl
@[simp] theorem Part.walkQuietly_inputs (u : Part) : u.walkQuietly.inputs = u.inputs := rfl
@[simp] theorem Part.walkQuietly_outputs (u : Part) : u.walkQuietly.outputs = u.outputs := rfl
@[simp] theorem Part.walkQuietly_account (u : Part) : u.walkQuietly.account = u.account := rfl
@[simp] theorem Part.walkQuietly_accountCauses (u : Part) : u.walkQuietly.accountCauses = u.accountCauses := rfl
@[simp] theorem Part.walkQuietly_pulse (u : Part) : u.walkQuietly.pulse = u.pulse := rfl
@[simp] theorem Part.walkQuietly_recon (u : Part) : u.walkQuietly.recon = u.recon := rfl
@[simp] theorem Part.walkQuietly_codes (u : Part) : u.walkQuietly.codes = u.codes := rfl
@[simp] theorem Part.walkQuietly_supply (u : Part) : u.walkQuietly.supply = u.supply := rfl
@[simp] theorem Part.walkQuietly_load (u : Part) : u.walkQuietly.load = u.load := rfl
@[simp] theorem Part.walkQuietly_tamper (u : Part) : u.walkQuietly.tamper = u.tamper := rfl
@[simp] theorem Part.walkQuietly_checkpointDue (u : Part) : u.walkQuietly.checkpointDue = u.checkpointDue := rfl
@[simp] theorem Part.walkQuietly_store (u : Part) : u.walkQuietly.store = u.store := rfl
@[simp] theorem Part.walkQuietly_array (u : Part) : u.walkQuietly.array = u.array := rfl
@[simp] theorem Part.walkQuietly_config (u : Part) : u.walkQuietly.config = u.config := rfl
@[simp] theorem Part.walkQuietly_receivers (u : Part) : u.walkQuietly.receivers = u.receivers := rfl
@[simp] theorem Part.walkQuietly_links (u : Part) : u.walkQuietly.links = u.links := rfl
@[simp] theorem Part.walkQuietly_overtaken (u : Part) : u.walkQuietly.overtaken = u.overtaken := rfl
@[simp] theorem Part.walkQuietly_notices (u : Part) : u.walkQuietly.notices = u.notices := rfl

/-! `putClock` -/

@[simp] theorem Part.putClock_power (n : Nat) (a : Int) (u : Part) : (u.putClock n a).power = u.power := rfl
@[simp] theorem Part.putClock_lostMark (n : Nat) (a : Int) (u : Part) : (u.putClock n a).lostMark = u.lostMark := rfl
@[simp] theorem Part.putClock_lifecycle (n : Nat) (a : Int) (u : Part) : (u.putClock n a).lifecycle = u.lifecycle := rfl
@[simp] theorem Part.putClock_timeBase (n : Nat) (a : Int) (u : Part) : (u.putClock n a).timeBase = u.timeBase := rfl
@[simp] theorem Part.putClock_inputs (n : Nat) (a : Int) (u : Part) : (u.putClock n a).inputs = u.inputs := rfl
@[simp] theorem Part.putClock_outputs (n : Nat) (a : Int) (u : Part) : (u.putClock n a).outputs = u.outputs := rfl
@[simp] theorem Part.putClock_account (n : Nat) (a : Int) (u : Part) : (u.putClock n a).account = u.account := rfl
@[simp] theorem Part.putClock_accountCauses (n : Nat) (a : Int) (u : Part) : (u.putClock n a).accountCauses = u.accountCauses := rfl
@[simp] theorem Part.putClock_pulse (n : Nat) (a : Int) (u : Part) : (u.putClock n a).pulse = u.pulse := rfl
@[simp] theorem Part.putClock_recon (n : Nat) (a : Int) (u : Part) : (u.putClock n a).recon = u.recon := rfl
@[simp] theorem Part.putClock_codes (n : Nat) (a : Int) (u : Part) : (u.putClock n a).codes = u.codes := rfl
@[simp] theorem Part.putClock_supply (n : Nat) (a : Int) (u : Part) : (u.putClock n a).supply = u.supply := rfl
@[simp] theorem Part.putClock_load (n : Nat) (a : Int) (u : Part) : (u.putClock n a).load = u.load := rfl
@[simp] theorem Part.putClock_tamper (n : Nat) (a : Int) (u : Part) : (u.putClock n a).tamper = u.tamper := rfl
@[simp] theorem Part.putClock_checkpointDue (n : Nat) (a : Int) (u : Part) : (u.putClock n a).checkpointDue = u.checkpointDue := rfl
@[simp] theorem Part.putClock_store (n : Nat) (a : Int) (u : Part) : (u.putClock n a).store = u.store := rfl
@[simp] theorem Part.putClock_array (n : Nat) (a : Int) (u : Part) : (u.putClock n a).array = u.array := rfl
@[simp] theorem Part.putClock_config (n : Nat) (a : Int) (u : Part) : (u.putClock n a).config = u.config := rfl
@[simp] theorem Part.putClock_receivers (n : Nat) (a : Int) (u : Part) : (u.putClock n a).receivers = u.receivers := rfl
@[simp] theorem Part.putClock_links (n : Nat) (a : Int) (u : Part) : (u.putClock n a).links = u.links := rfl
@[simp] theorem Part.putClock_overtaken (n : Nat) (a : Int) (u : Part) : (u.putClock n a).overtaken = u.overtaken := rfl
@[simp] theorem Part.putClock_notices (n : Nat) (a : Int) (u : Part) : (u.putClock n a).notices = u.notices := rfl

/-! `watchContacts` -/

@[simp] theorem Part.watchContacts_power (u : Part) : u.watchContacts.power = u.power := rfl
@[simp] theorem Part.watchContacts_lostMark (u : Part) : u.watchContacts.lostMark = u.lostMark := rfl
@[simp] theorem Part.watchContacts_lifecycle (u : Part) : u.watchContacts.lifecycle = u.lifecycle := rfl
@[simp] theorem Part.watchContacts_timeBase (u : Part) : u.watchContacts.timeBase = u.timeBase := rfl
@[simp] theorem Part.watchContacts_clock (u : Part) : u.watchContacts.clock = u.clock := rfl
@[simp] theorem Part.watchContacts_inputs (u : Part) : u.watchContacts.inputs = u.inputs := rfl
@[simp] theorem Part.watchContacts_outputs (u : Part) : u.watchContacts.outputs = u.outputs := rfl
@[simp] theorem Part.watchContacts_account (u : Part) : u.watchContacts.account = u.account := rfl
@[simp] theorem Part.watchContacts_accountCauses (u : Part) : u.watchContacts.accountCauses = u.accountCauses := rfl
@[simp] theorem Part.watchContacts_pulse (u : Part) : u.watchContacts.pulse = u.pulse := rfl
@[simp] theorem Part.watchContacts_recon (u : Part) : u.watchContacts.recon = u.recon := rfl
@[simp] theorem Part.watchContacts_tariff (u : Part) : u.watchContacts.tariff = u.tariff := rfl
@[simp] theorem Part.watchContacts_codes (u : Part) : u.watchContacts.codes = u.codes := rfl
@[simp] theorem Part.watchContacts_load (u : Part) : u.watchContacts.load = u.load := rfl
@[simp] theorem Part.watchContacts_tamper (u : Part) : u.watchContacts.tamper = u.tamper := rfl
@[simp] theorem Part.watchContacts_checkpointDue (u : Part) : u.watchContacts.checkpointDue = u.checkpointDue := rfl
@[simp] theorem Part.watchContacts_store (u : Part) : u.watchContacts.store = u.store := rfl
@[simp] theorem Part.watchContacts_array (u : Part) : u.watchContacts.array = u.array := rfl
@[simp] theorem Part.watchContacts_config (u : Part) : u.watchContacts.config = u.config := rfl
@[simp] theorem Part.watchContacts_receivers (u : Part) : u.watchContacts.receivers = u.receivers := rfl
@[simp] theorem Part.watchContacts_links (u : Part) : u.watchContacts.links = u.links := rfl
@[simp] theorem Part.watchContacts_overtaken (u : Part) : u.watchContacts.overtaken = u.overtaken := rfl
@[simp] theorem Part.watchContacts_notices (u : Part) : u.watchContacts.notices = u.notices := rfl

/-! What they change -/

@[simp] theorem PerPort.get_set_self {α : Type} (v : PerPort α) (p : Port) (x : α) : (v.set p x).get p = x := by
  cases p <;> rfl

@[simp] theorem PerPort.set_set {α : Type} (v : PerPort α) (p : Port) (x y : α) : (v.set p x).set p y = v.set p y := by
  cases p <;> rfl

theorem PerPort.get_set_of_ne {α : Type} (v : PerPort α) {p q : Port} (x : α) (h : q ≠ p) :
    (v.set p x).get q = v.get q := by
  cases p <;> cases q <;> first | rfl | exact absurd rfl h

@[simp] theorem PerLink.get_set_self {α : Type} (v : PerLink α) (l : Link) (x : α) : (v.set l x).get l = x := by
  cases l <;> rfl

@[simp] theorem Part.setReceive_state (p : Port) (st : Receive) (u : Part) :
    ((u.setReceive p st).receivers.get p).state = st := by simp [Part.setReceive]

@[simp] theorem Part.hear_state (p : Port) (st : Receive) (u : Part) :
    ((u.hear p st).receivers.get p).state = st := by simp [Part.hear]

@[simp] theorem Part.setFailureRun_failureRun (n : Nat) (u : Part) : (u.setFailureRun n).store.failureRun = n := rfl
@[simp] theorem Part.putInFlight_inFlight (a : Option Attempt) (u : Part) : (u.putInFlight a).store.inFlight = a := rfl
@[simp] theorem Part.setHead_head (h : HeadStage) (u : Part) : (u.setHead h).codes.head = some h := rfl
@[simp] theorem Part.putOperation_relay (op : Operation) (u : Part) : (u.putOperation op).supply.relay = .operating op := rfl
@[simp] theorem Part.drive_openCoil (a b : Bool) (u : Part) : (u.drive a b).outputs.openCoil = a := rfl
@[simp] theorem Part.drive_closeCoil (a b : Bool) (u : Part) : (u.drive a b).outputs.closeCoil = b := rfl
@[simp] theorem Part.setOverLimit_overLimit (n : Nat) (u : Part) : (u.setOverLimit n).load.overLimit = n := rfl
@[simp] theorem Part.putClock_clock (n : Nat) (a : Int) (u : Part) : (u.putClock n a).clock = ⟨n, true, a⟩ := rfl

end Sys2Proof.Machine
end

