-- ==== Sys2Proof/Laws/Switch.lean ====
section
/-! SUPPORT. The supply switch: what the start of an operation leaves (R105, R106), what a decision can do to the relay
(R102, R103), and that the decision is held while an operation runs or the main domain is stopped (R98, R100). -/

namespace Sys2Proof.Machine

/-- A placing on a port leaves the notice it names in the port's pending set (R179). -/
theorem Part.placeOn_pending (p : Port) (x : Notice) (u : Part) :
    ∃ y, ((u.placeOn p x).notices.get p).pending.get (kindIndex x.kind) = some y ∧ y.notice = x ∧
      y.level = u.config.live.levelOf x.kind := by
  unfold Part.placeOn Part.putNotices
  simp only [PerPort.get_set_self, NoticePort.place]
  exact ⟨_, by simp only [Vector.get_eq_getElem]; exact Vector.getElem_set_self _, rfl, rfl⟩

/-- A placing on one port leaves the pending sets of the others (R179). -/
theorem Part.placeOn_other {p q : Port} (h : q ≠ p) (x : Notice) (u : Part) :
    (u.placeOn p x).notices.get q = u.notices.get q := by
  unfold Part.placeOn Part.putNotices
  exact PerPort.get_set_of_ne _ _ h

/-- A placing that does not happen on a port leaves its pending set. -/
theorem Part.placeIf_other {p q : Port} (h : q ≠ p) (b : Bool) (x : Notice) (u : Part) :
    (u.placeIf b p x).notices.get q = u.notices.get q := by
  cases b
  · rfl
  · exact Part.placeOn_other h x u

/-- The decision is held while an operation runs (R100). -/
theorem Part.recompute_operating {u : Part} {op : Operation} (h : u.supply.relay = .operating op) : u.recompute = u := by
  unfold Part.recompute
  rw [h]
  split <;> rfl

/-- No decision is taken while the main domain is stopped or starting (R98). -/
theorem Part.recompute_inactive {u : Part} (h : u.active = false) : u.recompute = u := by
  unfold Part.recompute
  rw [h]
  rfl

@[simp] theorem Part.markDue_supply (u : Part) : u.markDue.supply = u.supply := rfl

@[simp] theorem Part.bufferEvent_supply (c : Cover) (b : Bool) (u : Part) : (u.bufferEvent c b).supply = u.supply := by
  unfold Part.bufferEvent; split <;> rfl

@[simp] theorem Part.absentEvidence_supply (c : TamperCause) (u : Part) : (u.absentEvidence c).supply = u.supply := by
  unfold Part.absentEvidence
  dsimp only
  repeat' split
  all_goals simp

@[simp] theorem Part.conditionEnds_supply (c : TamperCause) (u : Part) : (u.conditionEnds c).supply = u.supply := by
  unfold Part.conditionEnds Part.becomeAbsent
  dsimp only
  repeat' split
  all_goals simp

@[simp] theorem Part.leaveBypassWatch_supply (dir : Direction) (u : Part) : (u.leaveBypassWatch dir).supply = u.supply := by
  unfold Part.leaveBypassWatch
  repeat' split
  all_goals simp

@[simp] theorem Part.putOpeningRecord_supply (r : OpeningRecord) (u : Part) :
    (u.putOpeningRecord r).supply = { u.supply with record := r } := by unfold Part.putOpeningRecord; simp

@[simp] theorem Part.putLogical_supply (l : Logical) (u : Part) :
    (u.putLogical l).supply = { u.supply with logical := l } := by unfold Part.putLogical; simp

/-- The supply switch after the start of an operation, with the parts it takes its items from. -/
theorem Part.startOperation_supply {u : Part} (h : u.running = true) (dir : Direction) (r : Reason) :
    ∃ w : Part, w.core = u.core ∧
      (u.startOperation dir r).supply =
        { u.supply with
          record := u.recordAtStart dir r, logical := .inProgress, retryAt := none,
          relay := .operating
            (w.newOperation dir r (if r = .test then ⟨false, false⟩ else u.awaitedSet)) } := by
  unfold Part.startOperation
  rw [if_pos h]
  refine ⟨((u.leaveBypassWatch dir).putOpeningRecord (u.recordAtStart dir r)).putLogical .inProgress, by simp, ?_⟩
  simp

/-- What the start of an operation leaves (R105, R106, R118). -/
theorem Part.startOperation_started {u : Part} (h : u.running = true) (dir : Direction) (r : Reason) :
    Part.Started u (u.startOperation dir r) dir r (if r = .test then ⟨false, false⟩ else u.participants) := by
  obtain ⟨w, hw, hs⟩ := Part.startOperation_supply h dir r
  have hc : w.config = u.config := by have k := congrArg Part.config hw; exact k
  have ht : w.timeBase = u.timeBase := by have k := congrArg Part.timeBase hw; exact k
  have ha : u.awaitedSet = u.participants := rfl
  refine
    { core := by simp, relay := ?_, logical := by rw [hs], record := ?_, causes := by rw [hs], decision := by rw [hs],
      retry := by rw [hs], pending := ?_ }
  · rw [hs, ha]
    simp only [Part.newOperation, hc, ht]
  · rw [hs]
    cases dir <;> rfl
  · intro l hl
    have hr : r ≠ .test := by
      intro e
      subst e
      cases l <;> cases hl
    rw [if_neg hr, ← ha] at hl
    unfold Part.startOperation
    rw [if_pos h]
    dsimp only
    rw [if_neg hr]
    cases l with
    | m =>
      rw [Part.placeIf_other (by decide : linkPort Link.m ≠ Port.k)]
      have hm : u.awaitedSet.m = true := hl
      rw [hm]
      exact Part.placeOn_pending _ _ _
    | k =>
      have hk : u.awaitedSet.k = true := hl
      rw [hk]
      exact Part.placeOn_pending _ _ _

/-- A decision in a settled state settles the relay or starts an operation, which is not in PULSE (R102, R103). -/
theorem Part.recompute_relay (u : Part) :
    u.recompute.supply.relay = u.supply.relay ∨
      (∃ st, u.supply.relay = .settled st) ∧
        ((∃ st, u.recompute.supply.relay = .settled st) ∨
          ∃ op, u.recompute.supply.relay = .operating op ∧ (op.stage = .handshake ∨ op.stage = .zxWait)) := by
  have started : ∀ (v : Part) (dir : Direction) (r : Reason),
      (v.startOperation dir r).supply.relay = v.supply.relay ∨
        ∃ op, (v.startOperation dir r).supply.relay = .operating op ∧ (op.stage = .handshake ∨ op.stage = .zxWait) := by
    intro v dir r
    by_cases h : v.running = true
    · right
      refine ⟨_, (Part.startOperation_started h dir r).relay, ?_⟩
      dsimp only
      generalize (_ || _) = b
      cases b <;> simp
    · left
      unfold Part.startOperation
      rw [if_neg h]
  have place : ∀ (v : Part) (x : Notice), (v.place x).supply = v.supply := by intro v x; simp
  cases hr : u.supply.relay with
  | operating op => left; rw [Part.recompute_operating hr]; exact hr
  | settled st =>
    by_cases ha : u.active = true
    · right
      refine ⟨⟨st, rfl⟩, ?_⟩
      unfold Part.recompute
      rw [if_pos ha, hr]
      dsimp only
      unfold Part.actOn Part.enterRecord Part.leaveOpen Part.settleRelay
      have fin : ∀ (v : Part) (dir : Direction) (r : Reason), v.supply.relay = .settled st →
          (∃ st, (v.startOperation dir r).supply.relay = .settled st) ∨
          ∃ op, (v.startOperation dir r).supply.relay = .operating op ∧ (op.stage = .handshake ∨ op.stage = .zxWait) := by
        intro v dir r hv
        rcases started v dir r with h | h
        · exact .inl ⟨st, h.trans hv⟩
        · exact .inr h
      cases st <;> dsimp only
      · split
        · exact fin _ _ _ hr
        · exact .inl ⟨_, hr⟩
      · split
        · exact .inl ⟨.opened, by simp [hr]⟩
        · split
          · exact .inl ⟨.awaitingConfirm, by rw [place]; simp⟩
          · exact fin _ _ _ (by simp [hr])
      · split
        · exact .inl ⟨.opened, by simp⟩
        · exact .inl ⟨_, hr⟩
      · exact .inl ⟨.stuckClosed, by simp [hr]⟩
      · exact .inl ⟨_, hr⟩
    · left
      rw [Part.recompute_inactive (by simpa using ha)]
      exact hr

end Sys2Proof.Machine
end

