-- ==== Sys2Proof/Laws/Account.lean ====
section
/-! SUPPORT. The account: what a derivation gives (R13, R19, R20), what a charge gives (R4, R5, R9), and that no decision
moves the cause set (R98, R100). -/

namespace Sys2Proof.Machine

/-! ### The active bank -/

theorem Part.activeBank_congr {u v : Part} (t : v.tariff.activeArea = u.tariff.activeArea)
    (a : v.array.areaA = u.array.areaA) (b : v.array.areaB = u.array.areaB) : v.activeBank = u.activeBank := by
  unfold Part.activeBank Part.areaContents
  rw [t, a, b]

theorem Part.activeBank_of_derived {u v : Part} (h : v.derived = u.derived) : v.activeBank = u.activeBank := by
  have t := congrArg (fun w => w.tariff.activeArea) h
  have a := congrArg (fun w => w.array.areaA) h
  have b := congrArg (fun w => w.array.areaB) h
  exact Part.activeBank_congr t a b

theorem Part.bankValue_of_derived {α : Type} {u v : Part} (h : v.derived = u.derived) (f : Image → α) (x : α) :
    v.bankValue f x = u.bankValue f x := by
  unfold Part.bankValue; rw [Part.activeBank_of_derived h]

theorem Part.tariff_of_derived {u v : Part} (h : v.derived = u.derived) : v.tariff = u.tariff := by
  have t := congrArg Part.tariff h; exact t

theorem Part.config_of_derived {u v : Part} (h : v.derived = u.derived) : v.config = u.config := by
  have t := congrArg Part.config h; exact t

theorem Part.books_of_derived {u v : Part} (h : v.derived = u.derived) : v.account.books = u.account.books := by
  have t := congrArg Part.account h; exact t

theorem Part.price_of_derived {u v : Part} (h : v.derived = u.derived) : v.price = u.price := by
  unfold Part.price; rw [Part.bankValue_of_derived h, Part.tariff_of_derived h]

/-- An update that sees nothing of what a derivation may change carries an equality of the rest over. -/
theorem Part.derived_map {u v : Part} (f : Part → Part) (hf : ∀ w : Part, (f w.derived).derived = (f w).derived)
    (h : v.derived = u.derived) : (f v).derived = (f u).derived := by rw [← hf v, ← hf u, h]

/-- The same for what the chain behind a condition may change. -/
theorem Part.core_map {u v : Part} (f : Part → Part) (hf : ∀ w : Part, (f w.core).core = (f w).core)
    (h : v.core = u.core) : (f v).core = (f u).core := by rw [← hf v, ← hf u, h]

/-! ### The decision leaves the causes -/

@[simp] theorem Part.putLogical_causes (l : Logical) (u : Part) : (u.putLogical l).supply.causes = u.supply.causes := by
  unfold Part.putLogical; simp

@[simp] theorem Part.putOpeningRecord_causes (r : OpeningRecord) (u : Part) :
    (u.putOpeningRecord r).supply.causes = u.supply.causes := by unfold Part.putOpeningRecord; simp

@[simp] theorem Part.settleRelay_causes (st : Settled) (u : Part) : (u.settleRelay st).supply.causes = u.supply.causes := by
  unfold Part.settleRelay; simp

@[simp] theorem Part.enterRecord_causes (c : CauseSet) (u : Part) : (u.enterRecord c).supply.causes = u.supply.causes := by
  simp [Part.enterRecord]

@[simp] theorem Part.startOperation_causes (d : Direction) (r : Reason) (u : Part) :
    (u.startOperation d r).supply.causes = u.supply.causes := by
  unfold Part.startOperation
  split
  · simp
  · rfl

@[simp] theorem Part.recompute_causes (u : Part) : u.recompute.supply.causes = u.supply.causes := by
  unfold Part.recompute Part.actOn Part.leaveOpen
  repeat' split
  all_goals simp

@[simp] theorem Part.handCauses_causes (c : CauseSet) (u : Part) : (u.handCauses c).supply.causes = c := by
  unfold Part.handCauses
  split
  · assumption
  · simp

@[simp] theorem Part.evaluateTamper_causes (u : Part) :
    u.evaluateTamper.supply.causes = { u.supply.causes with tamper := u.tamperMember } := by
  simp [Part.evaluateTamper]

/-! ### The derivation -/

@[simp] theorem Part.putAccount_account (a : Account) (u : Part) : (u.putAccount a).account = a := by
  unfold Part.putAccount
  split
  · assumption
  · rfl

@[simp] theorem Part.putAccount_supply (a : Account) (u : Part) : (u.putAccount a).supply = u.supply := by
  unfold Part.putAccount; split <;> rfl

@[simp] theorem Part.creditNotices_account (a : Account) (u : Part) : (u.creditNotices a).account = u.account := by
  unfold Part.creditNotices; dsimp only
  repeat' split
  all_goals simp

@[simp] theorem Part.creditNotices_accountCauses (a : Account) (u : Part) :
    (u.creditNotices a).accountCauses = u.accountCauses := by
  unfold Part.creditNotices; dsimp only
  repeat' split
  all_goals simp

@[simp] theorem Part.creditNotices_supply (a : Account) (u : Part) : (u.creditNotices a).supply = u.supply := by
  unfold Part.creditNotices; dsimp only
  repeat' split
  all_goals simp

@[simp] theorem Part.deriveQuietly_account (u : Part) : u.deriveQuietly.account = u.derivedAccount := by
  simp [Part.deriveQuietly]

/-- The copy of the account's causes after a derivation (R20, R100). -/
@[simp] theorem Part.deriveQuietly_causes (u : Part) :
    u.deriveQuietly.supply.causes =
      { u.supply.causes with
        noCredit := noCreditOf u.account.balance,
        debtLimit := debtLimitOf u.account.balance (u.bankValue bankFriendlyDebtLimit 0) } := by
  simp [Part.deriveQuietly]

@[simp] theorem Part.deriveQuietly_accountCauses (u : Part) :
    u.deriveQuietly.accountCauses =
      { noCredit := noCreditOf u.account.balance,
        debtLimit := debtLimitOf u.account.balance (u.bankValue bankFriendlyDebtLimit 0) } := by
  simp [Part.deriveQuietly]

/-- Whatever leaves the account's money, the bank, the friendly flag and the causes keeps what a derivation has given. -/
theorem Part.AccountDerived.congr {u v : Part} (h : u.AccountDerived) (m : v.account.money = u.account.money)
    (b : v.activeBank = u.activeBank) (f : v.tariff.friendly = u.tariff.friendly)
    (c : v.accountCauses = u.accountCauses) (n : v.supply.causes.noCredit = u.supply.causes.noCredit)
    (d : v.supply.causes.debtLimit = u.supply.causes.debtLimit) : v.AccountDerived := by
  have e1 : v.account.creditState = u.account.creditState := by have k := congrArg Account.creditState m; exact k
  have e2 : v.account.ecAvailable = u.account.ecAvailable := by have k := congrArg Account.ecAvailable m; exact k
  have e3 : v.account.balance = u.account.balance := by have k := congrArg Account.balance m; exact k
  have e4 : v.account.ecOwed = u.account.ecOwed := by have k := congrArg Account.ecOwed m; exact k
  unfold Part.AccountDerived Part.bankValue at *
  dsimp only at *
  rw [e1, e2, e3, e4, b, f, c, n, d]
  exact h

theorem Part.deriveQuietly_ok (u : Part) : u.deriveQuietly.AccountDerived := by
  have k := Part.deriveQuietly_derived u
  unfold Part.AccountDerived
  dsimp only
  rw [Part.bankValue_of_derived k, Part.bankValue_of_derived k, Part.bankValue_of_derived k, Part.bankValue_of_derived k,
    Part.tariff_of_derived k]
  simp [Part.derivedAccount]

/-- Derivation and decision. -/
theorem Part.derive_ok (u : Part) : u.derive.AccountDerived := by
  unfold Part.derive
  dsimp only
  split
  · exact Part.deriveQuietly_ok u
  · refine (Part.deriveQuietly_ok u).congr (by simp) ?_ (by simp) (by simp) (by simp) (by simp)
    exact Part.activeBank_of_derived (Part.derived_of_core (Part.recompute_core _))

theorem Part.afterCharge_ok (c : Nat) (u : Part) : (u.afterCharge c).AccountDerived := by
  unfold Part.afterCharge
  dsimp only
  repeat' split
  · exact Part.derive_ok u
  · refine (Part.derive_ok u).congr (by simp) ?_ (by simp) (by simp) (by simp) (by simp)
    exact Part.activeBank_of_derived (Part.derived_of_core (Part.requestCheckpoint_core _ _))
  · exact Part.derive_ok u

/-! ### Charges -/

/-- The account takes new values; the rest is as it was. -/
theorem Part.putAccount_derived_eq (a : Account) (u : Part) :
    (u.putAccount a).derived = ({ u with account := a } : Part).derived := by
  unfold Part.putAccount
  split
  · rename_i h; rw [← h]
  · rfl

/-- An energy charge (R4): the account of the charge, up to what its derivation gives. -/
theorem Part.energyCharge_derived (e : Nat) (shortfall : Bool) (u : Part) :
    (u.energyCharge e shortfall).derived = ({ u with account := u.chargedAccount e shortfall } : Part).derived := by
  unfold Part.energyCharge
  rw [Part.afterCharge_derived, Part.putAccount_derived_eq]

theorem Part.energyCharge_ok (e : Nat) (shortfall : Bool) (u : Part) : (u.energyCharge e shortfall).AccountDerived :=
  Part.afterCharge_ok _ _

theorem chargedBalance_eq (b : Int) (c : Nat) : chargedBalance b c = max (b - c) (-(2 ^ 47)) := by
  unfold chargedBalance minBalance
  split <;> omega

theorem notTaken_eq (b : Int) (c : Nat) : notTaken b c = (-(2 ^ 47) - (b - c)).toNat := by
  unfold notTaken minBalance
  split <;> omega

end Sys2Proof.Machine
end

