-- ==== Sys2Proof/Laws/Evidence.lean ====
section
/-! SUPPORT. What an event has requested stays requested behind it: a checkpoint's reason until its checkpoint is written, a
journal entry until its write ends (R154, R159); and each shared operation adds a bounded number of entries to the queue, so
an entry that finds room is not discarded. -/

namespace Sys2Proof.Machine

/-- `v` follows from `u` by operations that drop no request and submit at most `n` journal entries. -/
structure Part.KeepsEvidence (n : Nat) (u v : Part) : Prop where
  requested : ∀ r, u.Requested r → v.Requested r
  journaled : ∀ q, u.Journaled q → v.Journaled q
  length : v.store.journal.length ≤ u.store.journal.length + n

namespace Part.KeepsEvidence

theorem refl (n : Nat) (u : Part) : u.KeepsEvidence n u := ⟨fun _ h => h, fun _ h => h, by omega⟩

theorem trans {m n : Nat} {u v w : Part} (a : u.KeepsEvidence m v) (b : v.KeepsEvidence n w) :
    u.KeepsEvidence (m + n) w :=
  ⟨fun r h => b.requested r (a.requested r h), fun q h => b.journaled q (a.journaled q h), by
    have := a.length
    have := b.length
    omega⟩

theorem mono {m n : Nat} {u v : Part} (h : u.KeepsEvidence m v) (le : m ≤ n := by omega) : u.KeepsEvidence n v :=
  ⟨h.requested, h.journaled, by
    have := h.length
    omega⟩

/-- An update that touches no request. -/
theorem of_eq {n : Nat} {u v : Part} (w : v.store.waiting = u.store.waiting)
    (i : v.store.inFlight = u.store.inFlight) (j : v.store.journal = u.store.journal) : u.KeepsEvidence n v := by
  refine ⟨fun r h => ?_, fun q h => ?_, by rw [j]; omega⟩
  · unfold Part.Requested at h ⊢
    rwa [w, i]
  · unfold Part.Journaled at h ⊢
    rwa [i, j]

/-- Operations after an update that touches no request. -/
theorem after {n : Nat} {u v w : Part} (h : v.KeepsEvidence n w) (a : v.store.waiting = u.store.waiting := by rfl)
    (i : v.store.inFlight = u.store.inFlight := by rfl) (j : v.store.journal = u.store.journal := by rfl) :
    u.KeepsEvidence n w :=
  ((of_eq (n := 0) a i j).trans h).mono

/-- Operations before an update that touches no request. -/
theorem before {n : Nat} {u v w : Part} (h : u.KeepsEvidence n v) (a : w.store.waiting = v.store.waiting := by rfl)
    (i : w.store.inFlight = v.store.inFlight := by rfl) (j : w.store.journal = v.store.journal := by rfl) :
    u.KeepsEvidence n w :=
  (h.trans (of_eq (n := 0) a i j)).mono

end Part.KeepsEvidence

/-- A reason added to a set is in it, and no reason leaves. -/
theorem addReason_holds (r s : CheckpointReason) (set : ReasonSet) :
    (addReason r set).getLsbD (checkpointReasonNumber s) = true ↔
      s = r ∨ set.getLsbD (checkpointReasonNumber s) = true := by
  unfold addReason
  cases r <;> cases s <;> simp [checkpointReasonNumber]

namespace Part

open Part.KeepsEvidence (of_eq refl)

theorem markDue_evidence (n : Nat) (u : Part) : u.KeepsEvidence n u.markDue := by
  refine ⟨fun r h => ?_, fun q h => ?_, Nat.le_add_right _ _⟩
  · rcases h with h | ⟨x, h, k⟩
    · exact .inl h
    · exact .inr ⟨{ x with changedSince := true }, by simp [Part.markDue, h, Attempt.noteChange], k⟩
  · rcases h with h | ⟨e, slot, retry, w, h, k⟩
    · exact .inl h
    · exact .inr ⟨e, slot, retry, w, by simp [Part.markDue, h, Attempt.noteChange], k⟩

theorem markDueIf_evidence (n : Nat) (b : Bool) (u : Part) : u.KeepsEvidence n (Part.markDueIf b u) := by
  cases b
  · exact refl n u
  · exact markDue_evidence n u

theorem startJournal_evidence {u : Part} {r : JournalRequest} {l : List JournalRequest} (w : u.store.waiting = none)
    (i : u.store.inFlight = none) (j : u.store.journal = r :: l) : u.KeepsEvidence 0 (u.startJournal r l) := by
  refine ⟨fun s h => ?_, fun q h => ?_, ?_⟩
  · rcases h with ⟨x, h, -⟩ | ⟨x, h, -⟩
    · rw [w] at h; cases h
    · rw [i] at h; cases h
  · rcases h with h | ⟨e, slot, retry, n, h, -⟩
    · rw [j] at h
      unfold Part.startJournal
      dsimp only
      split
      · rcases List.mem_cons.1 h with rfl | h
        · exact .inr ⟨_, _, _, _, rfl, rfl⟩
        · exact .inl h
      · rcases List.mem_cons.1 h with rfl | h
        · exact .inr ⟨_, _, _, _, rfl, rfl⟩
        · exact .inl h
    · rw [i] at h; cases h
  · unfold Part.startJournal
    dsimp only
    split <;> simp [Part.markDue, j]

theorem startNext_evidence (u : Part) : u.KeepsEvidence 0 u.startNext := by
  unfold Part.startNext
  cases i : u.store.inFlight with
  | some a => exact refl 0 u
  | none =>
    dsimp only
    split
    · exact refl 0 u
    · cases w : u.store.waiting with
      | some reasons =>
        refine ⟨fun r h => ?_, fun q h => ?_, Nat.le_refl _⟩
        · rcases h with ⟨x, h, k⟩ | ⟨x, h, -⟩
          · rw [w] at h; cases h
            exact .inr ⟨_, rfl, k⟩
          · rw [i] at h; cases h
        · rcases h with h | ⟨_, _, _, _, h, -⟩
          · exact .inl h
          · rw [i] at h; cases h
      | none =>
        have class2 (c : Class2Write) (l : List Class2Write) : u.KeepsEvidence 0 (u.startClass2 c l) := by
          refine ⟨fun r h => ?_, fun q h => ?_, Nat.le_refl _⟩
          · rcases h with ⟨x, h, -⟩ | ⟨x, h, -⟩
            · rw [w] at h; cases h
            · rw [i] at h; cases h
          · rcases h with h | ⟨_, _, _, _, h, -⟩
            · exact .inl h
            · rw [i] at h; cases h
        dsimp only
        split
        · exact class2 _ _
        · exact class2 _ _
        · cases j : u.store.journal with
          | nil => exact refl 0 u
          | cons r l => exact startJournal_evidence w i j

theorem requestCheckpoint_evidence (r : CheckpointReason) (u : Part) : u.KeepsEvidence 0 (u.requestCheckpoint r) := by
  have joins : u.KeepsEvidence 0
      { u with store := { u.store with waiting := some (addReason r (u.store.waiting.getD 0#16)) } } := by
    refine ⟨fun s h => ?_, fun q h => h, Nat.le_refl _⟩
    rcases h with ⟨x, h, k⟩ | h
    · exact .inl ⟨_, rfl, (addReason_holds r s _).2 (.inr (by rw [h]; exact k))⟩
    · exact .inr h
  exact joins.trans (startNext_evidence _)

/-- A requested checkpoint waits or is being written (R154). -/
theorem requestCheckpoint_requested (r : CheckpointReason) (u : Part) : (u.requestCheckpoint r).Requested r :=
  (startNext_evidence _).requested r (.inl ⟨_, rfl, (addReason_holds r r _).2 (.inl rfl)⟩)

theorem submitClass2_evidence (w : Class2Write) (u : Part) : u.KeepsEvidence 0 (u.submitClass2 w) :=
  (startNext_evidence _).after

theorem submitJournal_evidence (q : JournalRequest) (u : Part) : u.KeepsEvidence 1 (u.submitJournal q) := by
  unfold Part.submitJournal
  split
  · exact refl 1 u
  · have joins : u.KeepsEvidence 1 { u with store := { u.store with journal := u.store.journal ++ [q] } } := by
      refine ⟨fun _ h => h, fun p h => ?_, by simp⟩
      rcases h with h | h
      · exact .inl (List.mem_append_left _ h)
      · exact .inr h
    exact joins.trans (startNext_evidence _)

/-- An entry that finds room waits or is being written (R159). -/
theorem submitJournal_journaled {q : JournalRequest} {u : Part} (room : u.store.journal.length < 8) :
    (u.submitJournal q).Journaled q := by
  unfold Part.submitJournal
  rw [if_neg (by omega)]
  exact (startNext_evidence _).journaled q (.inl (by simp))

theorem journal_evidence (d : JournalDetail) (u : Part) : u.KeepsEvidence 1 (u.journal d) := submitJournal_evidence _ _

theorem journal_journaled {d : JournalDetail} {u : Part} (room : u.store.journal.length < 8) :
    (u.journal d).Journaled (u.entryNow d) := submitJournal_journaled room

theorem placeOn_evidence (n : Nat) (p : Port) (x : Notice) (u : Part) : u.KeepsEvidence n (u.placeOn p x) :=
  of_eq rfl rfl rfl

/-- A notice placed on a port is pending on it (R179). -/
theorem placeOn_holds (p : Port) (x : Notice) (u : Part) : (u.placeOn p x).Holds p x :=
  let ⟨y, h, e, _⟩ := u.placeOn_pending p x
  ⟨y, h, e⟩

/-- A placing on another port leaves what a port holds. -/
theorem placeIf_holds {p q : Port} (h : q ≠ p) (b : Bool) (x y : Notice) (u : Part) :
    (u.placeIf b p x).Holds q y ↔ u.Holds q y := by
  unfold Part.Holds
  rw [placeIf_other h]

/-- A notice placed is pending on each port of its routing (R179). -/
theorem place_placed (x : Notice) (u : Part) : (u.place x).Placed x := by
  intro p h
  have c : (u.place x).config = u.config := by simp
  rw [c] at h
  unfold Part.place
  dsimp only
  cases p
  · rw [placeIf_holds (by decide), placeIf_holds (by decide)]
    rw [show (u.config.live.routingOf x.kind).m = true from h]
    exact placeOn_holds _ _ _
  · rw [placeIf_holds (by decide)]
    rw [show (u.config.live.routingOf x.kind).k = true from h]
    exact placeOn_holds _ _ _
  · rw [show (u.config.live.routingOf x.kind).s = true from h]
    exact placeOn_holds _ _ _

theorem placeIf_evidence (n : Nat) (b : Bool) (p : Port) (x : Notice) (u : Part) : u.KeepsEvidence n (u.placeIf b p x) := by
  cases b
  · exact refl n u
  · exact placeOn_evidence n p x u

theorem place_evidence (n : Nat) (x : Notice) (u : Part) : u.KeepsEvidence n (u.place x) :=
  (((placeIf_evidence 0 _ _ _ u).trans (placeIf_evidence 0 _ _ _ _)).trans (placeIf_evidence 0 _ _ _ _)).mono

theorem putRecord_evidence (n : Nat) (c : TamperCause) (r : TamperRecord) (u : Part) :
    u.KeepsEvidence n (u.putRecord c r) := (markDueIf_evidence n _ _).after

theorem putLogical_evidence (n : Nat) (l : Logical) (u : Part) : u.KeepsEvidence n (u.putLogical l) :=
  (markDueIf_evidence n _ _).after

theorem putOpeningRecord_evidence (n : Nat) (r : OpeningRecord) (u : Part) : u.KeepsEvidence n (u.putOpeningRecord r) :=
  (markDueIf_evidence n _ _).after

theorem settleRelay_evidence (n : Nat) (st : Settled) (u : Part) : u.KeepsEvidence n (u.settleRelay st) :=
  (putLogical_evidence n _ _).after

theorem enterRecord_evidence (n : Nat) (c : CauseSet) (u : Part) : u.KeepsEvidence n (u.enterRecord c) :=
  putOpeningRecord_evidence n _ _

theorem bufferEvent_evidence (n : Nat) (k : Cover) (b : Bool) (u : Part) : u.KeepsEvidence n (u.bufferEvent k b) := by
  unfold Part.bufferEvent
  split
  · exact refl n u
  · exact of_eq rfl rfl rfl

theorem absentEvidence_evidence (c : TamperCause) (u : Part) : u.KeepsEvidence 1 (u.absentEvidence c) := by
  unfold Part.absentEvidence
  dsimp only
  repeat' split
  · exact (bufferEvent_evidence 1 _ _ _).trans (markDue_evidence 0 _)
  · exact journal_evidence _ _
  · exact journal_evidence _ _
  · exact markDue_evidence 1 _

theorem becomeAbsent_evidence (c : TamperCause) (u : Part) : u.KeepsEvidence 1 (u.becomeAbsent c) :=
  ((putRecord_evidence 0 _ _ _).trans (absentEvidence_evidence _ _)).mono

theorem conditionEnds_evidence (c : TamperCause) (u : Part) : u.KeepsEvidence 1 (u.conditionEnds c) := by
  unfold Part.conditionEnds
  dsimp only
  repeat' split
  all_goals first
    | exact putRecord_evidence 1 _ _ _
    | exact ((putRecord_evidence 0 _ _ _).trans (becomeAbsent_evidence _ _)).mono

theorem leaveBypassWatch_evidence (d : Direction) (u : Part) : u.KeepsEvidence 1 (u.leaveBypassWatch d) := by
  unfold Part.leaveBypassWatch
  repeat' split
  all_goals first
    | exact refl 1 _
    | exact conditionEnds_evidence _ _

theorem startOperation_evidence (d : Direction) (r : Reason) (u : Part) : u.KeepsEvidence 1 (u.startOperation d r) := by
  unfold Part.startOperation
  split
  · refine KeepsEvidence.trans (n := 0) ?_ (placeIf_evidence 0 _ _ _ _)
    refine KeepsEvidence.trans (n := 0) ?_ (placeIf_evidence 0 _ _ _ _)
    exact (((leaveBypassWatch_evidence d u).trans (putOpeningRecord_evidence 0 _ _)).trans
      (putLogical_evidence 0 _ _)).before
  · exact refl 1 u

theorem leaveOpen_evidence (u : Part) : u.KeepsEvidence 1 u.leaveOpen := by
  unfold Part.leaveOpen
  split
  · exact ((settleRelay_evidence 0 _ _).trans (place_evidence 0 _ _)).mono
  · exact startOperation_evidence _ _ _

theorem actOn_evidence (st : Settled) (c : CauseSet) (u : Part) : u.KeepsEvidence 1 (u.actOn st c) := by
  unfold Part.actOn
  cases st <;> dsimp only <;> (try split)
  all_goals first
    | exact refl 1 _
    | exact startOperation_evidence _ _ _
    | exact enterRecord_evidence 1 _ _
    | exact ((enterRecord_evidence 0 _ _).trans (leaveOpen_evidence _)).mono
    | exact ((enterRecord_evidence 0 _ _).trans (settleRelay_evidence 0 _ _)).mono

theorem recompute_evidence (u : Part) : u.KeepsEvidence 1 u.recompute := by
  unfold Part.recompute
  repeat' split
  · exact refl 1 u
  · exact (actOn_evidence _ _ _).after
  · exact refl 1 u

theorem handCauses_evidence (c : CauseSet) (u : Part) : u.KeepsEvidence 1 (u.handCauses c) := by
  unfold Part.handCauses
  split
  · exact refl 1 u
  · exact (recompute_evidence _).after

theorem evaluateTamper_evidence (u : Part) : u.KeepsEvidence 1 u.evaluateTamper := (handCauses_evidence _ _).after

theorem evaluateTamperQuietly_evidence (n : Nat) (u : Part) : u.KeepsEvidence n u.evaluateTamperQuietly :=
  of_eq rfl rfl rfl

theorem presentEvidence_evidence (c : TamperCause) (u : Part) : u.KeepsEvidence 2 (u.presentEvidence c) := by
  unfold Part.presentEvidence
  dsimp only
  split
  · exact ((journal_evidence _ u).trans (evaluateTamper_evidence _)).trans (requestCheckpoint_evidence _ _)
  · exact (((journal_evidence _ u).trans (place_evidence 0 _ _)).trans (evaluateTamper_evidence _)).trans
      (requestCheckpoint_evidence _ _)

theorem presentOnBattery_evidence (k : Cover) (u : Part) : u.KeepsEvidence 1 (u.presentOnBattery k) := by
  unfold Part.presentOnBattery
  dsimp only
  have h := ((putRecord_evidence 0 (coverCause k) { u.tamperRecord (coverCause k) with raisedOnBattery := true } u).trans
    (bufferEvent_evidence 0 k true _)).trans (markDue_evidence 0 _)
  split
  · exact (h.trans (evaluateTamper_evidence _)).mono
  · exact h.mono

theorem becomePresent_evidence (c : TamperCause) (u : Part) : u.KeepsEvidence 2 (u.becomePresent c) := by
  unfold Part.becomePresent
  dsimp only
  repeat' split
  all_goals first
    | exact ((putRecord_evidence 0 _ _ _).trans (presentOnBattery_evidence _ _)).mono
    | exact ((putRecord_evidence 0 _ _ _).trans (presentEvidence_evidence _ _)).mono

theorem enterPending_evidence (c : TamperCause) (b : Bool) (u : Part) : u.KeepsEvidence 2 (u.enterPending c b) := by
  unfold Part.enterPending
  dsimp only
  split
  · exact putRecord_evidence 2 _ _ _
  · exact becomePresent_evidence _ _

theorem conditionArises_evidence (c : TamperCause) (u : Part) : u.KeepsEvidence 2 (u.conditionArises c) := by
  unfold Part.conditionArises
  dsimp only
  repeat' split
  all_goals first
    | exact putRecord_evidence 2 _ _ _
    | exact ((putRecord_evidence 0 _ _ _).trans (enterPending_evidence _ _ _)).mono
    | exact ((putRecord_evidence 0 _ _ _).trans (putRecord_evidence 0 _ _ _)).mono

theorem setCondition_evidence (c : TamperCause) (b : Bool) (u : Part) : u.KeepsEvidence 2 (u.setCondition c b) := by
  unfold Part.setCondition
  dsimp only
  repeat' split
  · exact refl 2 u
  · exact conditionArises_evidence _ _
  · exact (conditionEnds_evidence _ _).trans (evaluateTamper_evidence _)
  · exact (conditionEnds_evidence _ _).mono

theorem placeWhen_evidence (n : Nat) (b : Prop) [Decidable b] (x : Notice) (u : Part) :
    u.KeepsEvidence n (if b then u.place x else u) := by
  split
  · exact place_evidence n _ _
  · exact refl n u

theorem placeUnless_evidence (n : Nat) (b : Prop) [Decidable b] (x : Notice) (u : Part) :
    u.KeepsEvidence n (if b then u else u.place x) := by
  split
  · exact refl n u
  · exact place_evidence n _ _

theorem creditNotices_evidence (n : Nat) (a : Account) (u : Part) : u.KeepsEvidence n (u.creditNotices a) :=
  ((((placeWhen_evidence 0 _ _ u).trans (placeWhen_evidence 0 _ _ _)).trans (placeWhen_evidence 0 _ _ _)).trans
    (placeUnless_evidence 0 _ _ _)).mono

theorem putAccount_evidence (n : Nat) (a : Account) (u : Part) : u.KeepsEvidence n (u.putAccount a) := by
  unfold Part.putAccount
  split
  · exact refl n u
  · exact (markDue_evidence n _).after

theorem deriveQuietly_evidence (n : Nat) (u : Part) : u.KeepsEvidence n u.deriveQuietly := by
  unfold Part.deriveQuietly
  dsimp only
  exact (KeepsEvidence.trans (v := u.putAccount u.derivedAccount) (putAccount_evidence 0 _ _)
    (creditNotices_evidence 0 _ _).after).mono

theorem derive_evidence (u : Part) : u.KeepsEvidence 1 u.derive := by
  unfold Part.derive
  dsimp only
  split
  · exact deriveQuietly_evidence 1 u
  · exact ((deriveQuietly_evidence 0 u).trans (recompute_evidence _)).mono

theorem afterCharge_evidence (c : Nat) (u : Part) : u.KeepsEvidence 1 (u.afterCharge c) := by
  unfold Part.afterCharge
  dsimp only
  repeat' split
  · exact derive_evidence u
  · exact (derive_evidence u).trans (requestCheckpoint_evidence _ _)
  · exact derive_evidence u

theorem energyCharge_evidence (e : Nat) (shortfall : Bool) (u : Part) :
    u.KeepsEvidence 1 (u.energyCharge e shortfall) :=
  ((putAccount_evidence 0 _ u).trans (afterCharge_evidence _ _)).mono

theorem standingCharge_evidence (c : Nat) (u : Part) : u.KeepsEvidence 1 (u.standingCharge c) := by
  unfold Part.standingCharge
  split
  · exact refl 1 u
  · exact ((putAccount_evidence 0 _ u).trans (afterCharge_evidence _ _)).mono

theorem dayCharge_evidence (u : Part) : u.KeepsEvidence 1 u.dayCharge := by
  unfold Part.dayCharge
  split
  · exact standingCharge_evidence _ u
  · exact refl 1 u

theorem chargeShortfall_evidence (x : Window) (u : Part) : u.KeepsEvidence 1 (u.chargeShortfall x) := by
  unfold Part.chargeShortfall
  split
  · exact energyCharge_evidence _ _ u
  · exact refl 1 u

theorem windowConditions_evidence (x : Window) (u : Part) : u.KeepsEvidence 4 (u.windowConditions x) :=
  (setCondition_evidence _ _ u).trans (setCondition_evidence _ _ _)

theorem unjudgedClose_evidence (u : Part) : u.KeepsEvidence 5 u.unjudgedClose := by
  unfold Part.unjudgedClose
  split
  · exact refl 5 u
  · exact ((chargeShortfall_evidence _ _).trans (windowConditions_evidence _ _)).after

theorem loadMidnight_evidence (u : Part) : u.KeepsEvidence 1 u.loadMidnight := by
  unfold Part.loadMidnight Part.putLoad
  exact ((markDueIf_evidence 0 _ _).trans (handCauses_evidence _ _)).mono.after

/-- The steps of a midnight behind its activation request a MIDNIGHT checkpoint (R64 step 4). -/
theorem finishMidnight_requested (m : Midnight) (u : Part) : (u.finishMidnight m).Requested .midnight := by
  unfold Part.finishMidnight
  dsimp only
  split
  · exact (loadMidnight_evidence _).requested _ (requestCheckpoint_requested _ _)
  · exact requestCheckpoint_requested _ _

theorem finishMidnight_evidence (m : Midnight) (u : Part) : u.KeepsEvidence 2 (u.finishMidnight m) := by
  have charged : u.KeepsEvidence 1 (if u.tariff.lastStandingDay < m.day then u.dayCharge.closeDay m.day else u) := by
    split
    · exact ((dayCharge_evidence u).trans (markDue_evidence 0 _).after).mono
    · exact refl 1 u
  unfold Part.finishMidnight
  dsimp only
  split
  · exact (charged.trans (requestCheckpoint_evidence _ _)).trans (loadMidnight_evidence _)
  · exact (charged.trans (requestCheckpoint_evidence _ _)).mono

end Part

end Sys2Proof.Machine
end

