-- ==== Sys2Proof/Laws/Lines.lean ====
section
/-! SUPPORT. The attention lines: while the main domain has its supply, every shared operation keeps each line asserted exactly
while a notice of its port is eligible (R180). -/

namespace Sys2Proof.Machine

/-- `v` follows from `u` by operations that keep the lines. -/
structure Part.KeepsLines (u v : Part) : Prop where
  power : v.power = u.power
  lines : u.mainOn = true → u.LinesFollowNotices → v.LinesFollowNotices

namespace Part.KeepsLines

theorem refl (u : Part) : u.KeepsLines u := ⟨rfl, fun _ h => h⟩

theorem trans {u v w : Part} (a : u.KeepsLines v) (b : v.KeepsLines w) : u.KeepsLines w where
  power := b.power.trans a.power
  lines := fun on h => b.lines (by unfold Part.mainOn at on ⊢; rw [a.power]; exact on) (a.lines on h)

/-- An update that touches neither notices nor lines. -/
theorem of_eq {u v : Part} (p : v.power = u.power) (o : v.outputs.attention = u.outputs.attention)
    (n : v.notices = u.notices) : u.KeepsLines v :=
  ⟨p, fun _ h q => by unfold Part.mainOn; rw [p, o, n]; exact h q⟩

/-- Operations after an update that touches neither. -/
theorem after {u v w : Part} (h : v.KeepsLines w) (p : v.power = u.power := by rfl)
    (o : v.outputs.attention = u.outputs.attention := by rfl) (n : v.notices = u.notices := by rfl) : u.KeepsLines w :=
  (of_eq p o n).trans h

end Part.KeepsLines

namespace Part

open Part.KeepsLines (of_eq)

theorem markDue_lines (u : Part) : u.KeepsLines u.markDue := of_eq rfl rfl rfl

theorem markDueIf_lines (b : Bool) (u : Part) : u.KeepsLines (Part.markDueIf b u) := of_eq (by simp) (by simp) (by simp)

theorem requestCheckpoint_lines (r : CheckpointReason) (u : Part) : u.KeepsLines (u.requestCheckpoint r) :=
  of_eq (by simp) (by simp) (by simp)

theorem submitClass2_lines (w : Class2Write) (u : Part) : u.KeepsLines (u.submitClass2 w) :=
  of_eq (by unfold Part.submitClass2; simp) (by unfold Part.submitClass2; simp) (by unfold Part.submitClass2; simp)

theorem journal_lines (d : JournalDetail) (u : Part) : u.KeepsLines (u.journal d) := of_eq (by simp) (by simp) (by simp)

theorem putNotices_lines (p : Port) (n : NoticePort) (u : Part) : u.KeepsLines (u.putNotices p n) := by
  refine ⟨rfl, fun on h q => ?_⟩
  have k := h q
  unfold Part.putNotices
  show (u.outputs.attention.set p n.calls).get q = (u.mainOn && ((u.notices.set p n).get q).calls)
  by_cases e : q = p
  · subst e; simp [on]
  · rw [PerPort.get_set_of_ne _ _ e, PerPort.get_set_of_ne _ _ e]; exact k

theorem placeOn_lines (p : Port) (x : Notice) (u : Part) : u.KeepsLines (u.placeOn p x) := putNotices_lines _ _ _

theorem placeIf_lines (b : Bool) (p : Port) (x : Notice) (u : Part) : u.KeepsLines (u.placeIf b p x) := by
  cases b
  · exact KeepsLines.refl u
  · exact placeOn_lines _ _ _

theorem place_lines (x : Notice) (u : Part) : u.KeepsLines (u.place x) :=
  ((placeIf_lines _ _ _ _).trans (placeIf_lines _ _ _ _)).trans (placeIf_lines _ _ _ _)

theorem putRecord_lines (c : TamperCause) (r : TamperRecord) (u : Part) : u.KeepsLines (u.putRecord c r) :=
  (markDueIf_lines _ _).after

theorem putLogical_lines (l : Logical) (u : Part) : u.KeepsLines (u.putLogical l) :=
  (markDueIf_lines _ _).after

theorem putOpeningRecord_lines (r : OpeningRecord) (u : Part) : u.KeepsLines (u.putOpeningRecord r) :=
  (markDueIf_lines _ _).after

theorem settleRelay_lines (st : Settled) (u : Part) : u.KeepsLines (u.settleRelay st) :=
  (putLogical_lines _ _).after

theorem enterRecord_lines (c : CauseSet) (u : Part) : u.KeepsLines (u.enterRecord c) := putOpeningRecord_lines _ _

theorem bufferEvent_lines (k : Cover) (b : Bool) (u : Part) : u.KeepsLines (u.bufferEvent k b) := by
  unfold Part.bufferEvent
  split
  · exact KeepsLines.refl u
  · exact of_eq rfl rfl rfl

theorem absentEvidence_lines (c : TamperCause) (u : Part) : u.KeepsLines (u.absentEvidence c) := by
  unfold Part.absentEvidence
  dsimp only
  repeat' split
  · exact (bufferEvent_lines _ _ _).trans (markDue_lines _)
  · exact journal_lines _ _
  · exact journal_lines _ _
  · exact markDue_lines _

theorem becomeAbsent_lines (c : TamperCause) (u : Part) : u.KeepsLines (u.becomeAbsent c) :=
  (putRecord_lines _ _ _).trans (absentEvidence_lines _ _)

theorem conditionEnds_lines (c : TamperCause) (u : Part) : u.KeepsLines (u.conditionEnds c) := by
  unfold Part.conditionEnds
  dsimp only
  repeat' split
  all_goals first
    | exact putRecord_lines _ _ _
    | exact (putRecord_lines _ _ _).trans (becomeAbsent_lines _ _)

theorem leaveBypassWatch_lines (d : Direction) (u : Part) : u.KeepsLines (u.leaveBypassWatch d) := by
  unfold Part.leaveBypassWatch
  repeat' split
  all_goals first
    | exact KeepsLines.refl _
    | exact conditionEnds_lines _ _

theorem startOperation_lines (d : Direction) (r : Reason) (u : Part) : u.KeepsLines (u.startOperation d r) := by
  unfold Part.startOperation
  split
  · refine KeepsLines.trans ?_ (placeIf_lines _ _ _ _)
    refine KeepsLines.trans ?_ (placeIf_lines _ _ _ _)
    exact (((leaveBypassWatch_lines d u).trans (putOpeningRecord_lines _ _)).trans (putLogical_lines _ _)).trans
      (of_eq rfl rfl rfl)
  · exact KeepsLines.refl u

theorem leaveOpen_lines (u : Part) : u.KeepsLines u.leaveOpen := by
  unfold Part.leaveOpen
  split
  · exact (settleRelay_lines _ _).trans (place_lines _ _)
  · exact startOperation_lines _ _ _

theorem actOn_lines (st : Settled) (c : CauseSet) (u : Part) : u.KeepsLines (u.actOn st c) := by
  unfold Part.actOn
  cases st <;> dsimp only <;> (try split)
  all_goals first
    | exact KeepsLines.refl _
    | exact startOperation_lines _ _ _
    | exact enterRecord_lines _ _
    | exact (enterRecord_lines _ _).trans (leaveOpen_lines _)
    | exact (enterRecord_lines _ _).trans (settleRelay_lines _ _)

theorem recompute_lines (u : Part) : u.KeepsLines u.recompute := by
  unfold Part.recompute
  repeat' split
  · exact KeepsLines.refl u
  · exact (actOn_lines _ _ _).after
  · exact KeepsLines.refl u

theorem handCauses_lines (c : CauseSet) (u : Part) : u.KeepsLines (u.handCauses c) := by
  unfold Part.handCauses
  split
  · exact KeepsLines.refl u
  · exact (recompute_lines _).after

theorem evaluateTamper_lines (u : Part) : u.KeepsLines u.evaluateTamper :=
  (handCauses_lines _ _).after

theorem evaluateTamperQuietly_lines (u : Part) : u.KeepsLines u.evaluateTamperQuietly := of_eq rfl rfl rfl

theorem presentEvidence_lines (c : TamperCause) (u : Part) : u.KeepsLines (u.presentEvidence c) := by
  unfold Part.presentEvidence
  dsimp only
  split
  · exact ((journal_lines _ u).trans (evaluateTamper_lines _)).trans (requestCheckpoint_lines _ _)
  · exact (((journal_lines _ u).trans (place_lines _ _)).trans (evaluateTamper_lines _)).trans
      (requestCheckpoint_lines _ _)

theorem presentOnBattery_lines (k : Cover) (u : Part) : u.KeepsLines (u.presentOnBattery k) := by
  unfold Part.presentOnBattery
  dsimp only
  have h := ((putRecord_lines (coverCause k) { u.tamperRecord (coverCause k) with raisedOnBattery := true } u).trans
    (bufferEvent_lines k true _)).trans (markDue_lines _)
  split
  · exact h.trans (evaluateTamper_lines _)
  · exact h

theorem becomePresent_lines (c : TamperCause) (u : Part) : u.KeepsLines (u.becomePresent c) := by
  unfold Part.becomePresent
  dsimp only
  repeat' split
  all_goals first
    | exact (putRecord_lines _ _ _).trans (presentOnBattery_lines _ _)
    | exact (putRecord_lines _ _ _).trans (presentEvidence_lines _ _)

theorem enterPending_lines (c : TamperCause) (b : Bool) (u : Part) : u.KeepsLines (u.enterPending c b) := by
  unfold Part.enterPending
  dsimp only
  split
  · exact putRecord_lines _ _ _
  · exact becomePresent_lines _ _

theorem conditionArises_lines (c : TamperCause) (u : Part) : u.KeepsLines (u.conditionArises c) := by
  unfold Part.conditionArises
  dsimp only
  repeat' split
  all_goals first
    | exact putRecord_lines _ _ _
    | exact (putRecord_lines _ _ _).trans (enterPending_lines _ _ _)
    | exact (putRecord_lines _ _ _).trans (putRecord_lines _ _ _)

theorem setCondition_lines (c : TamperCause) (b : Bool) (u : Part) : u.KeepsLines (u.setCondition c b) := by
  unfold Part.setCondition
  dsimp only
  repeat' split
  · exact KeepsLines.refl u
  · exact conditionArises_lines _ _
  · exact (conditionEnds_lines _ _).trans (evaluateTamper_lines _)
  · exact conditionEnds_lines _ _

theorem placeWhen_lines (b : Prop) [Decidable b] (x : Notice) (u : Part) :
    u.KeepsLines (if b then u.place x else u) := by
  split
  · exact place_lines _ _
  · exact KeepsLines.refl u

theorem placeUnless_lines (b : Prop) [Decidable b] (x : Notice) (u : Part) :
    u.KeepsLines (if b then u else u.place x) := by
  split
  · exact KeepsLines.refl u
  · exact place_lines _ _

theorem creditNotices_lines (a : Account) (u : Part) : u.KeepsLines (u.creditNotices a) :=
  (((placeWhen_lines _ _ u).trans (placeWhen_lines _ _ _)).trans (placeWhen_lines _ _ _)).trans
    (placeUnless_lines _ _ _)

theorem putAccount_lines (a : Account) (u : Part) : u.KeepsLines (u.putAccount a) := by
  unfold Part.putAccount
  split
  · exact KeepsLines.refl u
  · exact of_eq rfl rfl rfl

theorem deriveQuietly_lines (u : Part) : u.KeepsLines u.deriveQuietly := by
  unfold Part.deriveQuietly
  dsimp only
  exact KeepsLines.trans (v := u.putAccount u.derivedAccount) (putAccount_lines _ _) (creditNotices_lines _ _).after

theorem derive_lines (u : Part) : u.KeepsLines u.derive := by
  unfold Part.derive
  dsimp only
  split
  · exact deriveQuietly_lines u
  · exact (deriveQuietly_lines u).trans (recompute_lines _)

theorem afterCharge_lines (c : Nat) (u : Part) : u.KeepsLines (u.afterCharge c) := by
  unfold Part.afterCharge
  dsimp only
  repeat' split
  · exact derive_lines u
  · exact (derive_lines u).trans (requestCheckpoint_lines _ _)
  · exact derive_lines u

end Part

end Sys2Proof.Machine
end

