-- ==== Sys2Proof/Laws/Measurement.lean ====
section
/-! SUPPORT. The closes of a reconciliation window (R39 to R43). -/

namespace Sys2Proof.Machine

@[simp] theorem Part.setCondition_derived (c : TamperCause) (b : Bool) (u : Part) :
    (u.setCondition c b).derived = u.derived := Part.derived_of_core (Part.setCondition_core c b u)

/-- The account after the shortfall of a window (R40). -/
def Part.shortfallAccount (u : Part) (x : Window) : Account :=
  match u.windowShortfall x with
  | some d => u.chargedAccount d true
  | none => u.account

theorem Part.chargeShortfall_derived (x : Window) (u : Part) :
    (u.chargeShortfall x).derived = ({ u with account := u.shortfallAccount x } : Part).derived := by
  unfold Part.chargeShortfall Part.shortfallAccount
  cases u.windowShortfall x with
  | some d => exact Part.energyCharge_derived d true u
  | none => rfl

theorem Part.setDivergence_derived (n : Nat) (u : Part) :
    (u.setDivergence n).derived = ({ u with recon := { u.recon with divergence := n } } : Part).derived := by
  unfold Part.setDivergence
  rw [Part.setCondition_derived]

theorem Part.windowConditions_derived (x : Window) (u : Part) : (u.windowConditions x).derived = u.derived := by
  simp [Part.windowConditions]

/-- The conditions that a close evaluates (R42). -/
theorem Part.windowConditions_conditions (x : Window) (u : Part) :
    (u.windowConditions x).condition .pulseIntegrity = decide (16 ≤ x.malformed) ∧
    (u.windowConditions x).condition .reverseEnergy = (u.config.live.importOnly && decide (10000 < x.exportTotal)) := by
  unfold Part.windowConditions
  dsimp only
  constructor
  · unfold Part.condition
    rw [Part.setCondition_other (by decide) (by decide)]
    exact Part.setCondition_condition (by decide) _ _
  · rw [Part.setCondition_condition (by decide)]
    simp

/-- A judged close (R40): up to the derivation, the shortfall's account, the count and the new window. -/
theorem Part.judgedClose_derived {u : Part} {x : Window} (h : u.recon.window = some x) :
    u.judgedClose.derived =
      ({ u with
          account := u.shortfallAccount x,
          recon := { u.recon with
            window := some ⟨0, 0, 0, 0, u.timeBase⟩,
            divergence := if u.windowDivergent x then min 65535 (u.recon.divergence + 1) else 0 } } : Part).derived := by
  unfold Part.judgedClose
  rw [h]
  dsimp only
  generalize (if u.windowDivergent x then min 65535 (u.recon.divergence + 1) else 0) = n
  have k : (((u.chargeShortfall x).setDivergence n).windowConditions x).derived =
      ({ u with account := u.shortfallAccount x, recon := { u.recon with divergence := n } } : Part).derived := by
    rw [Part.windowConditions_derived, Part.setDivergence_derived]
    exact Part.derived_map (fun w => { w with recon := { w.recon with divergence := n } }) (fun _ => rfl)
      (Part.chargeShortfall_derived x u)
  exact Part.derived_map Part.openWindow (fun _ => rfl) k

/-- The conditions after a judged close (R41, R42). -/
theorem Part.judgedClose_conditions {u : Part} {x : Window} (h : u.recon.window = some x) :
    u.judgedClose.condition .metrologyDivergence =
      decide (3 ≤ if u.windowDivergent x then min 65535 (u.recon.divergence + 1) else 0) ∧
    u.judgedClose.condition .pulseIntegrity = decide (16 ≤ x.malformed) ∧
    u.judgedClose.condition .reverseEnergy = (u.config.live.importOnly && decide (10000 < x.exportTotal)) := by
  unfold Part.judgedClose
  rw [h]
  dsimp only
  generalize (if u.windowDivergent x then min 65535 (u.recon.divergence + 1) else 0) = n
  have hc := Part.config_of_derived (Part.chargeShortfall_derived x u)
  generalize u.chargeShortfall x = v at *
  have hc : v.config = u.config := hc
  rw [← hc]
  have k : ∀ (w : Part) (c : TamperCause), w.openWindow.condition c = w.condition c := fun _ _ => rfl
  rw [k, k, k]
  have w := Part.windowConditions_conditions x (v.setDivergence n)
  refine ⟨?_, w.1, ?_⟩
  · unfold Part.windowConditions Part.condition
    rw [Part.setCondition_other (by decide) (by decide), Part.setCondition_other (by decide) (by decide)]
    unfold Part.setDivergence
    exact Part.setCondition_condition (by decide) _ _
  · rw [w.2]; simp [Part.setDivergence]

/-- An unjudged close of an open window (R43). -/
theorem Part.unjudgedClose_derived {u : Part} {x : Window} (h : u.recon.window = some x) :
    u.unjudgedClose.derived =
      ({ u with account := u.shortfallAccount x, recon := { u.recon with window := none } } : Part).derived := by
  unfold Part.unjudgedClose
  rw [h]
  dsimp only
  rw [Part.windowConditions_derived, Part.chargeShortfall_derived]
  rfl

theorem Part.unjudgedClose_none {u : Part} (h : u.recon.window = none) : u.unjudgedClose = u := by
  unfold Part.unjudgedClose; rw [h]

theorem Part.recon_of_derived {u v : Part} (h : v.derived = u.derived) : v.recon = u.recon := by
  have t := congrArg Part.recon h; exact t

theorem Part.judgedClose_mode (u : Part) : u.judgedClose.recon.mode = u.recon.mode := by
  cases h : u.recon.window with
  | none => unfold Part.judgedClose; rw [h]
  | some x => rw [Part.recon_of_derived (Part.judgedClose_derived h)]

end Sys2Proof.Machine
end

