-- ==== Sys2Proof/Laws/PerInstr.lean ====
section
/-! SUPPORT. NoWord: no word spells the command, since no row of spec/opcode_table.json gives bits (log 2). -/

namespace Sys2Proof

/-- No word of any length spells the command. -/
def Laws.NoWord.Statement (i : Instr) : Prop := ∀ nbits w : Nat, decodeTableWord nbits w ≠ some i

/-- The decoder answers none. -/
theorem Laws.decodeTableWord_ne (i : Instr) : ∀ nbits w : Nat, decodeTableWord nbits w ≠ some i := by
  intro nbits w h
  cases h

theorem Laws.NoWord.energyReport (p : Port) (payload : List Byte) : Laws.NoWord.Statement (.energyReport p payload) :=
  Laws.decodeTableWord_ne _

theorem Laws.NoWord.switchReady (p : Port) (payload : List Byte) : Laws.NoWord.Statement (.switchReady p payload) :=
  Laws.decodeTableWord_ne _

theorem Laws.NoWord.submitCode (p : Port) (payload : List Byte) : Laws.NoWord.Statement (.submitCode p payload) :=
  Laws.decodeTableWord_ne _

theorem Laws.NoWord.takeEc (p : Port) (payload : List Byte) : Laws.NoWord.Statement (.takeEc p payload) :=
  Laws.decodeTableWord_ne _

theorem Laws.NoWord.confirmReconnect (p : Port) (payload : List Byte) : Laws.NoWord.Statement (.confirmReconnect p payload) :=
  Laws.decodeTableWord_ne _

theorem Laws.NoWord.readDisplay (p : Port) (payload : List Byte) : Laws.NoWord.Statement (.readDisplay p payload) :=
  Laws.decodeTableWord_ne _

theorem Laws.NoWord.readState (p : Port) (payload : List Byte) : Laws.NoWord.Statement (.readState p payload) :=
  Laws.decodeTableWord_ne _

theorem Laws.NoWord.readRegisters (p : Port) (payload : List Byte) : Laws.NoWord.Statement (.readRegisters p payload) :=
  Laws.decodeTableWord_ne _

theorem Laws.NoWord.tariffWrite (p : Port) (payload : List Byte) : Laws.NoWord.Statement (.tariffWrite p payload) :=
  Laws.decodeTableWord_ne _

theorem Laws.NoWord.tariffFinish (p : Port) (payload : List Byte) : Laws.NoWord.Statement (.tariffFinish p payload) :=
  Laws.decodeTableWord_ne _

theorem Laws.NoWord.tariffDiscard (p : Port) (payload : List Byte) : Laws.NoWord.Statement (.tariffDiscard p payload) :=
  Laws.decodeTableWord_ne _

theorem Laws.NoWord.tariffRead (p : Port) (payload : List Byte) : Laws.NoWord.Statement (.tariffRead p payload) :=
  Laws.decodeTableWord_ne _

theorem Laws.NoWord.setTime (p : Port) (payload : List Byte) : Laws.NoWord.Statement (.setTime p payload) :=
  Laws.decodeTableWord_ne _

theorem Laws.NoWord.readJournal (p : Port) (payload : List Byte) : Laws.NoWord.Statement (.readJournal p payload) :=
  Laws.decodeTableWord_ne _

theorem Laws.NoWord.fetchNotice (p : Port) (payload : List Byte) : Laws.NoWord.Statement (.fetchNotice p payload) :=
  Laws.decodeTableWord_ne _

theorem Laws.NoWord.noticeDone (p : Port) (payload : List Byte) : Laws.NoWord.Statement (.noticeDone p payload) :=
  Laws.decodeTableWord_ne _

theorem Laws.NoWord.configWrite (p : Port) (payload : List Byte) : Laws.NoWord.Statement (.configWrite p payload) :=
  Laws.decodeTableWord_ne _

theorem Laws.NoWord.loadKey (p : Port) (payload : List Byte) : Laws.NoWord.Statement (.loadKey p payload) :=
  Laws.decodeTableWord_ne _

theorem Laws.NoWord.activateInitialBank (p : Port) (payload : List Byte) : Laws.NoWord.Statement (.activateInitialBank p payload) :=
  Laws.decodeTableWord_ne _

theorem Laws.NoWord.relayTest (p : Port) (payload : List Byte) : Laws.NoWord.Statement (.relayTest p payload) :=
  Laws.decodeTableWord_ne _

theorem Laws.NoWord.enterService (p : Port) (payload : List Byte) : Laws.NoWord.Statement (.enterService p payload) :=
  Laws.decodeTableWord_ne _

theorem Laws.NoWord.unknownRequestKind (p : Port) (kind : Byte) (payload : List Byte) : Laws.NoWord.Statement (.unknownRequestKind p kind payload) :=
  Laws.decodeTableWord_ne _

theorem Laws.NoWord.characterReceived (p : Port) (character : Byte) (stopBitLow : Bool) : Laws.NoWord.Statement (.characterReceived p character stopBitLow) :=
  Laws.decodeTableWord_ne _

theorem Laws.NoWord.receiveSilenceTimeout (p : Port) : Laws.NoWord.Statement (.receiveSilenceTimeout p) :=
  Laws.decodeTableWord_ne _

theorem Laws.NoWord.responseSent (p : Port) : Laws.NoWord.Statement (.responseSent p) := Laws.decodeTableWord_ne _

theorem Laws.NoWord.portResetAssert (p : Port) : Laws.NoWord.Statement (.portResetAssert p) :=
  Laws.decodeTableWord_ne _

theorem Laws.NoWord.portResetRelease (p : Port) : Laws.NoWord.Statement (.portResetRelease p) :=
  Laws.decodeTableWord_ne _

theorem Laws.NoWord.linkSuspect (l : Link) : Laws.NoWord.Statement (.linkSuspect l) := Laws.decodeTableWord_ne _

theorem Laws.NoWord.linkLost (l : Link) : Laws.NoWord.Statement (.linkLost l) := Laws.decodeTableWord_ne _

theorem Laws.NoWord.epRisingEdge : Laws.NoWord.Statement .epRisingEdge := Laws.decodeTableWord_ne _

theorem Laws.NoWord.epFallingEdge : Laws.NoWord.Statement .epFallingEdge := Laws.decodeTableWord_ne _

theorem Laws.NoWord.intervalCounterWrap : Laws.NoWord.Statement .intervalCounterWrap := Laws.decodeTableWord_ne _

theorem Laws.NoWord.windowTimeClose : Laws.NoWord.Statement .windowTimeClose := Laws.decodeTableWord_ne _

theorem Laws.NoWord.minuteBoundary : Laws.NoWord.Statement .minuteBoundary := Laws.decodeTableWord_ne _

theorem Laws.NoWord.clockWrap : Laws.NoWord.Statement .clockWrap := Laws.decodeTableWord_ne _

theorem Laws.NoWord.codeScreening : Laws.NoWord.Statement .codeScreening := Laws.decodeTableWord_ne _

theorem Laws.NoWord.codeLockoutExpiry (p : Port) : Laws.NoWord.Statement (.codeLockoutExpiry p) :=
  Laws.decodeTableWord_ne _

theorem Laws.NoWord.checkpointAttemptEnd (readBack : Bool) : Laws.NoWord.Statement (.checkpointAttemptEnd readBack) :=
  Laws.decodeTableWord_ne _

theorem Laws.NoWord.bankWriteAttemptEnd (readBack : Bool) : Laws.NoWord.Statement (.bankWriteAttemptEnd readBack) :=
  Laws.decodeTableWord_ne _

theorem Laws.NoWord.configWriteAttemptEnd (readBack : Bool) : Laws.NoWord.Statement (.configWriteAttemptEnd readBack) :=
  Laws.decodeTableWord_ne _

theorem Laws.NoWord.journalWriteAttemptEnd (readBack : Bool) : Laws.NoWord.Statement (.journalWriteAttemptEnd readBack) :=
  Laws.decodeTableWord_ne _

theorem Laws.NoWord.hourlyTimerExpiry : Laws.NoWord.Statement .hourlyTimerExpiry := Laws.decodeTableWord_ne _

theorem Laws.NoWord.loadEvaluation : Laws.NoWord.Statement .loadEvaluation := Laws.decodeTableWord_ne _

theorem Laws.NoWord.loadLockoutExpiry : Laws.NoWord.Statement .loadLockoutExpiry := Laws.decodeTableWord_ne _

theorem Laws.NoWord.tripAgeOut : Laws.NoWord.Statement .tripAgeOut := Laws.decodeTableWord_ne _

theorem Laws.NoWord.coverSwitchChange (cover : Cover) (opened : Bool) : Laws.NoWord.Statement (.coverSwitchChange cover opened) :=
  Laws.decodeTableWord_ne _

theorem Laws.NoWord.magneticSensorChange (field : Bool) : Laws.NoWord.Statement (.magneticSensorChange field) :=
  Laws.decodeTableWord_ne _

theorem Laws.NoWord.tamperDebounceExpiry (cause : TamperCause) : Laws.NoWord.Statement (.tamperDebounceExpiry cause) :=
  Laws.decodeTableWord_ne _

theorem Laws.NoWord.tamperReleaseExpiry (cause : TamperCause) : Laws.NoWord.Statement (.tamperReleaseExpiry cause) :=
  Laws.decodeTableWord_ne _

theorem Laws.NoWord.handshakeTimeout : Laws.NoWord.Statement .handshakeTimeout := Laws.decodeTableWord_ne _

theorem Laws.NoWord.zxEdge : Laws.NoWord.Statement .zxEdge := Laws.decodeTableWord_ne _

theorem Laws.NoWord.zxTimeout : Laws.NoWord.Statement .zxTimeout := Laws.decodeTableWord_ne _

theorem Laws.NoWord.relayDelayEnd : Laws.NoWord.Statement .relayDelayEnd := Laws.decodeTableWord_ne _

theorem Laws.NoWord.coilPulseEnd : Laws.NoWord.Statement .coilPulseEnd := Laws.decodeTableWord_ne _

theorem Laws.NoWord.settleEnd : Laws.NoWord.Statement .settleEnd := Laws.decodeTableWord_ne _

theorem Laws.NoWord.blankingEnd : Laws.NoWord.Statement .blankingEnd := Laws.decodeTableWord_ne _

theorem Laws.NoWord.contactSenseChange (sense : PhaseSet) : Laws.NoWord.Statement (.contactSenseChange sense) :=
  Laws.decodeTableWord_ne _

theorem Laws.NoWord.bypassAriseTimerExpiry : Laws.NoWord.Statement .bypassAriseTimerExpiry :=
  Laws.decodeTableWord_ne _

theorem Laws.NoWord.bypassEndTimerExpiry : Laws.NoWord.Statement .bypassEndTimerExpiry := Laws.decodeTableWord_ne _

theorem Laws.NoWord.jumpTimerExpiry : Laws.NoWord.Statement .jumpTimerExpiry := Laws.decodeTableWord_ne _

theorem Laws.NoWord.retryTimerExpiry : Laws.NoWord.Statement .retryTimerExpiry := Laws.decodeTableWord_ne _

theorem Laws.NoWord.powerFailWarning : Laws.NoWord.Statement .powerFailWarning := Laws.decodeTableWord_ne _

theorem Laws.NoWord.mainDomainStop (cutLandsWhole : Bool) : Laws.NoWord.Statement (.mainDomainStop cutLandsWhole) :=
  Laws.decodeTableWord_ne _

theorem Laws.NoWord.mainStart : Laws.NoWord.Statement .mainStart := Laws.decodeTableWord_ne _

theorem Laws.NoWord.retentionReset : Laws.NoWord.Statement .retentionReset := Laws.decodeTableWord_ne _

end Sys2Proof
end

