-- ==== Sys2Proof/Laws/Requests.lean ====
section
/-! SUPPORT. What a request's frame does in HUNT, once for all requests: its effect at the moment of taking, and the
response owed (R170 to R172). -/

namespace Sys2Proof.Machine

theorem ReqKind.byte_lt (k : ReqKind) : ¬ (0x80 ≤ k.byte.toNat) := by cases k <;> decide

@[simp] theorem reqKindOf_byte (k : ReqKind) : reqKindOf k.byte = some k := by cases k <;> rfl

/-- Every request's meaning is the arrival of its frame. -/
theorem exec_command (k : ReqKind) (p : Port) (b : List Byte) (s : State) :
    exec (k.command p b) s = answer s (Part.frameArrives p k.byte b) := by cases k <;> rfl

/-- In HUNT a frame of 0 to 200 payload bytes is taken. -/
theorem Part.frameArrives_hunt {u : Part} {p : Port} {kind : Byte} {b : List Byte} (h : u.hunting p)
    (hb : b.length ≤ 200) (hk : ¬ (0x80 ≤ kind.toNat)) :
    u.frameArrives p kind b =
      ((u.taking p kind).perform kind p b).1.owing p kind ((u.taking p kind).perform kind p b).2 := by
  unfold Part.frameArrives
  rw [show (u.receivers.get p).state = .hunt from h]
  simp only [hb, if_true, Part.hearFrame, Part.takeChecked, hk, if_false]
  rfl

/-- A request in HUNT has its effect on the part as it finds it, and its response is owed. -/
theorem exec_command_hunt {s : State} {k : ReqKind} {p : Port} {b : List Byte} (h : s.part.hunting p)
    (hb : b.length ≤ 200) :
    exec (k.command p b) s = .next (s.replied p k.byte ((s.part.taking p k.byte).perform k.byte p b).2
      ((s.part.taking p k.byte).perform k.byte p b).1) := by
  rw [exec_command, answer, Part.frameArrives_hunt h hb k.byte_lt]
  rfl

/-- A permitted request of an admitted length has its owner's effect. -/
theorem Part.perform_permitted {u : Part} {k : ReqKind} {p : Port} {b : List Byte} (h : k.permitted p u.lifecycle = true)
    (hb : k.admits b.length = true) : u.perform k.byte p b = k.effect p b u := by
  simp [Part.perform, h, hb]

@[simp] theorem Part.taking_lifecycle (u : Part) (p : Port) (kind : Byte) : (u.taking p kind).lifecycle = u.lifecycle := by
  unfold Part.taking Part.beginTaking Part.linkUp
  cases p <;> dsimp only <;> (try split) <;> simp <;> rfl

/-- A permitted request of an admitted length, from its frame to its response. -/
theorem exec_permitted {s : State} {k : ReqKind} {p : Port} {b : List Byte} (h : s.part.hunting p) (hb : b.length ≤ 200)
    (hp : k.permitted p s.part.lifecycle = true) (ha : k.admits b.length = true) :
    exec (k.command p b) s = .next (s.replied p k.byte (k.effect p b (s.part.taking p k.byte)).2
      (k.effect p b (s.part.taking p k.byte)).1) := by
  rw [exec_command_hunt h hb, Part.perform_permitted (by simpa using hp) ha]

end Sys2Proof.Machine
end

