-- ==== Sys2Proof/Laws/Ports.lean ====
section
/-! SUPPORT. The port controller: what hearing characters does to a receiver, and that a frame's characters are its request
(R167, R168, R170). -/

namespace Sys2Proof.Machine

/-- Hearing twice at one moment is hearing once. -/
@[simp] theorem Part.hear_hear (u : Part) (p : Port) (a b : Receive) : (u.hear p a).hear p b = u.hear p b := by
  cases p <;> rfl

@[simp] theorem Part.hear_setReceive (u : Part) (p : Port) (a b : Receive) :
    (u.hear p a).setReceive p b = u.hear p b := by
  cases p <;> rfl

/-- A frame is taken alike whatever its receiver was. -/
theorem Part.takeChecked_hear (u : Part) (p : Port) (a b : Receive) (kind : Byte) (payload : List Byte) :
    (u.hear p a).takeChecked p kind payload = (u.hear p b).takeChecked p kind payload := by
  unfold Part.takeChecked Part.frameError Part.takeFrame Part.beginTaking
  simp

/-- The contact watch sees nothing of a receiver. -/
theorem Part.watchContacts_hear (u : Part) (p : Port) (a : Receive) :
    (u.hear p a).watchContacts = u.watchContacts.hear p a := rfl

end Sys2Proof.Machine
end

