-- ==== Sys2Proof/Laws/Tariff.lean ====
section
/-! SUPPORT. The tariff engine: walks (R53), the standing charge and midnight processing (R9, R64), the setting of the clock
(R67 to R69), each up to what a derivation and the decision behind it may change. -/

namespace Sys2Proof.Machine

theorem Part.derived_of_sansStore {u v : Part} (h : v.sansStore = u.sansStore) : v.derived = u.derived :=
  Part.derived_of_core (Part.core_of_sansStore h)

@[simp] theorem Part.recompute_derived (u : Part) : u.recompute.derived = u.derived :=
  Part.derived_of_core (Part.recompute_core u)

@[simp] theorem Part.requestCheckpoint_derived (r : CheckpointReason) (u : Part) :
    (u.requestCheckpoint r).derived = u.derived := Part.derived_of_core (Part.requestCheckpoint_core r u)

@[simp] theorem Part.journal_derived (d : JournalDetail) (u : Part) : (u.journal d).derived = u.derived :=
  Part.derived_of_core (Part.journal_core d u)

@[simp] theorem Part.place_derived (x : Notice) (u : Part) : (u.place x).derived = u.derived :=
  Part.derived_of_core (Part.place_core x u)

@[simp] theorem Part.markDue_derived (u : Part) : u.markDue.derived = u.derived := Part.derived_of_core (Part.markDue_core u)

@[simp] theorem Part.markDueIf_derived (b : Bool) (u : Part) : (Part.markDueIf b u).derived = u.derived :=
  Part.derived_of_core (Part.markDueIf_core b u)

@[simp] theorem Part.handCauses_derived (c : CauseSet) (u : Part) : (u.handCauses c).derived = u.derived :=
  Part.derived_of_core (Part.handCauses_core c u)

@[simp] theorem Part.submitClass2_derived (w : Class2Write) (u : Part) : (u.submitClass2 w).derived = u.derived :=
  Part.derived_of_sansStore (Part.submitClass2_sansStore w u)

/-- A walk moves the tariff engine alone (R53). -/
theorem Part.walk_derived (u : Part) : u.walk.derived = ({ u with tariff := u.walked } : Part).derived := by
  unfold Part.walk
  dsimp only
  split
  · rfl
  · rw [Part.recompute_derived, Part.deriveQuietly_derived]; rfl

/-- The account after the standing charge of a day (R64 step 2). -/
def Part.dayAccount (u : Part) : Account :=
  if u.bankValue bankStandingCharge 0 = 0 then u.account else u.account.standing (u.bankValue bankStandingCharge 0)

theorem Part.dayCharge_derived (u : Part) : u.dayCharge.derived = ({ u with account := u.dayAccount } : Part).derived := by
  unfold Part.dayCharge Part.dayAccount Part.bankValue
  cases u.activeBank with
  | none => rfl
  | some i =>
    dsimp only
    unfold Part.standingCharge
    split
    · rfl
    · rw [Part.afterCharge_derived, Part.putAccount_derived_eq]

theorem Part.putLoad_derived (l : Load) (u : Part) : (u.putLoad l).derived = ({ u with load := l } : Part).derived := by
  unfold Part.putLoad
  dsimp only
  rw [Part.handCauses_derived, Part.markDueIf_derived]

theorem Part.closeDay_derived (day : Nat) (u : Part) :
    (u.closeDay day).derived =
      ({ u with tariff := { u.tariff with lastStandingDay := day }, clock := { u.clock with adjustment := 0 } } :
        Part).derived := by
  unfold Part.closeDay
  rw [Part.markDue_derived]

/-- Every midnight but that of a backward setting reaches the load limiter, whatever the free value (R64; log 66). -/
@[simp] theorem Midnight.reachesLimiter_forward (day : Nat) : Midnight.reachesLimiter ⟨day, false⟩ = true := rfl

@[simp] theorem Midnight.reachesLimiter_backward (day : Nat) :
    Midnight.reachesLimiter ⟨day, true⟩ = Config.backwardSettingEndsLockout := rfl

/-- The load limiter after a midnight: one that reaches it clears the extended lockout (R64, R128). -/
def Midnight.limiter (m : Midnight) (l : Load) : Load := if m.reachesLimiter then { l with extended := false } else l

theorem Part.limiterTold_derived (m : Midnight) (u : Part) :
    (if m.reachesLimiter then u.loadMidnight else u).derived = ({ u with load := m.limiter u.load } : Part).derived := by
  unfold Midnight.limiter Part.loadMidnight
  split
  · rw [Part.putLoad_derived]
  · rfl

/-- Steps 2 to 4 of a midnight (R64). -/
theorem Part.finishMidnight_derived (m : Midnight) (u : Part) :
    (u.finishMidnight m).derived =
      if u.tariff.lastStandingDay < m.day then
        ({ u with
            account := u.dayAccount, tariff := { u.tariff with lastStandingDay := m.day },
            clock := { u.clock with adjustment := 0 }, load := m.limiter u.load } : Part).derived
      else ({ u with load := m.limiter u.load } : Part).derived := by
  unfold Part.finishMidnight
  dsimp only
  rw [Part.limiterTold_derived]
  have a : ∀ v : Part, ({ v.requestCheckpoint .midnight with
      load := m.limiter (v.requestCheckpoint .midnight).load } : Part).derived =
      ({ v with load := m.limiter v.load } : Part).derived := fun v =>
    Part.derived_map (fun w => { w with load := m.limiter w.load }) (fun _ => rfl)
      (Part.requestCheckpoint_derived .midnight v)
  rw [a]
  split
  · have b := (Part.closeDay_derived m.day u.dayCharge).trans
      (Part.derived_map (fun w => { w with
        tariff := { w.tariff with lastStandingDay := m.day }, clock := { w.clock with adjustment := 0 } }) (fun _ => rfl)
        (Part.dayCharge_derived u))
    exact Part.derived_map (fun w => { w with load := m.limiter w.load }) (fun _ => rfl) b
  · rfl

/-- A midnight that has nothing to wait for is processed whole (R64). -/
theorem Part.midnightEvent_plain {u : Part} (m : Midnight) (h : u.tariff.midnight = none)
    (p : u.tariff.pending.isScheduled = false) :
    u.midnightEvent m =
      { u.finishMidnight m with tariff := { (u.finishMidnight m).tariff with midnight := none, midnightsWaiting := [] } } := by
  unfold Part.midnightEvent
  rw [h]
  simp [Part.runMidnights, Part.midnightActivates, p]

theorem Part.midnightEvent_derived {u : Part} (m : Midnight) (h : u.tariff.midnight = none)
    (p : u.tariff.pending.isScheduled = false) :
    (u.midnightEvent m).derived =
      if u.tariff.lastStandingDay < m.day then
        ({ u with
            account := u.dayAccount,
            tariff := { u.tariff with lastStandingDay := m.day, midnight := none, midnightsWaiting := [] },
            clock := { u.clock with adjustment := 0 }, load := m.limiter u.load } : Part).derived
      else
        ({ u with
            tariff := { u.tariff with midnight := none, midnightsWaiting := [] },
            load := m.limiter u.load } : Part).derived := by
  rw [Part.midnightEvent_plain m h p]
  have f : ∀ v w : Part, v.derived = w.derived →
      ({ v with tariff := { v.tariff with midnight := none, midnightsWaiting := [] } } : Part).derived =
      ({ w with tariff := { w.tariff with midnight := none, midnightsWaiting := [] } } : Part).derived := fun v w h =>
    Part.derived_map (fun w => { w with tariff := { w.tariff with midnight := none, midnightsWaiting := [] } })
      (fun _ => rfl) h
  have k := Part.finishMidnight_derived m u
  split
  · rename_i h
    rw [if_pos h] at k
    exact f _ _ k
  · rename_i h
    rw [if_neg h] at k
    exact f _ _ k

theorem Part.clockEvidence_derived (a b : Nat) (u : Part) : (u.clockEvidence a b).derived = u.derived := by
  unfold Part.clockEvidence
  split
  · rfl
  · simp

/-! ### Single fields of parts that differ in what a derivation may change -/

section fields

variable {u v : Part} (h : v.derived = u.derived)

include h

theorem Part.power_of_derived : v.power = u.power := by have k := congrArg Part.power h; exact k

theorem Part.lifecycle_of_derived : v.lifecycle = u.lifecycle := by have k := congrArg Part.lifecycle h; exact k

theorem Part.timeBase_of_derived : v.timeBase = u.timeBase := by have k := congrArg Part.timeBase h; exact k

theorem Part.clock_of_derived : v.clock = u.clock := by have k := congrArg Part.clock h; exact k

theorem Part.inputs_of_derived : v.inputs = u.inputs := by have k := congrArg Part.inputs h; exact k

theorem Part.pulse_of_derived : v.pulse = u.pulse := by have k := congrArg Part.pulse h; exact k

theorem Part.codes_of_derived : v.codes = u.codes := by have k := congrArg Part.codes h; exact k

theorem Part.load_of_derived : v.load = u.load := by have k := congrArg Part.load h; exact k

theorem Part.receivers_of_derived : v.receivers = u.receivers := by have k := congrArg Part.receivers h; exact k

theorem Part.links_of_derived : v.links = u.links := by have k := congrArg Part.links h; exact k

end fields

/-! ### What a walk leaves of the engine -/

@[simp] theorem Part.walked_activeArea (u : Part) : u.walked.activeArea = u.tariff.activeArea := by
  unfold Part.walked; repeat' split
  all_goals rfl

@[simp] theorem Part.walked_midnight (u : Part) : u.walked.midnight = u.tariff.midnight := by
  unfold Part.walked; repeat' split
  all_goals rfl

@[simp] theorem Part.walked_pending (u : Part) : u.walked.pending = u.tariff.pending := by
  unfold Part.walked; repeat' split
  all_goals rfl

@[simp] theorem Part.walked_lastStandingDay (u : Part) : u.walked.lastStandingDay = u.tariff.lastStandingDay := by
  unfold Part.walked; repeat' split
  all_goals rfl

@[simp] theorem Part.walked_dayBefore (u : Part) : u.walked.dayBefore = u.tariff.dayBefore := by
  unfold Part.walked; repeat' split
  all_goals rfl

/-- The account of a day's charge depends on the books and the active bank alone. -/
theorem Part.dayAccount_books {u v : Part} (a : v.account.books = u.account.books) (b : v.activeBank = u.activeBank) :
    v.dayAccount.books = u.dayAccount.books := by
  have c : v.bankValue bankStandingCharge 0 = u.bankValue bankStandingCharge 0 := by unfold Part.bankValue; rw [b]
  unfold Part.dayAccount
  rw [c]
  have k : ∀ (x y : Account) (c : Nat), x.books = y.books → (x.standing c).books = (y.standing c).books := by
    intro x y c e
    have f : ∀ z : Account, (z.standing c).books = (z.books.standing c).books := fun _ => rfl
    rw [f x, f y, e]
  split
  · exact a
  · exact k _ _ _ a

/-! ### What PFW and the stop take from the tariff engine (R70) -/

@[simp] theorem Tariff.losePending_pending (t : Tariff) : t.losePending.pending = .empty := rfl

@[simp] theorem Tariff.losePending_scheduleMarker (t : Tariff) : t.losePending.scheduleMarker = t.scheduleMarker := rfl

@[simp] theorem Tariff.losePending_activeArea (t : Tariff) : t.losePending.activeArea = t.activeArea := rfl

@[simp] theorem Tariff.atStop_scheduleMarker (t : Tariff) : t.atStop.scheduleMarker = t.scheduleMarker := rfl

@[simp] theorem Tariff.atStop_activeArea (t : Tariff) : t.atStop.activeArea = t.activeArea := rfl

@[simp] theorem Tariff.atStop_activation (t : Tariff) : t.atStop.activation = none := rfl

/-- With the pending bank lost no midnight starts an activation, whatever the schedule marker says. -/
theorem Part.losePending_starts_no_midnight (u : Part) :
    Part.midnightActivates { u with tariff := u.tariff.losePending } = false := rfl

end Sys2Proof.Machine
end

