-- ==== Sys2Proof/Laws/Tick.lean ====
section
/-! SUPPORT. A tick: what it leaves alone, and when an event is among those that fall due (logs 4, 5). -/

namespace Sys2Proof.Machine

@[simp] theorem Part.ticked_timeBase (u : Part) : u.ticked.timeBase = u.timeBase + 1 := rfl
@[simp] theorem Part.ticked_power (u : Part) : u.ticked.power = u.power := rfl
@[simp] theorem Part.ticked_lostMark (u : Part) : u.ticked.lostMark = u.lostMark := rfl
@[simp] theorem Part.ticked_lifecycle (u : Part) : u.ticked.lifecycle = u.lifecycle := rfl
@[simp] theorem Part.ticked_inputs (u : Part) : u.ticked.inputs = u.inputs := rfl
@[simp] theorem Part.ticked_outputs (u : Part) : u.ticked.outputs = u.outputs := rfl
@[simp] theorem Part.ticked_account (u : Part) : u.ticked.account = u.account := rfl
@[simp] theorem Part.ticked_accountCauses (u : Part) : u.ticked.accountCauses = u.accountCauses := rfl
@[simp] theorem Part.ticked_recon (u : Part) : u.ticked.recon = u.recon := rfl
@[simp] theorem Part.ticked_tariff (u : Part) : u.ticked.tariff = u.tariff := rfl
@[simp] theorem Part.ticked_codes (u : Part) : u.ticked.codes = u.codes := rfl
@[simp] theorem Part.ticked_supply (u : Part) : u.ticked.supply = u.supply := rfl
@[simp] theorem Part.ticked_load (u : Part) : u.ticked.load = u.load := rfl
@[simp] theorem Part.ticked_tamper (u : Part) : u.ticked.tamper = u.tamper := rfl
@[simp] theorem Part.ticked_checkpointDue (u : Part) : u.ticked.checkpointDue = u.checkpointDue := rfl
@[simp] theorem Part.ticked_store (u : Part) : u.ticked.store = u.store := rfl
@[simp] theorem Part.ticked_array (u : Part) : u.ticked.array = u.array := rfl
@[simp] theorem Part.ticked_config (u : Part) : u.ticked.config = u.config := rfl
@[simp] theorem Part.ticked_receivers (u : Part) : u.ticked.receivers = u.receivers := rfl
@[simp] theorem Part.ticked_links (u : Part) : u.ticked.links = u.links := rfl
@[simp] theorem Part.ticked_overtaken (u : Part) : u.ticked.overtaken = u.overtaken := rfl
@[simp] theorem Part.ticked_notices (u : Part) : u.ticked.notices = u.notices := rfl

@[simp] theorem mem_dueIf {b : Bool} {i j : Instr} : i ∈ dueIf b j ↔ b = true ∧ i = j := by
  cases b <;> simp [dueIf]

@[simp] theorem Part.running_iff (u : Part) : u.running = true ↔ u.power = .running := by simp [Part.running]

@[simp] theorem Part.active_iff (u : Part) : u.active = true ↔ u.power = .running ∨ u.power = .failing := by
  simp [Part.active]

@[simp] theorem Part.mainOn_iff (u : Part) : u.mainOn = true ↔ u.power ≠ .stopped := by simp [Part.mainOn]

@[simp] theorem Part.reached_some (u : Part) (t : Nat) : u.reached (some t) = decide (t ≤ u.timeBase) := rfl

@[simp] theorem Part.reached_none (u : Part) : u.reached none = false := rfl

theorem Part.reached_iff (u : Part) (d : Option Nat) : u.reached d = true ↔ ∃ t, d = some t ∧ t ≤ u.timeBase := by
  cases d <;> simp

theorem Part.passed_iff (u : Part) (d : Option Nat) (n : Nat) :
    u.passed d n = true ↔ ∃ t, d = some t ∧ t + n ≤ u.timeBase := by
  cases d <;> simp [Part.passed]

theorem Codes.screening_iff (c : Codes) : c.screening = true ↔ ∃ slots mid, c.head = some (.screening slots mid) := by
  unfold Codes.screening; split <;> simp_all

theorem debounce_mem_timers (c : TamperCause) : .tamperDebounceExpiry c ∈ timers := by cases c <;> simp [timers, allCauses]
theorem release_mem_timers (c : TamperCause) : .tamperReleaseExpiry c ∈ timers := by cases c <;> simp [timers, allCauses]
theorem silence_mem_timers (p : Port) : .receiveSilenceTimeout p ∈ timers := by cases p <;> simp [timers]
theorem suspect_mem_timers (l : Link) : .linkSuspect l ∈ timers := by cases l <;> simp [timers]
theorem lost_mem_timers (l : Link) : .linkLost l ∈ timers := by cases l <;> simp [timers]

/-- An expiry falls due with the tick at which its time comes. -/
theorem Part.mem_due_timer {u : Part} {i : Instr} (h : i ∈ timers) : i ∈ u.due ↔ u.ticked.hasCome i = true := by
  have h1 : i ≠ .intervalCounterWrap := by rintro rfl; simp [timers, allCauses] at h
  have h2 : i ≠ .clockWrap := by rintro rfl; simp [timers, allCauses] at h
  have h3 : i ≠ .minuteBoundary := by rintro rfl; simp [timers, allCauses] at h
  have h4 : i ≠ .codeScreening := by rintro rfl; simp [timers, allCauses] at h
  simp [Part.due, Part.dueCounters, h, h1, h2, h3, h4]

end Sys2Proof.Machine
end

