-- ==== Sys2Proof/Tests/Slice0.lean ====
section
/-! SUPPORT. Tests: the checks of WellFormed, one small step of several commands, and for every statement with hypotheses a
concrete state and operands that meet them. -/

namespace Sys2Proof.Tests

open Sys2Proof Sys2Proof.Machine

set_option Elab.async false

/-! ### Small states -/

/-- A state with this part and nothing waiting. -/
def holding (u : Part) : State := { part := u, pending := [] }

/-- A new part whose main domain runs, with every port in HUNT and the supply closed. -/
def live : Part :=
  { Part.newPart with
    power := .running, lostMark := false, receivers := ⟨⟨.hunt, 0⟩, ⟨.hunt, 0⟩, ⟨.hunt, 0⟩⟩,
    inputs := { Part.newPart.inputs with sense := ⟨true, true, true⟩ },
    supply := { Supply.newPart with relay := .settled .closed, logical := .settled .closed } }

/-- The small part after PFW. -/
def failing : Part := { live with power := .failing }

/-- A bank that passes validation: version 1, standing charge 7, price 2 in band 0, EC amount 5 below 10, ceiling 1,000,
NO_CREDIT, LOAD_LIMIT and TAMPER disconnecting, hold time 5 s, lockout 30 s, MAGNETIC disconnecting, one record a day. -/
def bank : Image :=
  [(0, toBytes 2 1), (2, toBytes 4 7), (6, toBytes 3 2), (34, toBytes 4 5), (38, toBytes 4 10), (46, toBytes 4 1000),
    (50, toBytes 1 13), (53, toBytes 2 5), (55, toBytes 2 30), (59, toBytes 1 2), (70, toBytes 4 100), (74, toBytes 2 50),
    (76, toBytes 1 1), (84, toBytes 1 255)].foldl (fun i x => storeBytes i x.1 x.2) Image.zero

/-- The part with that bank active. -/
def banked (u : Part) : Part :=
  { u with tariff := { u.tariff with activeArea := some .areaA }, array := { u.array with areaA := .image bank } }

/-- A port's receiver in this state. -/
def receiving (p : Port) (st : Receive) (u : Part) : Part := u.setReceive p st

/-- An opening in this stage. -/
def opening (stage : Stage) (attempt : Nat) : Operation :=
  { direction := .opening, reason := .decision, stage := stage, attempt := attempt, synchronised := false,
    awaited := ⟨true, true⟩, answered := ⟨true, false⟩, mh := 3, relayDelay := 2500, pulseWidth := 60, settleTime := 150,
    stageAt := 0 }

/-- The part with this relay state. -/
def relayed (r : Relay) (u : Part) : Part := { u with supply := { u.supply with relay := r } }

/-- The part with this attempt in flight. -/
def writing (a : Attempt) (u : Part) : Part := { u with store := { u.store with inFlight := some a } }

/-- What a command leaves meets a test. -/
def leaves (c : Instr) (u : Part) (check : Part → Bool) : Bool :=
  match exec c (holding u) with
  | .next t => check t.part
  | .fault _ => false
  | .refused _ => false

/-- What commands leave that come before a waiting expiry of their moment, and then the expiry, meets a test. -/
def comeBefore (first : List Instr) (expiry : Instr) (u : Part) (check : Part → Bool) : Bool :=
  match execAll first { part := u, pending := [expiry] } with
  | .next t =>
    match step t with
    | .next v => u.hasCome expiry && v.part.overtaken.isEmpty && check v.part
    | .fault _ => false
    | .refused _ => false
  | .fault _ => false
  | .refused _ => false

/-- The part with this record of a cause. -/
def recorded (c : TamperCause) (r : TamperRecord) (u : Part) : Part :=
  { u with tamper := { u.tamper with records := u.tamper.records.set (causeIndex c).val r (causeIndex c).isLt } }

/-- A checkpoint attempt on this part. -/
def checkpoint (u : Part) (retry carriesCode : Bool) : CheckpointAttempt :=
  { record := u.snapshot 1 0, slot := 0, firstSequence := 1, retry := retry, writesNothing := false, changedSince := false,
    carriesCode := carriesCode, carriesActivation := false }

/-- The 24 digits of a code body. -/
def digitsOf (n : Nat) : List Byte := (List.range 24).map (fun i => BitVec.ofNat 8 (48 + n / 10 ^ (23 - i) % 10))

/-- A loaded key slot. -/
def slot0 : KeySlot := { k0 := 1, k1 := 2, k2 := 3, k3 := 4, loaded := true }

/-- The key slots with slots 0 and 1 loaded. -/
def slots : Vector KeySlot 4 := #v[slot0, slot0, KeySlot.empty, KeySlot.empty]

/-- A genuine code of a kind, serial and value under generation 0 and MID 0. -/
def genuine (kind serial value : Nat) : DecodedCode :=
  let c : DecodedCode := { kind := kind, serial := serial, value := value, check := 0 }
  { c with check := checkValue 0 slot0 0 c }

/-- The body of a code. -/
def bodyOf (c : DecodedCode) : Nat := c.kind * 2 ^ 74 + c.serial * 2 ^ 54 + c.value * 2 ^ 30 + c.check

/-- The part with this code at the head of its queue, in screening. -/
def coded (p : Port) (c : DecodedCode) (u : Part) : Part :=
  { u with codes := { u.codes with
      slots := slots, queue := [{ port := p, digits := digitsOf (bodyOf c) }], head := some (.screening slots 0) } }

/-! ### WellFormed -/

theorem test_payload_of_200_is_well_formed : (Instr.readState .s (List.replicate 200 0)).wellFormed = true := by decide +kernel

theorem test_payload_over_200_is_refused : (Instr.readState .s (List.replicate 201 0)).wellFormed = false := by decide +kernel

theorem test_known_kind_is_no_unknown_kind : (Instr.unknownRequestKind .s 0x07 []).wellFormed = false := by decide

theorem test_frame_error_kind_is_no_unknown_kind : (Instr.unknownRequestKind .s 0x80 []).wellFormed = false := by decide

theorem test_unknown_kinds_are_well_formed :
    (Instr.unknownRequestKind .s 0x00 []).wellFormed = true ∧ (Instr.unknownRequestKind .s 0x16 []).wellFormed = true ∧
      (Instr.unknownRequestKind .s 0x7F []).wellFormed = true := by decide

theorem test_meter_port_has_no_lockout : (Instr.codeLockoutExpiry .m).wellFormed = false := by decide

theorem test_bypass_has_no_debounce : (Instr.tamperDebounceExpiry .bypass).wellFormed = false := by decide

theorem test_neutral_missing_has_no_release : (Instr.tamperReleaseExpiry .neutralMissing).wellFormed = false := by decide

/-! ### Small steps -/

theorem test_main_start_of_a_new_part_closes_the_supply :
    leaves .mainStart Part.newPart (fun u =>
      u.power == .running && !u.lostMark && u.receivers.s.state == .hunt && decide (u.supply.logical = .inProgress)) = true := by
  decide +kernel

theorem test_first_character_of_a_frame :
    leaves (.characterReceived .k 0xC3 false) live (fun u => u.receivers.k.state == .length) = true := by decide +kernel

theorem test_frame_check_of_r167 : crc16 [0x31, 0x32, 0x33, 0x34, 0x35, 0x36, 0x37, 0x38, 0x39] = 0x29B1 := by
  decide +kernel

theorem test_read_state_is_answered :
    leaves (.readState .m []) live (fun u =>
      match u.response .m with
      | some frame => decide (frame.length = 29) && decide (frame.take 4 = [0xC3, 25, 0x87, 0])
      | none => false) = true := by decide +kernel

theorem test_readings_of_other_ports_are_not_permitted :
    leaves (.readRegisters .k [1]) live (fun u => u.response .k == some [0xC3, 2, 0x88, 0x04, 0x70, 0x49]) = true := by decide +kernel

theorem test_example_bank_passes_validation : bankFault bank = none := by decide +kernel

theorem test_pulse_of_ten_milliseconds_is_valid :
    leaves .epFallingEdge
      { live with timeBase := 328, pulse := { live.pulse with capture := some ⟨0, false, true, 0⟩ } }
      (fun u => u.pulse.energyTotal == 625 && u.pulse.counter == 328) = true := by decide +kernel

theorem test_pulse_below_ten_milliseconds_is_malformed :
    leaves .epFallingEdge
      { live with timeBase := 327, pulse := { live.pulse with capture := some ⟨0, false, true, 0⟩ } }
      (fun u => u.pulse.energyTotal == 0) = true := by decide +kernel

theorem test_emergency_credit_is_granted_once :
    leaves (.takeEc .k []) { banked live with account := { live.account with ecAvailable := true } }
      (fun u => u.account.balance == 5000 && u.account.ecOwed == 5 && !u.account.ecAvailable) = true := by
  decide +kernel

theorem test_genuine_code_is_applied :
    leaves .codeScreening (coded .k (genuine 0 1 5) (banked live))
      (fun u => u.account.balance == 5000 && decide (u.codes.serials.used = [1])) = true := by decide +kernel

theorem test_code_with_a_wrong_check_is_refused :
    leaves .codeScreening (coded .k { genuine 0 1 5 with check := 0 } (banked live))
      (fun u => u.account.balance == 0 && decide (u.codes.kPort.failures = [0]) && u.codes.queue.isEmpty) = true := by
  decide +kernel

theorem test_pulse_stage_drives_one_coil :
    leaves .relayDelayEnd (relayed (.operating (opening .delay 1)) live)
      (fun u => u.outputs.openCoil && !u.outputs.closeCoil) = true := by decide +kernel

theorem test_midnight_takes_the_standing_charge :
    leaves .minuteBoundary { banked live with clock := { count := 86400, valid := true, adjustment := 7 } }
      (fun u => u.account.balance == -7 && u.tariff.lastStandingDay == 1 && u.clock.adjustment == 0) = true := by
  decide +kernel

theorem test_a_forward_unclamped_setting_ends_the_extended_lockout :
    leaves (.setTime .s [0, 1, 0x51, 0x80])
      { banked live with load := { live.load with extended := true } }
      (fun u => u.account.balance == -7 && u.tariff.lastStandingDay == 1 && !u.load.extended) = true := by
  decide +kernel

/-- R65, whatever the free value of log 66. -/
theorem test_the_midnight_of_a_backward_setting_charges_its_day :
    ((banked live).finishMidnight ⟨1, true⟩).account.balance = -7 := by
  have k := congrArg (fun v => v.account.balance) (Part.finishMidnight_derived ⟨1, true⟩ (banked live))
  rw [if_pos (by decide +kernel)] at k
  exact k.trans (by decide +kernel)

theorem test_a_cover_closed_on_battery_leaves_the_checkpoint_due :
    leaves (.tamperReleaseExpiry .mainCover)
      (recorded .mainCover { TamperRecord.quiet with state := .present, timer := some 5 } failing)
      (fun u => u.checkpointDue && u.tamper.buffer.length == 1) = true := by decide +kernel

/-! ### Two events of one moment (log 53) -/

theorem test_a_valid_pulse_overtakes_the_counter_wrap :
    comeBefore [.epFallingEdge] .intervalCounterWrap
      { live with
        timeBase := 328, pulse := { live.pulse with counter := 16777215, capture := some ⟨0, false, true, 0⟩ } }
      (fun u => u.pulse.counter == 328 && !u.pulse.overflow) = true := by decide +kernel

theorem test_a_loss_and_a_resume_overtake_the_time_close :
    comeBefore [.linkLost .m, .energyReport .m [0, 1, 0, 0, 7, 1]] .windowTimeClose
      { live with
        timeBase := 29491200,
        recon := { mode := .reported, window := some ⟨0, 0, 0, 0, 0⟩, divergence := 2 } }
      (fun u => decide (u.recon = { mode := .reported, window := some ⟨0, 0, 0, 0, 29491200⟩, divergence := 2 })) = true := by
  decide +kernel

theorem test_a_break_in_the_sense_overtakes_the_bypass_timer :
    comeBefore [.contactSenseChange ⟨false, false, false⟩] .bypassAriseTimerExpiry
      { relayed (.settled .opened) live with
        timeBase := 163840, supply := { (relayed (.settled .opened) live).supply with bypassSince := some 0 } }
      (fun u => !u.condition .bypass) = true := by decide +kernel

theorem test_a_shown_phase_overtakes_the_jump_timer :
    comeBefore [.contactSenseChange ⟨true, false, false⟩] .jumpTimerExpiry
      { live with timeBase := 163840, supply := { live.supply with jumpSince := some 0 } }
      (fun u => decide (u.supply.relay = .settled .closed)) = true := by decide +kernel

theorem test_a_character_overtakes_the_silence :
    comeBefore [.characterReceived .k 7 false] (.receiveSilenceTimeout .k)
      (receiving .k (.body 3 2 []) { live with timeBase := 656 })
      (fun u => decide ((u.receivers.get .k).state = .body 3 1 [7])) = true := by decide +kernel

theorem test_a_longer_period_overtakes_the_link_silence :
    comeBefore [.configWrite .s [8, 0, 0, 0, 5]] (.linkSuspect .m)
      { live with timeBase := 32768, links := ⟨⟨.up, 0⟩, ⟨.up, 0⟩⟩ }
      (fun u => decide (u.links.m.state = .up)) = true := by decide +kernel

theorem test_a_configuration_item_is_retried_after_pfw :
    leaves (.configWriteAttemptEnd false) (writing (.config .mid (.number 7) false) failing)
      (fun u => decide (u.store.inFlight = some (.config .mid (.number 7) true))) = true := by decide +kernel

theorem test_power_fail_requests_its_checkpoint :
    leaves .powerFailWarning live (fun u => decide (u.power = .failing) && u.store.inFlight.isSome) = true := by
  decide +kernel

theorem test_power_fail_loses_the_pending_bank_and_keeps_its_marker :
    leaves .powerFailWarning
      { live with tariff := { live.tariff with pending := .scheduled 5, pendingImage := [1], scheduleMarker := some 5 } }
      (fun u => decide (u.tariff.pending = .empty ∧ u.tariff.pendingImage = Image.zero ∧
        u.tariff.scheduleMarker = some 5)) = true := by
  decide +kernel

theorem test_a_midnight_after_pfw_starts_no_schedule :
    leaves .minuteBoundary
      { failing with
        clock := ⟨86400, true, 0⟩, tariff := { failing.tariff with scheduleMarker := some 5, dayBefore := 0 } }
      (fun u => decide (u.tariff.activation = none ∧ u.tariff.scheduleMarker = some 5 ∧
        u.tariff.lastStandingDay = 1)) = true := by
  decide +kernel

/-- The part in which the head code's screening has captured a slot 1 that is not loaded, while it stands loaded now. -/
def loadedLate (c : DecodedCode) : Part :=
  let u := coded .s c live
  { u with codes := { u.codes with
      head := some (.screening #v[slot0, KeySlot.empty, KeySlot.empty, KeySlot.empty] 0) } }

theorem test_a_key_loaded_in_screening_acts_from_the_next_head :
    leaves .codeScreening (loadedLate (genuine 6 1 1))
      (fun u => decide (u.codes.generation = 0 ∧ u.codes.head = none)) = true ∧
    leaves .codeScreening (coded .s (genuine 6 1 1) live) (fun u => decide (u.codes.generation = 1)) = true := by
  decide +kernel

/-! ### States that meet the hypotheses of the statements

Each theorem is named after its statement; where a statement has several clauses, each has its line. -/

theorem witness_StepTakesFrontCommand :
    ((holding live).withFront .mainStart).pending = .mainStart :: (holding live).pending := rfl

theorem witness_IdleStepIsOneTick :
    (holding live).pending = [] ∧
    ({ live with timeBase := 32767, clock := ⟨4294967294, true, 0⟩ } : Part).timeBase + 1 = 32768 ∧
    (live.timeBase + 1) % 32768 ≠ 0 ∧ live.power = .running ∧ live.pulse.counter < 16777215 ∧ failing.power ≠ .running := by
  decide +kernel

/-- The part at this moment with both links UP since tick 0. -/
def linked (timeBase : Nat) (u : Part) : Part := { u with timeBase := timeBase, links := ⟨⟨.up, 0⟩, ⟨.up, 0⟩⟩ }

theorem witness_TimersFallDue :
    let silent := receiving .k .length { live with timeBase := 656 }
    let s : State := { part := silent, pending := [.receiveSilenceTimeout .k] }
    let v := receiving .k .hunt silent
    Instr.receiveSilenceTimeout .k ∈ s.pending ∧ silent.hasCome (.receiveSilenceTimeout .k) = true ∧
    v.watchContacts.hasCome (.receiveSilenceTimeout .k) = false ∧
    Instr.receiveSilenceTimeout .k ∈ (s.becomes v).part.overtaken ∧
    (linked 32768 live).hasCome (.linkSuspect .m) = true ∧ (linked 32767 live).hasCome (.linkSuspect .m) = false ∧
    (linked 262144 live).hasCome (.linkSuspect .k) = true ∧ (linked 262143 live).hasCome (.linkSuspect .k) = false := by
  decide +kernel

theorem witness_TakenFrame :
    let lost : Part := { live with links := { live.links with k := ⟨.lost, 0⟩ } }
    lost.links.k.state = .lost ∧ live.links.k.state ≠ .lost := by decide +kernel

theorem witness_RequestsAreTakenAndAnswered :
    (∀ p, live.hunting p) ∧ (List.replicate 200 (0 : Byte)).length ≤ 200 ∧
    ReqKind.permitted .readState .m live.lifecycle = true ∧ ReqKind.admits .readState 0 = true ∧
    ReqKind.admits .readState 200 = false ∧ ReqKind.permitted .setTime .k live.lifecycle = false ∧
    (List.replicate 200 (0 : Byte)).length ≤ 200 := by
  refine ⟨fun p => by cases p <;> rfl, ?_⟩
  decide +kernel

theorem witness_UnknownKindIsNotPermitted :
    live.hunting .m ∧ kindIsUnknown 0x00 = true ∧ kindIsUnknown 0x16 = true ∧ kindIsUnknown 0x7F = true ∧
    ([] : List Byte).length ≤ 200 := ⟨rfl, by decide +kernel⟩

theorem live_is_watched : live.Watched := rfl

theorem witness_FrameCharactersAreTheRequest :
    live.hunting .k ∧ live.Watched ∧ (List.replicate 200 (0 : Byte)).length ≤ 200 ∧
    ReqKind.byte .submitCode = 0x03 := ⟨rfl, live_is_watched, by decide +kernel⟩

theorem witness_CharacterMovesTheReceiver :
    ((receiving .s (.body 2 1 [7]) live).receivers.get .s).state = .body 2 1 [7] ∧
    ((receiving .s (.body 3 2 [7]) live).receivers.get .s).state = .body 3 2 [7] ∧
    ((receiving .s (.check 1 [7] none) live).receivers.get .s).state = .check 1 [7] none ∧
    ((receiving .s .length live).receivers.get .s).state = .length ∧ (live.receivers.get .s).state = .hunt := by
  decide +kernel

theorem witness_ReceiverLeavesAFrame :
    (Part.newPart.receivers.get .m).state = .stopped ∧ ((receiving .m .held live).receivers.get .m).state = .held ∧
    ((receiving .m (.drain true) live).receivers.get .m).state = .drain true ∧
    ((receiving .m (.drain false) live).receivers.get .m).state = .drain false ∧
    ((receiving .m (.busy (frameBytes 0x87 [0])) failing).receivers.get .m).state = .busy (frameBytes 0x87 [0]) ∧
    (receiving .m (.drain true) live).overtaken = [] := by decide +kernel

theorem witness_DamagedFrameIsFrameError :
    ((receiving .k (.check 1 [7] (some 0)) live).receivers.get .k).state = .check 1 (7 :: []) (some 0) ∧
    (crc16 [1, 7]).toNat ≠ 256 * (0 : Byte).toNat + (0 : Byte).toNat ∧
    ((receiving .k (.check 1 [0x80] (some 0)) live).receivers.get .k).state = .check 1 (0x80 :: []) (some 0) ∧
    0x80 ≤ (0x80 : Byte).toNat := by decide +kernel

theorem witness_PortResetHoldsOnePort :
    live.power ≠ .stopped ∧ (live.receivers.get .k).state ≠ .stopped ∧ live.power = .running ∧
    ((receiving .k .held live).receivers.get .k).state = .held := by decide +kernel

theorem witness_SilentLinkIsSuspectThenLost :
    live.power = .running ∧ live.links.m.state = .suspect ∧ live.links.k.state = .suspect ∧
    (PerLink.get ({ live with links := ⟨⟨.up, 0⟩, ⟨.up, 0⟩⟩ } : Part).links .k).state = .up ∧
    live.overtaken = [] := by decide +kernel

/-- The part with this balance, EC owed and credit state held. -/
def owing (balance : Int) (ecOwed : Nat) (before : CreditState) (u : Part) : Part :=
  { u with account := { u.account with balance := balance, ecOwed := ecOwed, creditState := before } }

theorem witness_DerivationTable :
    creditStateOf 1001 0 1 0 false = .normal ∧ creditStateOf 1000 0 1 0 false = .low ∧
    creditStateOf 1 1 1 0 false = .emergency ∧ creditStateOf 0 0 1 1 true = .friendlyHold ∧
    creditStateOf (-1000) 0 1 1 true = .exhausted ∧ ecAvailableOf 9999 0 5 10 = true ∧ ecAvailableOf 10000 0 5 10 = false ∧
    noCreditOf 0 = true ∧ noCreditOf 1 = false ∧ debtLimitOf (-1000) 1 = true ∧ debtLimitOf (-999) 1 = false ∧
    (owing 0 0 .normal (banked live)).account.ecAvailable = false ∧
    (owing 0 0 .normal (banked live)).deriveQuietly.account.ecAvailable = true ∧
    (owing 0 0 .normal (banked live)).deriveQuietly.supply.causes ≠ (owing 0 0 .normal (banked live)).supply.causes ∧
    (owing 1 0 .normal (banked live)).deriveQuietly.supply.causes = (owing 1 0 .normal (banked live)).supply.causes := by
  decide +kernel

/-- The part whose charges since checkpoint stand here. -/
def charging (n : Nat) (u : Part) : Part := { u with account := { u.account with chargesSinceCheckpoint := n } }

theorem witness_EnergyAndStandingCharge :
    let u := charging 99999 (banked live)
    let c (e : Nat) := (e * u.price + u.account.residue) / 1000000
    u.store.waiting = none ∧ u.activeBank = some bank ∧ c 500000 = 1 ∧ c 499999 = 0 ∧
    1000 * bankCheckpointStep bank ≤ u.account.chargesSinceCheckpoint + c 500000 ∧
    (charging 99998 (banked live)).account.chargesSinceCheckpoint + c 500000 < 1000 * bankCheckpointStep bank ∧
    live.activeBank = none ∧ live.store.waiting = none ∧ live.store.inFlight = none := by decide +kernel

theorem witness_TakeEc :
    live.hunting .k ∧
    (Part.taking .k 0x04 { live with account := { live.account with ecAvailable := true } }).account.ecAvailable = true ∧
    (live.taking .k 0x04).account.ecAvailable = false := ⟨rfl, by decide +kernel, by decide +kernel⟩

/-- The identity in a part whose log holds nothing and which writes nothing. -/
theorem blank_part_has_its_ledger {u : Part} (a : u.account.Identity) (b : u.array.log = Vector.replicate 64 .blank)
    (c : u.store.inFlight = none) : u.Ledger := by
  refine ⟨a, fun r h => ?_, fun x h => by simp [c] at h⟩
  simp [b] at h

theorem witness_BalanceIdentityIsKept :
    (holding Part.newPart).part.Ledger ∧
    ∃ t, step ((holding Part.newPart).withFront .mainStart) = .next t :=
  ⟨blank_part_has_its_ledger (by unfold Account.Identity; decide) rfl rfl, _, rfl⟩

theorem witness_RisingEdgeAndCounterWrap :
    live.power = .running ∧ failing.power ≠ .running ∧ Part.newPart.power ≠ .running ∧ live.overtaken = [] := by
  decide +kernel

/-- The part at this moment with a rising edge taken at tick 0 that carries an interval of this many ticks. -/
def pulsing (timeBase count : Nat) (u : Part) : Part :=
  { u with timeBase := timeBase, pulse := { u.pulse with capture := some ⟨count, false, false, 0⟩ } }

theorem witness_MalformedPulse :
    (pulsing 327 40000 live).pulse.capture = some ⟨40000, false, false, 0⟩ ∧ (pulsing 327 40000 live).timeBase - 0 < 328 ∧
    8192 < (pulsing 8193 40000 live).timeBase - 0 ∧
    5 * live.config.live.pmax < 4 * (live.config.live.pulseWeight * 589824 / (5 * 2457)) ∧ live.power = .running := by
  decide +kernel

theorem witness_ValidPulse :
    let window : Window := ⟨99375, 0, 0, 0, 0⟩
    let counted : Part := { live with recon := { live.recon with window := some window } }
    let alone : Part := { live with recon := { live.recon with mode := .pulseOnly } }
    (pulsing 328 2458 live).pulse.capture = some ⟨2458, false, false, 0⟩ ∧ 328 ≤ (pulsing 328 2458 live).timeBase - 0 ∧
    (pulsing 8192 2458 live).timeBase - 0 ≤ 8192 ∧
    4 * (live.config.live.pulseWeight * 589824 / (5 * 2458)) ≤ 5 * live.config.live.pmax ∧
    live.recon.mode = .reported ∧ live.recon.window = none ∧ counted.recon.window = some window ∧
    1000 * counted.bankValue bankWindowSize 100 ≤ window.ep + counted.config.live.pulseWeight ∧
    alone.recon.mode = .pulseOnly ∧ alone.recon.window = none := by decide +kernel

/-- The part with this window open. -/
def windowed (x : Window) (u : Part) : Part := { u with recon := { u.recon with window := some x } }

theorem witness_JudgedClose :
    (windowed ⟨100000, 90000, 10001, 16, 0⟩ live).recon.window = some ⟨100000, 90000, 10001, 16, 0⟩ ∧
    (windowed ⟨1250, 0, 0, 0, 0⟩ live).recon.window = some ⟨1250, 0, 0, 0, 0⟩ ∧
    (windowed ⟨1250, 0, 0, 0, 0⟩ live).power = .running ∧
    Instr.windowTimeClose ∉ (windowed ⟨1250, 0, 0, 0, 0⟩ live).overtaken ∧
    90000 + max (100000 * live.bankValue bankTolerance 3 / 100) (2 * live.config.live.pulseWeight) < 100000 ∧
    ¬ (0 + max (1250 * live.bankValue bankTolerance 3 / 100) (2 * live.config.live.pulseWeight) < 1250) := by
  decide +kernel

theorem witness_LostMeterLinkEntersPulseOnly :
    (windowed ⟨100000, 0, 0, 0, 0⟩ live).power = .running ∧ live.links.m.state = .suspect ∧
    live.recon.mode = .reported ∧ live.overtaken = [] ∧
    ({ live with recon := { live.recon with mode := .pulseOnly } } : Part).recon.mode = .pulseOnly := by decide +kernel

/-- A report of these increments, with all phases and the neutral present. -/
def report (importEnergy exportEnergy : Nat) : List Byte := toBytes 2 importEnergy ++ toBytes 2 exportEnergy ++ [7, 1]

theorem witness_ChargedReport :
    live.hunting .m ∧ (report 60000 60000).length = 6 ∧ beNat ((report 60000 60000).take 2) ≤ 60000 ∧
    beNat (((report 60000 60000).drop 2).take 2) ≤ 60000 ∧ live.recon.mode = .reported := ⟨rfl, by decide +kernel⟩

theorem witness_ResumeAndRefusedReport :
    live.hunting .m ∧ (report 60001 0).length = 6 ∧ 60000 < beNat ((report 60001 0).take 2) ∧
    60000 < beNat (((report 0 60001).drop 2).take 2) ∧ beNat ((report 60000 0).take 2) ≤ 60000 ∧
    beNat (((report 60000 0).drop 2).take 2) ≤ 60000 ∧
    ({ live with recon := { live.recon with mode := .pulseOnly } } : Part).recon.mode = .pulseOnly :=
  ⟨rfl, by decide +kernel⟩

/-- The bank with the 4 March a special day. -/
def holiday : Image := storeBytes bank 273 [3, 4]

theorem witness_WalkFindsTheCurrentRecord :
    bankFault bank = none ∧ 49710 ≤ 4294967295 / 86400 ∧ dateOf 63 = (3, 4) ∧ specialMonth holiday 0 = 3 ∧
    specialDay holiday 0 = 4 ∧ dateOf 62 = (3, 3) := by decide +kernel

/-- The bank with a chain that does not end at its 48th record. -/
def endless : Image :=
  (List.range 48).foldl (fun i r => storeBytes i (81 + 4 * r) (toBytes 2 r ++ [0, BitVec.ofNat 8 ((r + 1) % 48)])) bank

theorem witness_ValidBankIsInRange :
    bankFault bank = none ∧ bankVersion Image.zero = 0 ∧ bankFault (storeBytes bank 81 [0, 1]) = some 81 ∧
    bankFault endless = some 272 ∧ (banked live).activeBank = some bank ∧ live.activeBank = none ∧
    TamperCause.magnetic ≠ .retentionLost ∧ TamperCause.magnetic ≠ .storeFault := by decide +kernel

theorem witness_TariffWrite :
    live.hunting .s ∧ beNat (([1, 0x30, 0] : List Byte).take 2) ≤ 304 ∧ 304 + ([1, 0x30, 0].drop 2 : List Byte).length ≤ 305 ∧
    304 < beNat (([1, 0x31, 0] : List Byte).take 2) ∧ ([0, 0].drop 2 : List Byte).length < 1 ∧
    64 < ((List.replicate 67 0).drop 2 : List Byte).length ∧
    305 < beNat (([1, 0x30, 0, 0] : List Byte).take 2) + ([1, 0x30, 0, 0].drop 2 : List Byte).length := ⟨rfl, by decide +kernel⟩

/-- The part with this pending bank. -/
def withPending (st : PendingState) (i : Image) (u : Part) : Part :=
  { u with tariff := { u.tariff with pending := st, pendingImage := i } }

theorem witness_PendingBankRequests :
    live.hunting .s ∧ (live.taking .s 0x0A).tariff.pending = .empty ∧
    ((withPending .loading bank live).taking .s 0x0A).tariff.pending = .loading ∧ bankFault bank = none ∧
    bankFault Image.zero = some 0 ∧
    ((withPending (.finished 5) bank live).taking .s 0x0A).tariff.pending = .finished 5 ∧
    ((withPending (.scheduled 5) bank live).taking .s 0x0A).tariff.pending = .scheduled 5 ∧
    ([0, 1, 0x30, 1] : List Byte).length = 4 := ⟨rfl, by decide +kernel⟩

/-- The part with this clock. -/
def timed (c : Clock) (u : Part) : Part := { u with clock := c }

theorem witness_MinuteBoundary :
    let u := timed ⟨86400, true, 7⟩ (banked live)
    u.power = .running ∧ u.tariff.midnight = none ∧ u.tariff.pending.isScheduled = false ∧ u.clock.valid = true ∧
    u.activeBank = some bank ∧ u.tariff.dayBefore < u.clock.count / 86400 ∧
    u.tariff.lastStandingDay < u.clock.count / 86400 ∧ u.bankValue bankStandingCharge 0 ≠ 0 ∧
    (timed ⟨86400, true, 7⟩ live).bankValue bankStandingCharge 0 = 0 ∧ live.clock.valid = false ∧
    (timed ⟨86399, true, 7⟩ live).clock.count / 86400 ≤ (timed ⟨86399, true, 7⟩ live).tariff.dayBefore ∧
    ¬ (({ u with tariff := { u.tariff with lastStandingDay := 1 } } : Part).tariff.lastStandingDay < u.clock.count / 86400) ∧
    ({ u with tariff := { u.tariff with friendly := true } } : Part).tariff.friendly ≠
      recordFriendly bank (currentRecord bank 86400) := by decide +kernel

theorem witness_ClockWrap : live.power = .running ∧ failing.power = .failing ∧ Part.newPart.power = .stopped := by
  decide +kernel

theorem witness_UnclampedSetTime :
    let u := (banked live).taking .s 0x0D
    (banked live).hunting .s ∧ ([0, 1, 0x51, 0x80] : List Byte).length = 4 ∧ (banked live).clock.valid = false ∧
    (banked live).tariff.midnight = none ∧ (banked live).tariff.pending.isScheduled = false ∧
    u.tariff.lastStandingDay < wholeNumber [0, 1, 0x51, 0x80] / 86400 ∧
    wholeNumber [0, 1, 0x51, 0x7F] / 86400 ≤ u.tariff.lastStandingDay ∧ u.activeBank = some bank ∧
    u.clock.count < wholeNumber [0, 1, 0x51, 0x80] ∧ u.tariff.dayBefore < wholeNumber [0, 1, 0x51, 0x80] / 86400 ∧
    ¬ ((timed ⟨86400, false, 0⟩ u).clock.count < wholeNumber [0, 1, 0x51, 0x80]) ∧
    wholeNumber [0, 0, 0, 0] = u.clock.count ∧
    (timed ⟨86400, false, 0⟩ u).clock.count = wholeNumber [0, 1, 0x51, 0x80] ∧
    wholeNumber [0, 1, 0x51, 0x80] < (timed ⟨90000, false, 0⟩ u).clock.count ∧ u.store.journal.length < 4 :=
  ⟨rfl, by decide +kernel⟩

/-- A part in service at this clock. -/
def serving (c : Clock) : Part := { timed c (banked live) with lifecycle := .inService }

theorem witness_ClampedSetTime :
    let u := serving ⟨86399, true, 899⟩
    u.hunting .s ∧ ([0, 1, 0x51, 0x80] : List Byte).length = 4 ∧ u.clock.valid = true ∧ u.lifecycle = .inService ∧
    -900 ≤ u.clock.adjustment ∧ u.clock.adjustment ≤ 900 ∧ u.clock.count ≤ 4294967295 ∧ u.tariff.midnight = none ∧
    u.tariff.pending.isScheduled = false ∧ (u.taking .s 0x0D).clock.count / 86400 < 86400 / 86400 ∧
    (serving ⟨4294967295, true, -900⟩).clock.count ≤ 4294967295 ∧
    -900 ≤ (serving ⟨4294967295, true, -900⟩).clock.adjustment ∧
    (u.taking .s 0x0D).tariff.dayBefore < 86400 / 86400 ∧ (u.taking .s 0x0D).tariff.lastStandingDay < 86400 / 86400 ∧
    ¬ (({ u with tariff := { u.tariff with lastStandingDay := 1 } } : Part).tariff.lastStandingDay < 86400 / 86400) ∧
    ¬ (({ u with tariff := { u.tariff with dayBefore := 1 } } : Part).tariff.dayBefore < 86400 / 86400) ∧
    wholeNumber [0, 1, 0x51, 0x80] = 86400 ∧ (u.taking .s 0x0D).store.journal.length < 4 ∧
    (u.taking .s 0x0D).activeBank = some bank := ⟨rfl, by decide +kernel⟩

theorem witness_ScheduledMidnightWaits :
    let u := timed ⟨86400, true, 0⟩ (withPending (.scheduled 5) bank live)
    u.power = .running ∧ u.tariff.midnight = none ∧ u.tariff.pending = .scheduled 5 ∧ u.canActivate = true ∧
    u.clock.valid = true ∧ u.tariff.dayBefore < u.clock.count / 86400 := by decide +kernel

/-- 24 digits. -/
def zeros : List Byte := List.replicate 24 0x30

theorem witness_SubmitCode :
    let locked : Part := { live with codes := { live.codes with kPort := ⟨[], some 5⟩ } }
    let full : Part := { live with codes := { live.codes with queue := List.replicate 3 ⟨.s, zeros⟩ } }
    live.hunting .k ∧ live.hunting .m ∧ (locked.taking .k 0x03).codes.kPort.lockedUntil.isSome = true ∧
    (live.taking .k 0x03).codes.kPort.lockedUntil.isSome = false ∧
    (zeros.length = 24 ∧ ∀ c ∈ zeros, 0x30 ≤ c.toNat ∧ c.toNat ≤ 0x39) ∧
    ¬ ((List.replicate 23 (0x39 : Byte)).length = 24) ∧
    3 ≤ ((full.taking .s 0x03).codes.queue.filter (fun e => e.port = .s)).length ∧
    ¬ (4 ≤ (full.taking .k 0x03).codes.queue.length) ∧
    ¬ (2 ≤ ((full.taking .k 0x03).codes.queue.filter (fun e => e.port = .k)).length) := ⟨rfl, rfl, by decide +kernel⟩

/-- The largest number a code body does not hold, as digits. -/
def overlong : List Byte := digitsOf (2 ^ 79)

theorem witness_RefusedCode :
    let u := coded .s { genuine 0 1 5 with check := 0 } live
    let malformed : Part := { u with codes := { u.codes with queue := [⟨.s, overlong⟩] } }
    u.power = .running ∧ malformed.power = .running ∧
    u.codes.queue = [⟨.s, digitsOf (bodyOf { genuine 0 1 5 with check := 0 })⟩] ∧
    u.codes.head = some (.screening slots 0) ∧
    malformed.codes.queue = [⟨.s, overlong⟩] ∧ 2 ^ 79 ≤ decimalOf overlong ∧ 2 ^ 79 - 1 < 2 ^ 79 ∧
    (∀ kind ∈ [0, 2, 4, 5, 6, 7, 8, 9, 10, 31],
      let c := genuine kind 1 0xFFFFFF
      decimalOf (digitsOf (bodyOf c)) < 2 ^ 79 ∧ bodyFields (decimalOf (digitsOf (bodyOf c))) = c ∧
        matchesUnder slots 0 0 c = true) ∧
    (coded .s (genuine 0 1 0) live).valueRefusal slots (genuine 0 1 0) = some .valueRange ∧
    (coded .s (genuine 0 1 1001) (banked live)).valueRefusal slots (genuine 0 1 1001) = some .ceiling ∧
    (coded .k (genuine 6 1 1) live).screenRefusal slots 0 .k (genuine 6 1 1) = some .kindNotOnPort ∧
    (coded .k (genuine 3 0 1) live).screenRefusal slots 0 .k (genuine 3 0 1) = some .tooOld ∧
    (coded .k (genuine 3 8193 1) live).screenRefusal slots 0 .k (genuine 3 8193 1) = some .tooFarAhead ∧
    (coded .k (genuine 3 8192 1) live).screenRefusal slots 0 .k (genuine 3 8192 1) = none := by decide +kernel

theorem witness_CheckFailuresLockThePort :
    let c : DecodedCode := { genuine 0 1 5 with check := 0 }
    let u := coded .k c live
    let tried : Part := { u with timeBase := 600 * 32768, codes := { u.codes with kPort := ⟨[0, 0, 0, 0, 5], none⟩ } }
    u.power = .running ∧ u.codes.queue = [⟨.k, digitsOf (bodyOf c)⟩] ∧ u.codes.head = some (.screening slots 0) ∧
    decodeDigits (digitsOf (bodyOf c)) = some c ∧ matchesUnder slots 0 u.codes.generation c = false ∧
    u.codes.generation = 0 ∧ tried.codes.kPort.failures.length ≤ 5 ∧
    (tried.codes.kPort.failures.drop 1 ++ [tried.timeBase / 32768]).length = 5 := by decide +kernel

/-- The premises of the statements about an accepted code. -/
def isAccepted (p : Port) (c : DecodedCode) (u : Part) : Bool :=
  decide (u.power = .running) && decide (u.codes.queue = [⟨p, digitsOf (bodyOf c)⟩]) && decide (u.codes.head = some (.screening slots 0)) &&
    decide (decodeDigits (digitsOf (bodyOf c)) = some c) && decide (u.screenRefusal slots 0 p c = none) &&
    decide (u.valueRefusal slots c = none)

theorem witness_AcceptedMoneyCode :
    isAccepted .k (genuine 0 1 1000) (coded .k (genuine 0 1 1000) (banked live)) = true ∧
    isAccepted .k (genuine 1 8192 0) (coded .k (genuine 1 8192 0) live) = true ∧
    isAccepted .s (genuine 3 1 16777215) (coded .s (genuine 3 1 16777215) live) = true ∧
    isAccepted .s (genuine 4 1 50) (coded .s (genuine 4 1 50) live) = true ∧
    (coded .s (genuine 4 1 50) live).store.journal.length < 4 := by decide +kernel

theorem witness_AcceptedOtherCode :
    let ready := withPending (.finished 5) bank live
    let latched := recorded .magnetic { TamperRecord.quiet with state := .latchedAbsent } live
    let present : TamperRecord := { TamperRecord.quiet with state := .present, condition := true }
    let attacked := recorded .codeAttack present (recorded .storeFault present
      (recorded .magnetic { present with state := .pending true } live))
    isAccepted .k (genuine 2 1 0) (coded .k (genuine 2 1 0) live) = true ∧
    isAccepted .k (genuine 2 1 150000) (coded .k (genuine 2 1 150000) live) = true ∧
    isAccepted .k (genuine 5 1 8191) (coded .k (genuine 5 1 8191) live) = true ∧
    isAccepted .k (genuine 5 1 8191) (coded .k (genuine 5 1 8191) latched) = true ∧
    isAccepted .k (genuine 5 1 1) (coded .k (genuine 5 1 1) attacked) = true ∧ Nat.testBit 1 (causeIndex .codeAttack).val = false ∧
    (attacked.tamperRecord .codeAttack).state = .present ∧ (attacked.tamperRecord .codeAttack).condition = true ∧
    (attacked.tamperRecord .magnetic).state = .pending true ∧ (attacked.tamperRecord .storeFault).state = .present ∧
    (latched.tamperRecord .magnetic).state = .latchedAbsent ∧ Nat.testBit 8191 (causeIndex .magnetic).val = true ∧
    isAccepted .s (genuine 6 1 1) (coded .s (genuine 6 1 1) live) = true ∧
    isAccepted .k (genuine 7 1 1) (coded .k (genuine 7 1 1) live) = true ∧
    isAccepted .s (genuine 8 1 5) (coded .s (genuine 8 1 5) ready) = true ∧
    isAccepted .s (genuine 9 1 5) (coded .s (genuine 9 1 5) ready) = true ∧
    (coded .s (genuine 9 1 5) ready).store.journal.length < 4 := by decide +kernel

theorem witness_MarkKeepsTheUsedCodeList :
    let full : Serials := { used := (List.range 40).map (· + 2), floor := 0, highest := 41 }
    full.Ordered ∧ Serials.empty.Ordered ∧ full.floor < 1 ∧ 1 ∉ full.used ∧ 42 ∉ full.used ∧ full.used.length = 40 ∧
    Serials.empty.used.length < 40 := by
  refine ⟨⟨by decide, ?_, by decide⟩, ⟨by decide, ?_, by decide⟩, by decide +kernel⟩ <;>
    simp [strictlyRising, List.range, List.range.loop, Serials.empty]

/-- The part with this decoded code applied, its commit pending on the K-port. -/
def committing (c : DecodedCode) (u : Part) : Part :=
  { u with codes := { u.codes with queue := [⟨.k, digitsOf (bodyOf c)⟩], head := some (.commit c none) } }

/-- The part whose STORE_FAULT condition is true. -/
def faulted (u : Part) : Part :=
  { u with tamper := { u.tamper with records := u.tamper.records.set 12 { TamperRecord.quiet with condition := true } } }

/-- The part with this failure run. -/
def run (n : Nat) (u : Part) : Part := { u with store := { u.store with failureRun := n } }

/-- An activation of this origin at this phase. -/
def activation (o : ActivationOrigin) (phase : ActivationPhase) : Activation :=
  { image := bank, fingerprint := 5, area := .areaA, origin := o, phase := phase }

/-- The part with an activation of this origin in its bank write. -/
def activating (o : ActivationOrigin) (u : Part) : Part :=
  { u with tariff := { u.tariff with activation := some (activation o .bankWrite) } }

/-- The part with an activation of this origin at its checkpoint, its area written. -/
def reaching (o : ActivationOrigin) (u : Part) : Part :=
  { u with
    tariff := { u.tariff with activation := some (activation o .checkpoint) },
    array := { u.array with areaA := .image bank } }

/-- The part whose TARIFF_NOW waits for its activation. -/
def replaced (c : DecodedCode) (u : Part) : Part :=
  { u with codes := { u.codes with queue := [⟨.s, digitsOf (bodyOf c)⟩], head := some (.activating c) } }

/-- The part with a midnight that waits. -/
def atMidnight (m : Midnight) (u : Part) : Part := { u with tariff := { u.tariff with midnight := some m } }

/-- A journal entry. -/
def entry : JournalEntry :=
  { sequence := 1, request := { stamp := .invalid, battery := false, balance := 0, detail := .tamperCleared [.magnetic] } }

theorem witness_CheckpointRequests :
    (writing (.checkpoint (checkpoint live false false)) live).store.inFlight.isSome = true ∧
    live.store.inFlight = none ∧ live.power ≠ .stopped ∧ live.store.nextSequence ≤ 2 ^ 32 - 1 ∧
    live.power = .running ∧
    ({ live with store := { live.store with hourlyAt := some 7 } } : Part).store.hourlyAt = some 7 ∧
    2 ^ 32 - 1 < ({ live with store := { live.store with nextSequence := 2 ^ 32 } } : Part).store.nextSequence ∧
    (committing (genuine 3 1 0) live).codes.head = some (.commit (genuine 3 1 0) none) ∧
    (reaching .code live).tariff.activation = some (activation .code .checkpoint) ∧
    (activation .code .checkpoint).phase = .checkpoint ∧
    (replaced (genuine 8 1 5) live).codes.head = some (.activating (genuine 8 1 5)) ∧
    8 ≤ (List.replicate 8 entry.request).length ∧ (List.replicate 7 entry.request).length < 8 ∧
    live.store.waiting = none ∧ live.store.class2 = [] ∧ live.store.journal = [] ∧
    ({ live with store := { live.store with waiting := some 1 } } : Part).store.waiting = some 1 ∧
    ({ live with store := { live.store with class2 := [.config .mid (.number 8)] } } : Part).store.class2 =
      .config .mid (.number 8) :: [] ∧
    ({ live with store := { live.store with journal := [entry.request] } } : Part).store.journal = entry.request :: [] ∧
    failing.power = .failing ∧ Part.newPart.power = .stopped ∧
    live.store.nextJournalSequence ≤ 2 ^ 32 - 1 ∧
    2 ^ 32 - 1 < ({ live with store := { live.store with nextJournalSequence := 2 ^ 32 } } :
      Part).store.nextJournalSequence := by decide +kernel

theorem witness_CheckpointAttemptEnd :
    let plain := checkpoint live false false
    let serving := checkpoint live false true
    let second := checkpoint live true true
    (writing (.checkpoint plain) live).store.inFlight = some (.checkpoint plain) ∧ plain.carriesActivation = false ∧
    plain.writesNothing = false ∧ plain.carriesCode = false ∧ live.condition .storeFault = false ∧
    serving.carriesCode = true ∧ (committing (genuine 3 1 0) live).codes.queue =
      ⟨.k, digitsOf (bodyOf (genuine 3 1 0))⟩ :: [] ∧
    (committing (genuine 3 1 0) live).codes.head = some (.commit (genuine 3 1 0) none) ∧
    plain.retry = false ∧ live.store.failureRun = 0 ∧ (faulted live).condition .storeFault = true ∧
    live.store.nextSequence ≤ 2 ^ 32 - 1 ∧ second.retry = true ∧ 1 ≤ (run 1 live).store.failureRun ∧
    (run 1 live).condition .storeFault = false ∧ (live.tamperRecord .storeFault).state = .quiet ∧
    live.store.journal.length < 4 := by decide +kernel

theorem witness_CheckpointAttemptEnd_of_an_activation :
    let carries (retry code : Bool) : CheckpointAttempt := { checkpoint live retry code with carriesActivation := true }
    let waiting (m : Midnight) := atMidnight m (reaching .midnight live)
    (carries true true).carriesActivation = true ∧ (carries true true).retry = true ∧ (carries true true).carriesCode = true ∧
    (carries false false).carriesCode = false ∧ (carries false false).writesNothing = false ∧
    (writing (.checkpoint (carries true false)) (reaching .code live)).store.inFlight =
      some (.checkpoint (carries true false)) ∧
    (reaching .code live).tariff.activation = some (activation .code .checkpoint) ∧
    (reaching .code live).array.areaA = .image bank ∧ (timed ⟨86400, true, 0⟩ live).clock.valid = true ∧
    live.clock.valid = false ∧ live.store.journal.length < 4 ∧
    (replaced (genuine 8 1 5) live).codes.head = some (.activating (genuine 8 1 5)) ∧
    (replaced (genuine 8 1 5) live).codes.queue = [⟨.s, digitsOf (bodyOf (genuine 8 1 5))⟩] ∧
    (committing (genuine 3 1 0) live).codes.head = some (.commit (genuine 3 1 0) none) ∧ live.codes.head = none ∧
    (activation .initial .checkpoint).origin ≠ .midnight ∧
    (waiting ⟨1, false⟩).tariff.midnight = some ⟨1, false⟩ ∧ (waiting ⟨0, true⟩).tariff.midnight = some ⟨0, true⟩ ∧
    (waiting ⟨1, false⟩).tariff.midnightsWaiting = [] ∧ live.tariff.lastStandingDay < 1 ∧ 0 ≤ live.tariff.lastStandingDay := by
  decide +kernel

theorem witness_OtherWriteAttemptEnds :
    (writing (.bank .areaA bank false) live).store.inFlight = some (.bank .areaA bank false) ∧
    (writing (.bank .areaB bank true) live).store.inFlight = some (.bank .areaB bank true) ∧
    (writing (.config .mid (.number 7) false) live).store.inFlight = some (.config .mid (.number 7) false) ∧
    (writing (.journal entry 0 false false) live).store.inFlight = some (.journal entry 0 false false) ∧
    (∃ a, (activating .code live).tariff.activation = some a ∧ a.origin ≠ .midnight) ∧
    live.power = .running ∧ live.store.failureRun = 0 ∧ (faulted live).condition .storeFault = true ∧
    Class2Write.config .mid (.number 8) ∈
      ({ live with store := { live.store with class2 := [.config .mid (.number 8)] } } : Part).store.class2 ∧
    ConfigItem.mid ∈ ({ live with store := { live.store with discarded := [.mid] } } : Part).store.discarded ∧
    entry.request.battery = false ∧
    ({ entry with request := { entry.request with battery := true } } : JournalEntry).request.battery = true ∧
    (writing (.config .mid (.number 7) true) live).store.inFlight = some (.config .mid (.number 7) true) ∧
    (writing (.config .mid (.number 7) false) failing).store.inFlight = some (.config .mid (.number 7) false) ∧
    failing.store.failureRun = 0 ∧
    (writing (.bank .areaA bank false) (run 1 failing)).store.inFlight = some (.bank .areaA bank false) ∧
    (writing (.bank .areaA bank true) failing).store.inFlight = some (.bank .areaA bank true) ∧
    1 ≤ (run 1 failing).store.failureRun ∧ failing.power = .failing ∧
    (writing (.journal entry 0 true false) live).store.inFlight = some (.journal entry 0 true false) ∧
    1 ≤ (run 1 live).store.failureRun ∧ (run 1 live).condition .storeFault = false ∧ live.store.journal.length < 4 ∧
    (activating .midnight live).tariff.activation = some (activation .midnight .bankWrite) ∧
    (atMidnight ⟨1, false⟩ (activating .midnight live)).tariff.midnight = some ⟨1, false⟩ ∧
    (atMidnight ⟨1, false⟩ live).tariff.midnightsWaiting = [] ∧ live.tariff.lastStandingDay < 1 ∧
    (replaced (genuine 8 1 5) live).codes.head = some (.activating (genuine 8 1 5)) ∧
    (∀ later, Class2Write.config .mid later ∉ live.store.class2) := by
  refine ⟨rfl, rfl, rfl, rfl, ⟨_, rfl, by decide⟩, rfl, rfl, by decide +kernel, by simp, by simp, rfl, rfl, rfl, rfl, rfl, rfl,
    rfl, by decide, rfl, rfl, by decide, by decide +kernel, by decide, rfl, rfl, rfl, by decide, rfl, ?_⟩
  intro later h
  cases h

/-- The part whose K-port holds the notices of these kinds. -/
def noticed (u : Part) : Part := ((u.placeOn .k (.creditLow .low 1)).placeOn .k (.creditExhausted .exhausted 0))

/-- What holds of every pending notice of a port, from a test of each place. -/
theorem pending_all {n : NoticePort} {P : Fin 15 → PendingNotice → Bool}
    (h : ∀ i : Fin 15, (match n.pending.get i with | some x => P i x | none => true) = true) :
    ∀ (i : Fin 15) (x : PendingNotice), n.pending.get i = some x → P i x = true := by
  intro i x e
  have := h i
  rwa [e] at this

theorem witness_NoticesArePlacedFetchedAndDone :
    live.hunting .k ∧
    (∀ (i : Fin 15) (x : PendingNotice), ((live.taking .k 0x0F).notices.get .k).pending.get i = some x →
      x.level ≤ ((live.taking .k 0x0F).notices.get .k).inService.highest) ∧
    ∃ x, (((noticed live).taking .k 0x0F).notices.get .k).pending.get (kindIndex .creditExhausted) = some x ∧
      kindIndex x.notice.kind = kindIndex .creditExhausted ∧
      (((noticed live).taking .k 0x0F).notices.get .k).inService.highest < x.level ∧
      (∀ (j : Fin 15) (y : PendingNotice), (((noticed live).taking .k 0x0F).notices.get .k).pending.get j = some y →
        y.level < x.level ∨ (y.level = x.level ∧ kindIndex .creditExhausted ≤ j)) := by
  refine ⟨rfl, ?_, ⟨.creditExhausted .exhausted 0, 3, 1⟩, by decide +kernel, by decide, by decide +kernel, ?_⟩
  · intro i x h
    exact of_decide_eq_true (pending_all (P := fun _ x => decide (x.level ≤ 0)) (by decide +kernel) i x h)
  · intro j y h
    exact of_decide_eq_true (pending_all
      (P := fun j y => decide (y.level < 3 ∨ (y.level = 3 ∧ kindIndex .creditExhausted ≤ j))) (by decide +kernel) j y h)

theorem witness_ConfigurationWrites :
    let full : Part := { live with store := { live.store with
      class2 := List.replicate 8 (.config .mid (.number 7)), inFlight := some (.config .mid (.number 7) false) } }
    live.hunting .s ∧ live.lifecycle = .provisioning ∧ ([8, 0, 0, 0, 5] : List Byte).length = 5 ∧
    configItem 12 = none ∧ configItem 8 = some .nm ∧ itemRange .nm 5 = true ∧ itemRange .nm 6 = false ∧
    8 ≤ ((full.taking .s 0x11).store.class2.filter Class2Write.isConfig).length ∧
    ¬ (8 ≤ ((live.taking .s 0x11).store.class2.filter Class2Write.isConfig).length) ∧
    (List.replicate 17 (4 : Byte)).length = 17 ∧ 3 < beNat ([4] : List Byte) ∧ (3 : Fin 4).val = beNat ([3] : List Byte) ∧
    (250 * 2 ^ 1 * 32768 + 999) / 1000 ≤ (linked 16384 live).timeBase - (linked 16384 live).links.m.lastFrame ∧
    ¬ ((250 * 2 ^ 1 * 32768 + 999) / 1000 ≤ (linked 16383 live).timeBase - (linked 16383 live).links.m.lastFrame) ∧
    4 * ((250 * 2 ^ 2 * 32768 + 999) / 1000) ≤ (linked 131072 live).timeBase - (linked 131072 live).links.k.lastFrame ∧
    (linked 0 live).links.m.state = .up ∧ live.links.k.state ≠ .lost :=
  ⟨rfl, by decide +kernel⟩

/-- A part that may enter service. -/
def equipped : Part :=
  { timed ⟨0, true, 0⟩ (banked live) with
    config := { live := { ConfigItems.newPart with mid := 1, keys := slots }, unstored := [] } }

theorem witness_ProvisioningEnds :
    live.hunting .s ∧ live.lifecycle = .provisioning ∧
    ¬ (∃ f, (live.taking .s 0x13).tariff.pending = .finished f ∨ (live.taking .s 0x13).tariff.pending = .scheduled f) ∧
    ((withPending (.finished 5) bank live).taking .s 0x13).canActivate = true ∧
    ((withPending (.finished 5) bank live).taking .s 0x13).tariff.pending = .finished 5 ∧
    equipped.hunting .s ∧ (equipped.taking .s 0x15).config.live.mid ≠ 0 ∧
    ((equipped.taking .s 0x15).config.live.keys.get 0).loaded = true ∧ (equipped.taking .s 0x15).activeBank ≠ none ∧
    (equipped.taking .s 0x15).clock.valid = true ∧ (equipped.taking .s 0x15).store.class2 = [] ∧
    (equipped.taking .s 0x15).store.inFlight = none ∧ (equipped.taking .s 0x15).config.unstored = [] := by
  refine ⟨rfl, rfl, ?_, by decide +kernel, rfl, rfl, by decide +kernel⟩
  rintro ⟨f, h | h⟩ <;> cases h

theorem witness_ReadingRequests :
    let measured : Part := { live with pulse :=
      { live.pulse with unmeasurable := false, lastInterval := some 5, counter := 6 } }
    (∀ p, live.hunting p) ∧ (live.taking .k 0x06).pulse.unmeasurable = true ∧
    (measured.taking .k 0x06).pulse.unmeasurable = false ∧ (measured.taking .k 0x06).pulse.lastInterval = some 5 ∧
    ((live.taking .s 0x08).registerGroup (1 : Byte).toNat).isSome = true ∧
    ((live.taking .s 0x08).registerGroup (8 : Byte).toNat).isSome = true ∧ (0 : Byte).toNat < 1 ∧ 8 < (9 : Byte).toNat ∧
    ([0, 0, 0, 1] : List Byte).length = 4 ∧ beNat ([0, 0, 0, 1] : List Byte) ≤ entry.sequence ∧
    (live.array.journal.set 3 (.valid entry)).get 3 = .valid entry := by
  refine ⟨fun p => by cases p <;> rfl, ?_⟩
  decide +kernel

/-- The part at this power with this load limit, over-limit time and trip history. -/
def loaded (estimate limit overLimit : Nat) (trips : List Nat) (u : Part) : Part :=
  { u with
    pulse := { u.pulse with unmeasurable := false, lastInterval := some 99999, estimate := estimate },
    load := { u.load with limit := limit, overLimit := overLimit, trips := trips } }

theorem witness_LoadLimiter :
    let below := loaded 100 100 3 [] (banked live)
    let above := loaded 101 100 3 [] (banked live)
    let tripping := loaded 101 100 4 [0, 0, 0] (banked live)
    live.power = .running ∧ live.readEstimate.activeBank = none ∧ below.readEstimate.pulse.estimate ≤ below.load.limit ∧
    above.readEstimate.activeBank = some bank ∧ above.readEstimate.load.lockoutUntil = none ∧
    above.readEstimate.load.extended = false ∧ above.readEstimate.load.limit ≠ 0 ∧
    ¬ (above.readEstimate.pulse.estimate ≤ above.readEstimate.load.limit) ∧
    above.readEstimate.load.overLimit + 1 < bankHoldTime bank ∧
    bankHoldTime bank ≤ tripping.readEstimate.load.overLimit + 1 ∧
    ¬ (tripping.readEstimate.pulse.estimate ≤ tripping.readEstimate.load.limit) ∧
    3 ≤ tripping.load.trips.length ∧ tripping.timeBase < 86400 * 32768 ∧
    (loaded 101 100 4 [] (banked live)).readEstimate.load.trips.length < 3 ∧
    live.overtaken = [] ∧
    Instr.tripAgeOut ∈ ({ live with overtaken := [.tripAgeOut] } : Part).overtaken ∧
    live.store.journal.length < 4 ∧
    failing.power = .failing ∧ failing.power ≠ .running := by decide +kernel

theorem witness_TamperRecordsMove :
    let waiting := recorded .terminalCover { TamperRecord.quiet with state := .pending false, condition := true, timer := some 5 }
    let releasing := recorded .terminalCover { TamperRecord.quiet with state := .present, timer := some 5 }
    live.condition .terminalCover = false ∧ live.condition .terminalCover ≠ true ∧ live.condition .magnetic ≠ true ∧
    live.power = .running ∧ failing.power = .failing ∧ Part.newPart.power = .stopped ∧
    TamperCause.hasDebounce .terminalCover = true ∧ TamperCause.hasRelease .terminalCover = true ∧
    ((waiting live).tamperRecord .terminalCover).state = .pending false ∧
    ((waiting live).tamperRecord .terminalCover).timer = some 5 ∧
    ((waiting failing).tamperRecord .terminalCover).condition = true ∧
    (waiting Part.newPart).tamper.buffer.length < 4 ∧
    failing.condition .magnetic ≠ true ∧
    4 ≤ ({ releasing failing with tamper := { (releasing failing).tamper with
      buffer := List.replicate 4 ⟨.main, true, .invalid, 1⟩ } } : Part).tamper.buffer.length ∧
    8 ≤ ({ releasing live with store := { live.store with journal := List.replicate 8 entry.request } } :
      Part).store.journal.length ∧
    4 ≤ ({ waiting Part.newPart with tamper := { (waiting Part.newPart).tamper with
      buffer := List.replicate 4 ⟨.main, true, .invalid, 1⟩ } } : Part).tamper.buffer.length ∧
    ((releasing live).tamperRecord .terminalCover).state = .present ∧
    ((releasing Part.newPart).tamperRecord .terminalCover).timer = some 5 ∧
    ((releasing live).tamperRecord .terminalCover).condition = false ∧ live.overtaken = [] ∧
    live.condition .metrologySilent ≠ true ∧ live.condition .codeAttack ≠ true ∧
    (live.tamperRecord .codeAttack).state = .quiet ∧
    ((recorded .codeAttack { TamperRecord.quiet with state := .present, condition := true } live).tamperRecord
      .codeAttack).state = .present ∧
    ((recorded .codeAttack { TamperRecord.quiet with state := .pending true } live).tamperRecord .codeAttack).state =
      .pending true ∧
    (recorded .neutralMissing { TamperRecord.quiet with state := .pending false, condition := true } live).condition
      .neutralMissing ≠ false ∧
    live.store.journal.length < 4 := by decide +kernel

/-- The part with these causes set. -/
def caused (c : CauseSet) (u : Part) : Part := { u with supply := { u.supply with causes := c } }

theorem witness_SupplyDecision :
    let order : CauseSet := { CauseSet.none with remoteOrder := true }
    let confirming : Part := { relayed (.settled .opened) live with supply :=
      { (relayed (.settled .opened) live).supply with record := { causes := order, test := false } } }
    live.activeBank = none ∧ (banked live).activeBank = some bank ∧ live.power = .running ∧
    (caused order failing).power = .failing ∧ (caused order failing).supply.relay = .settled .closed ∧
    (caused order failing).counting.any = true ∧ (relayed (.settled .opened) failing).counting.any = false ∧
    Part.newPart.power ≠ .running ∧ Part.newPart.power ≠ .failing ∧
    (relayed (.operating (opening .delay 1)) live).supply.relay = .operating (opening .delay 1) ∧
    live.supply.relay = .settled .closed ∧ (caused order live).counting.any = true ∧ live.counting.any = false ∧
    (relayed (.settled .opened) live).supply.relay = .settled .opened ∧
    confirming.supply.record.causes.remoteOrder = true ∧ live.supply.record = OpeningRecord.empty ∧
    (relayed (.settled .awaitingConfirm) live).supply.relay = .settled .awaitingConfirm ∧
    (relayed (.settled .stuckClosed) live).supply.relay = .settled .stuckClosed ∧
    (relayed (.settled .stuckOpen) live).supply.relay = .settled .stuckOpen := by decide +kernel

/-- The part with these timers of the supply switch. -/
def timers (retryAt jumpSince : Option Nat) (u : Part) : Part :=
  { u with supply := { u.supply with retryAt := retryAt, jumpSince := jumpSince } }

theorem witness_OperationsStart :
    let waiting := relayed (.settled .awaitingConfirm) live
    let stuck := relayed (.settled .stuckOpen) live
    let retrying := timers (some 5) none (relayed (.settled .stuckClosed) live)
    live.power = .running ∧ live.hunting .k ∧ live.hunting .s ∧ live.lifecycle = .provisioning ∧
    (waiting.taking .k 0x05).supply.relay = .settled .awaitingConfirm ∧
    (stuck.taking .k 0x05).supply.relay = .settled .stuckOpen ∧ (stuck.taking .k 0x05).supply.openRequired = false ∧
    (live.taking .k 0x05).supply.relay = .settled .closed ∧ 1 < (2 : Byte).toNat ∧ (1 : Byte).toNat ≤ 1 ∧
    ((relayed (.operating (opening .delay 1)) live).taking .s 0x14).supply.relay = .operating (opening .delay 1) ∧
    (timers none (some 0) live).supply.jumpSince.isSome = true ∧ live.supply.relay = .settled .closed ∧
    live.overtaken = [] ∧ retrying.supply.relay = .settled .stuckClosed ∧ retrying.supply.retryAt = some 5 ∧
    retrying.supply.openRequired = false ∧
    ({ retrying with supply := { retrying.supply with openRequired := true } } : Part).supply.openRequired = true :=
  ⟨rfl, rfl, rfl, by decide +kernel⟩

theorem witness_OperationStages :
    let shaking := relayed (.operating (opening .handshake 1)) live
    let both : Operation := { opening .handshake 1 with answered := ⟨false, false⟩ }
    let at_ (st : Stage) := relayed (.operating (opening st 1))
    (∀ l : Link, live.hunting (linkPort l)) ∧
    (shaking.taking .k 0x02).supply.relay = .operating (opening .handshake 1) ∧
    (opening .handshake 1).awaited.get .k = true ∧ (opening .handshake 1).answered.m = true ∧
    ((relayed (.operating both) live).taking .k 0x02).supply.relay = .operating both ∧ both.answered.m = false ∧
    (live.taking .m 0x02).supply.relay = .settled .closed ∧
    shaking.supply.relay = .operating (opening .handshake 1) ∧ shaking.power = .running ∧
    (at_ .zxWait live).supply.relay = .operating (opening .zxWait 1) ∧ 0 < (opening .zxWait 1).relayDelay ∧
    ({ opening .zxWait 1 with relayDelay := 0 } : Operation).relayDelay = 0 ∧
    (at_ .delay live).supply.relay = .operating (opening .delay 1) ∧
    (at_ .pulse failing).supply.relay = .operating (opening .pulse 1) ∧ (at_ .pulse failing).power = .failing ∧
    live.overtaken = [] := by
  refine ⟨fun l => by cases l <;> rfl, ?_⟩
  decide +kernel

theorem witness_VerifySettlesOrRetries :
    let settling (n : Nat) := relayed (.operating (opening .settle n))
    let quiet (u : Part) : Part := { u with inputs := { u.inputs with sense := ⟨false, false, false⟩ } }
    (settling 1 live).supply.relay = .operating (opening .settle 1) ∧ (opening .settle 1).stage = .settle ∧
    (settling 1 live).power = .running ∧ (settling 1 failing).power = .failing ∧
    (quiet (settling 1 live)).inputs.sense = ⟨false, false, false⟩ ∧
    (settling 1 live).inputs.sense ≠ ⟨false, false, false⟩ ∧ (opening .settle 2).attempt < 3 ∧
    3 ≤ (opening .settle 3).attempt ∧
    ({ opening .settle 1 with direction := .closing } : Operation).direction = .closing ∧
    (settling 1 live).supply.reportedPhases = none ∧ (settling 1 live).inputs.sense = ⟨true, true, true⟩ ∧
    live.supply.blankingUntil = none ∧ (windowed ⟨100000, 90000, 10001, 16, 0⟩ live).recon.window ≠ none ∧
    ({ live with supply := { live.supply with blankingUntil := some 5 } } : Part).supply.blankingUntil ≠ none ∧
    live.overtaken = [] ∧ live.store.journal.length < 4 := by
  decide +kernel

/-- The part with this contact sense and this reported phase set. -/
def sensing (sense reported : PhaseSet) (u : Part) : Part :=
  { u with inputs := { u.inputs with sense := sense }, supply := { u.supply with reportedPhases := some reported } }

theorem witness_BlankingAndContactWatch :
    let blanked : Part := { live with supply := { live.supply with blankingUntil := some 5 } }
    let open_ := relayed (.settled .opened) live
    let bypassed := recorded .bypass { TamperRecord.quiet with state := .present, condition := true } open_
    blanked.power = .running ∧ blanked.supply.blankingUntil ≠ none ∧ blanked.recon.mode = .reported ∧
    ({ blanked with recon := { blanked.recon with mode := .pulseOnly } } : Part).recon.mode = .pulseOnly ∧
    open_.watchContacts.supply.bypassSince ≠ none ∧ open_.condition .bypass = false ∧
    (open_.tamperRecord .bypass).state = .quiet ∧
    (recorded .bypass { TamperRecord.quiet with state := .latchedAbsent } live).condition .bypass = false ∧
    ({ bypassed with supply := { bypassed.supply with bypassGoneSince := some 0 } } : Part).supply.bypassGoneSince ≠ none ∧
    (bypassed.tamperRecord .bypass).state = .present ∧ (bypassed.tamperRecord .bypass).condition = true ∧
    open_.supply.blankingUntil = none ∧ open_.inputs.sense ≠ ⟨false, false, false⟩ ∧
    Part.newPart.inputs.sense = ⟨false, false, false⟩ ∧ live.overtaken = [] ∧
    failing.power ≠ .running ∧ live.supply.blankingUntil = none ∧ live.supply.relay = .settled .closed ∧
    (sensing ⟨false, true, true⟩ ⟨true, false, false⟩ live).expectedPhases = ⟨true, false, false⟩ ∧
    (sensing ⟨false, true, true⟩ ⟨true, false, false⟩ live).inputs.sense.l1 = false ∧
    (sensing ⟨true, false, false⟩ ⟨true, false, false⟩ live).inputs.sense.l1 = true := by decide +kernel

theorem witness_PowerFailStopAndRetentionReset :
    let pending := recorded .magnetic { TamperRecord.quiet with state := .pending true, condition := true, timer := some 5 }
    live.power = .running ∧ failing.power ≠ .running ∧ failing.power ≠ .stopped ∧ Part.newPart.power = .stopped ∧
    ((pending live).tamperRecord .magnetic).state = .pending true ∧
    (relayed (.operating (opening .pulse 1)) live).supply.relay = .operating (opening .pulse 1) ∧
    (windowed ⟨100000, 90000, 10001, 16, 0⟩ live).recon.window = some ⟨100000, 90000, 10001, 16, 0⟩ ∧
    Class2Write.config .mid (.number 8) ∈
      ({ live with store := { live.store with class2 := [.config .mid (.number 8)] } } : Part).store.class2 := by
  decide +kernel

/-- The part with this slot of the checkpoint log. -/
def logged (slot : Slot CheckpointRecord) (u : Part) : Part :=
  { u with array := { u.array with log := u.array.log.set 0 slot } }

theorem witness_MainStart :
    let kept : Part := { timed ⟨86400, true, 5⟩ Part.newPart with lostMark := false }
    let record := live.snapshot 1 0
    let scheduled : CheckpointRecord := { record with scheduleMarker := some 5 }
    let alarmed : TamperRecord := { TamperRecord.quiet with state := .present, condition := true, raisedOnBattery := true }
    let covered (p : Part) := recorded .terminalCover alarmed (recorded .mainCover alarmed p)
    let raised : Part := covered
      { banked kept with array := { kept.array with areaA := .image (storeBytes bank 57 [1, 1]) } }
    Part.newPart.power = .stopped ∧ Part.newPart.lostMark = true ∧
    Part.newPart.array.log = Vector.replicate 64 .blank ∧
    kept.lostMark = false ∧ kept.clock.valid = true ∧ kept.tariff.lastStandingDay < kept.clock.count / 86400 ∧
    (logged (.valid record) Part.newPart).array.newestCheckpoint = some (0, record) ∧
    (logged .invalid Part.newPart).array.newestCheckpoint = none ∧
    Slot.invalid ∈ (logged .invalid Part.newPart).array.log.toList ∧ (Slot.invalid : Slot CheckpointRecord) ≠ .blank ∧
    ({ kept with tariff := { kept.tariff with lastStandingDay := 1 } } : Part).tariff.lastStandingDay = 1 ∧
    ({ kept with tariff := { kept.tariff with scheduleMarker := some 5 } } : Part).tariff.scheduleMarker = some 5 ∧
    (scheduled.scheduleMarker = some 5 ∧
      (logged (.valid scheduled) Part.newPart).array.newestCheckpoint.map Prod.snd = some scheduled) ∧
    ({ kept with array := { kept.array with journal := kept.array.journal.set 3 (.valid entry) } } :
      Part).array.newestEntry = some (3, entry) ∧
    ({ kept with tamper := { kept.tamper with buffer := List.replicate 4 ⟨.main, true, .invalid, 1⟩ } } :
      Part).tamper.buffer = ⟨.main, true, .invalid, 1⟩ :: List.replicate 3 ⟨.main, true, .invalid, 1⟩ ∧
    (List.replicate 3 (⟨.main, true, .invalid, 1⟩ : BatteryEvent)).length ≤ 3 ∧
    (raised.tamperRecord .mainCover).raisedOnBattery = true ∧ raised.policy .mainCover ≠ .record ∧
    (raised.tamperRecord .terminalCover).raisedOnBattery = true ∧
    (∀ d, (kept.tamperRecord d).raisedOnBattery = false) ∧
    ({ kept.inputs with terminalCoverOpen := true, magneticField := true } : Inputs).magneticField = true ∧
    (∀ st ∈ [Settled.awaitingConfirm, .stuckClosed, .stuckOpen, .closed, .opened],
      ({ kept with supply := { kept.supply with logical := .settled st } } : Part).supply.logical = .settled st) := by
  refine ⟨?_, ?_, ?_, ?_, ?_, ?_, ?_, ?_, ?_, ?_, ?_, ?_, ?_, ?_, ?_, ?_, ?_, ?_, ?_, fun d => ?_, ?_, ?_⟩
  case refine_20 => cases d <;> decide +kernel
  all_goals decide +kernel

theorem live_coils_follow_the_pulse : live.CoilsFollowPulse :=
  ⟨fun h => by simp [live, Part.newPart] at h, fun h => by simp [live, Part.newPart] at h⟩

theorem witness_CoilsFollowPulseKept :
    (holding live).part.CoilsFollowPulse ∧ ∃ t, step ((holding live).withFront .zxEdge) = .next t :=
  ⟨live_coils_follow_the_pulse, _, rfl⟩

theorem witness_AttentionLinesKept :
    (holding live).part.Attending ∧ ∃ t, step ((holding live).withFront .powerFailWarning) = .next t := by
  refine ⟨⟨fun p => by cases p <;> decide +kernel, by decide +kernel, fun h => ?_⟩, _, rfl⟩
  simp [holding, live] at h

theorem witness_ContactWatchKept :
    (holding live).part.Watched ∧ ∃ t, step ((holding live).withFront .coilPulseEnd) = .next t :=
  ⟨live_is_watched, _, rfl⟩

end Sys2Proof.Tests
end

section
/-! The pulse at a falling edge (R29 to R32, R34): the interval of its capture, its plausibility, the judgement that
discards it, and the settlement of O20. -/

namespace Sys2Proof.Machine

/-- The interval of a capture that is measurable (R31). -/
theorem RisingCapture.interval_of_measurable {c : RisingCapture} (h : c.unmeasurable = false) :
    c.interval = some (if c.overflow then 2 ^ 24 + c.count else c.count) := by
  cases ho : c.overflow <;> simp [RisingCapture.interval, h, ho]

/-- Above 1.25 × Pmax the power of a positive interval makes its pulse implausible (R32). -/
theorem Part.plausible_some_eq_false_of_lt {u : Part} {t : Nat} (ht : 0 < t)
    (hp : 5 * u.config.live.pmax < 4 * (u.config.live.pulseWeight * 589824 / (5 * t))) :
    u.plausible (some t) = false := by
  have hpower : powerOf u.config.live.pulseWeight t = u.config.live.pulseWeight * 589824 / (5 * t) :=
    if_neg (Nat.ne_of_gt ht)
  simpa [Part.plausible, hpower] using hp

/-- A pulse that fails one of the two checks is malformed (R29). -/
theorem Part.judgePulse_eq_malformedPulse {u : Part} {c : RisingCapture}
    (h : u.timeBase - c.edgeAt < 328 ∨ 8192 < u.timeBase - c.edgeAt ∨ u.plausible c.interval = false) :
    u.judgePulse c = u.malformedPulse := by
  refine if_neg fun hvalid => ?_
  simp only [Bool.and_eq_true, decide_eq_true_eq] at hvalid
  obtain ⟨⟨hmin, hmax⟩, hplausible⟩ := hvalid
  rcases h with hshort | hlong | himplausible
  · exact Nat.not_lt.mpr hmin hshort
  · exact Nat.not_lt.mpr hmax hlong
  · simp [hplausible] at himplausible

/-- A falling edge judges the pulse of the capture while the main domain runs (R29). -/
theorem Part.epFalls_of_capture {u : Part} {c : RisingCapture} (hrun : u.power = .running)
    (hc : u.pulse.capture = some c) : u.epFalls = (u.setEp false).judgePulse c := by
  have hrun' : (u.setEp false).running = true := (Part.running_iff _).mpr hrun
  have hc' : (u.setEp false).pulse.capture = some c := hc
  simp only [Part.epFalls, hc', hrun', if_true]

theorem exec_epFallingEdge (s : State) : exec .epFallingEdge s = .next (s.becomes s.part.epFalls) := rfl

/-- Settles O20: each of the three causes fails a check of R29, so the judgement at the edge is R34's. -/
theorem malformedPulse : Obligations.MalformedPulse := by
  intro s c hrun hc u width t hmalformed
  have hjudged : (u.setEp false).judgePulse c = (u.setEp false).malformedPulse := by
    refine Part.judgePulse_eq_malformedPulse (hmalformed.imp_right (Or.imp_right ?_))
    rintro ⟨hmeasurable, ht, hpower⟩
    rw [RisingCapture.interval_of_measurable hmeasurable]
    exact Part.plausible_some_eq_false_of_lt ht hpower
  rw [exec_epFallingEdge, Part.epFalls_of_capture hrun hc, hjudged]
  rfl

end Sys2Proof.Machine
end

section
/-! The requests on the pending bank (R55, R56, R59): the payloads of the S-port's tariff requests, what each request
answers by the pending state, the fingerprint step by step (R58), and the settlement of O28 and O29. -/

namespace Sys2Proof.Machine

/-! ### Payloads and their tests -/

/-- The tests of R55 on an offset and a number of bytes. -/
theorem bankRangeOk_iff (off n : Nat) :
    bankRangeOk off n = true ↔ off ≤ 304 ∧ 1 ≤ n ∧ n ≤ 64 ∧ off + n ≤ 305 := by
  simp [bankRangeOk, and_assoc]

/-- A field that reaches the end of its bytes is all that is left of them. -/
theorem field_of_length_le {b : List Byte} {off n : Nat} (h : b.length ≤ off + n) :
    field b off n = beNat (b.drop off) := by
  have hleft : (b.drop off).length ≤ n := by simp only [List.length_drop]; omega
  rw [field, slice, List.take_of_length_le hleft]

/-! ### A permitted request of another length -/

/-- A permitted request of another length is OUT_OF_RANGE without effect (R171, R190). -/
theorem Part.perform_unadmitted {u : Part} {k : ReqKind} {p : Port} {b : List Byte}
    (h : k.permitted p u.lifecycle = true) (hb : k.admits b.length = false) :
    u.perform k.byte p b = (u, justStatus Status.outOfRange) := by
  simp [Part.perform, h, hb]

/-! ### The fingerprint that a pending state holds (R54) -/

theorem PendingState.fingerprint_eq_some_iff (st : PendingState) (f : Nat) :
    st.fingerprint = some f ↔ st = .finished f ∨ st = .scheduled f := by
  cases st <;> simp [PendingState.fingerprint]

/-! ### TARIFF_WRITE (R55) -/

/-- Bytes stored into the pending image clear a schedule marker, and reopen a bank that holds a fingerprint. -/
theorem Part.writePending_eq (off : Nat) (bytes : List Byte) (u : Part) :
    u.writePending off bytes =
      let v := Part.clearMarker
        { u with tariff := { u.tariff with
            pendingImage := storeBytes u.tariff.pendingImage off bytes, pending := .loading } }
      if u.tariff.pending.fingerprint.isSome then v.place (.bankReopened .written) else v := by
  unfold Part.writePending
  cases u.tariff.pending with
  | empty => rfl
  | loading => rfl
  | finished f => rfl
  | scheduled f => rfl

/-- A TARIFF_WRITE within the bank stores its bytes. Its payload is one that the request admits. -/
theorem Part.perform_tariffWrite_stored {u : Part} {b : List Byte}
    (h : bankRangeOk (writeOffset b) (writeData b).length = true) :
    u.perform 0x09 .s b = (u.writePending (writeOffset b) (writeData b), justStatus Status.ok) := by
  have hadmits : ReqKind.tariffWrite.admits b.length = true := by
    rw [bankRangeOk_iff, writeData, List.length_drop] at h
    simp only [ReqKind.admits, within, Bool.and_eq_true, decide_eq_true_eq]
    omega
  calc u.perform 0x09 .s b
      = u.tariffWrite b := Part.perform_permitted (k := .tariffWrite) rfl hadmits
    _ = (u.writePending (writeOffset b) (writeData b), justStatus Status.ok) := if_pos h

/-- A TARIFF_WRITE that fails a test of R55 changes nothing, whether the length or the range refuses it. -/
theorem Part.perform_tariffWrite_refused {u : Part} {b : List Byte}
    (h : bankRangeOk (writeOffset b) (writeData b).length ≠ true) :
    u.perform 0x09 .s b = (u, justStatus Status.outOfRange) := by
  cases hadmits : ReqKind.tariffWrite.admits b.length with
  | false => exact Part.perform_unadmitted (k := .tariffWrite) rfl hadmits
  | true =>
    calc u.perform 0x09 .s b
        = u.tariffWrite b := Part.perform_permitted (k := .tariffWrite) rfl hadmits
      _ = (u, justStatus Status.outOfRange) := if_neg h

/-- Settles O28: the tests of R55 decide between the two answers, and what is stored is `writePending`. -/
theorem tariffWrite : Obligations.TariffWrite := by
  intro s b hunting hlen u off data
  have hexec : exec (.tariffWrite .s b) s =
      .next (s.replied .s 0x09 (u.perform 0x09 .s b).2 (u.perform 0x09 .s b).1) :=
    exec_command_hunt (k := .tariffWrite) hunting hlen
  have htests := bankRangeOk_iff off data.length
  rw [hexec]
  refine ⟨fun hout => ?_, fun hoff hmin hmax hend => ?_⟩
  · rw [Part.perform_tariffWrite_refused fun hin => by have := htests.mp hin; omega]
    rfl
  · rw [Part.perform_tariffWrite_stored (htests.mpr ⟨hoff, hmin, hmax, hend⟩), Part.writePending_eq]
    rfl

/-! ### TARIFF_FINISH (R56) -/

theorem Part.tariffFinish_of_empty {u : Part} (h : u.tariff.pending = .empty) :
    u.tariffFinish = (u, justStatus Status.bankState) := by
  simp [Part.tariffFinish, h]

/-- An image that passes becomes FINISHED with its fingerprint. -/
theorem Part.tariffFinish_of_loading_pass {u : Part} (h : u.tariff.pending = .loading)
    (hpass : bankFault u.tariff.pendingImage = none) :
    u.tariffFinish =
      ({ u with tariff := { u.tariff with pending := .finished (fingerprintOf u.tariff.pendingImage) } },
        okWith (toBytes 3 (fingerprintOf u.tariff.pendingImage))) := by
  simp [Part.tariffFinish, h, hpass]

theorem Part.tariffFinish_of_loading_fault {u : Part} {off : Nat} (h : u.tariff.pending = .loading)
    (hfault : bankFault u.tariff.pendingImage = some off) :
    u.tariffFinish = (u, { status := Status.bankInvalid, fields := toBytes 2 off }) := by
  simp [Part.tariffFinish, h, hfault]

theorem Part.tariffFinish_of_fingerprint {u : Part} {f : Nat} (h : u.tariff.pending.fingerprint = some f) :
    u.tariffFinish = (u, okWith (toBytes 3 f)) := by
  rcases (PendingState.fingerprint_eq_some_iff _ f).mp h with hfin | hsched
  · simp [Part.tariffFinish, hfin]
  · simp [Part.tariffFinish, hsched]

/-- A TARIFF_FINISH that the S-port hears in HUNT. -/
theorem exec_tariffFinish {s : State} (hunting : s.part.hunting .s) :
    exec (.tariffFinish .s []) s =
      .next (s.replied .s 0x0A (s.part.taking .s 0x0A).tariffFinish.2 (s.part.taking .s 0x0A).tariffFinish.1) :=
  exec_permitted (k := .tariffFinish) (b := []) hunting (Nat.zero_le _) rfl rfl

/-! ### TARIFF_DISCARD and TARIFF_READ (R59) -/

/-- A TARIFF_DISCARD that the S-port hears in HUNT. -/
theorem exec_tariffDiscard {s : State} (hunting : s.part.hunting .s) :
    exec (.tariffDiscard .s []) s =
      .next (s.replied .s 0x0B (justStatus Status.ok) (s.part.taking .s 0x0B).emptyPending) :=
  exec_permitted (k := .tariffDiscard) (b := []) hunting (Nat.zero_le _) rfl rfl

/-- A TARIFF_READ by its tests and its bank, which may be missing. The part stays as it is. -/
theorem Part.tariffRead_eq (b : List Byte) (u : Part) :
    u.tariffRead b =
      (u, if bankRangeOk (readOffset b) (readLength b) = true ∧ readBank b ≤ 1 then
          if readBank b = 1 then okWith (slice u.tariff.pendingImage (readOffset b) (readLength b))
          else
            match u.activeBank with
            | some i => okWith (slice i (readOffset b) (readLength b))
            | none => justStatus Status.bankState
        else justStatus Status.outOfRange) := by
  unfold Part.tariffRead
  by_cases hrange : bankRangeOk (readOffset b) (readLength b) = true
  · match readBank b with
    | 0 => cases u.activeBank <;> simp [hrange]
    | 1 => simp [hrange]
    | _ + 2 => simp [hrange]
  · simp [hrange]

/-- A TARIFF_READ of four bytes that the S-port hears in HUNT. -/
theorem exec_tariffRead {s : State} {b : List Byte} (hunting : s.part.hunting .s) (hlen : b.length = 4) :
    exec (.tariffRead .s b) s =
      .next (s.replied .s 0x0C ((s.part.taking .s 0x0C).tariffRead b).2 ((s.part.taking .s 0x0C).tariffRead b).1) :=
  exec_permitted (k := .tariffRead) hunting (by omega) rfl (decide_eq_true hlen)

/-! ### The fingerprint step by step (R58) -/

/-- The shifts of a CRC register are one shift iterated. -/
theorem crcShift_eq_iterate {w : Nat} (poly : BitVec w) (n : Nat) (r : BitVec w) :
    crcShift poly n r = Nat.iterate (fun x => if x.msb then (x <<< 1) ^^^ poly else x <<< 1) n r := by
  induction n generalizing r with
  | zero => rfl
  | succ n ih => exact ih _

/-- One more byte of a CRC. -/
theorem crc_append_singleton {w : Nat} (poly init : BitVec w) (bytes : List Byte) (b : Byte) :
    crc poly init (bytes ++ [b]) = crcByte poly (crc poly init bytes) b := by
  simp [crc]

/-- Settles O29: each request by its cases, and the fingerprint's fold read byte by byte. -/
theorem pendingBankRequests : Obligations.PendingBankRequests := by
  refine ⟨fun s hunting => ?finish, fun s hunting => ⟨exec_tariffDiscard hunting, ?read⟩, rfl, ?fingerprint⟩
  case finish =>
    intro u image
    rw [exec_tariffFinish hunting]
    refine ⟨fun hempty => ?_, fun hloading hpass => ?_, fun off hloading hfault => ?_, fun f hheld => ?_⟩
    · rw [Part.tariffFinish_of_empty hempty]; rfl
    · rw [Part.tariffFinish_of_loading_pass hloading hpass]; rfl
    · rw [Part.tariffFinish_of_loading_fault hloading hfault]; rfl
    · rw [Part.tariffFinish_of_fingerprint ((PendingState.fingerprint_eq_some_iff _ f).mpr hheld)]; rfl
  case read =>
    intro b hlen u bank off n reply
    have hn : readLength b = n := field_of_length_le hlen.le
    rw [exec_tariffRead hunting hlen, Part.tariffRead_eq, hn]
    simp only [bankRangeOk_iff, and_assoc]
    rfl
  case fingerprint =>
    intro bytes b
    rw [crc24, crc_append_singleton, crcByte, crcShift_eq_iterate]
    rfl

end Sys2Proof.Machine
end

section
/-! SUBMIT_CODE (R76, R77): the tests of a submission in their order, the entry that joins the queue, the refusal on the
M-port, and the settlement of O35. -/

namespace Sys2Proof.Machine

/-! ### The payload and the quota -/

/-- The test of R76 on a payload. -/
theorem isCode_iff (b : List Byte) :
    isCode b = true ↔ b.length = 24 ∧ ∀ c ∈ b, 0x30 ≤ c.toNat ∧ c.toNat ≤ 0x39 := by
  simp [isCode, isDigit]

/-- The queue is full for a port: four entries in all, or the port's quota of them (R76, R77). -/
def Codes.fullFor (c : Codes) (p : Port) : Prop := 4 ≤ c.queue.length ∨ codeQuota p ≤ c.occupancy p

/-! ### The outcomes of a submission, in the order of R76's tests -/

section
variable {u : Part} {p : Port} {b : List Byte}

theorem Part.submitCode_lockedOut (hlocked : (u.codes.portCodes p).lockedUntil.isSome = true) :
    u.submitCode p b = (u, justStatus Status.lockedOut) := if_pos hlocked

theorem Part.submitCode_malformed (hfree : (u.codes.portCodes p).lockedUntil.isSome = false)
    (hcode : isCode b = false) : u.submitCode p b = (u, justStatus Status.malformed) := by
  simp [Part.submitCode, hfree, hcode]

theorem Part.submitCode_queueFull (hfree : (u.codes.portCodes p).lockedUntil.isSome = false)
    (hcode : isCode b = true) (hfull : u.codes.fullFor p) :
    u.submitCode p b = (u, justStatus Status.queueFull) := by
  rw [Codes.fullFor] at hfull
  simp [Part.submitCode, hfree, hcode, hfull]

/-- The position of an entry that joins is the length of the queue that it makes. -/
theorem Part.submitCode_queued (hfree : (u.codes.portCodes p).lockedUntil.isSome = false)
    (hcode : isCode b = true) (hroom : ¬ u.codes.fullFor p) :
    u.submitCode p b =
      (u.joinQueue ⟨p, b⟩, { status := Status.queued, fields := oneByte (u.codes.queue.length + 1) }) := by
  have hlen : (u.joinQueue ⟨p, b⟩).codes.queue.length = u.codes.queue.length + 1 := List.length_append
  rw [Codes.fullFor] at hroom
  simp [Part.submitCode, hfree, hcode, hroom, hlen]

end

/-- An entry that joins an empty queue becomes the head, with the slots and MID as they stand (R77, R78); behind others it
leaves the head alone. -/
theorem Part.joinQueue_eq (e : CodeEntry) (u : Part) :
    u.joinQueue e =
      { u with codes := { u.codes with
          queue := u.codes.queue ++ [e]
          head := if u.codes.queue = [] then some (.screening u.codes.slots u.config.live.mid)
            else u.codes.head } } := by
  unfold Part.joinQueue
  cases u.codes.queue <;> rfl

/-! ### The request on each port -/

/-- A request that its port or the lifecycle does not permit changes nothing (R171). -/
theorem Part.perform_notPermitted {u : Part} {k : ReqKind} {p : Port} {b : List Byte}
    (h : k.permitted p u.lifecycle = false) : u.perform k.byte p b = (u, justStatus Status.notPermitted) := by
  simp [Part.perform, h]

/-- A SUBMIT_CODE that the M-port hears in HUNT. -/
theorem exec_submitCode_m {s : State} {b : List Byte} (hunting : s.part.hunting .m) (hlen : b.length ≤ 200) :
    exec (.submitCode .m b) s = .next (s.replied .m 0x03 (justStatus Status.notPermitted) (s.part.taking .m 0x03)) := by
  have hexec := exec_command_hunt (k := .submitCode) hunting hlen
  rwa [Part.perform_notPermitted (k := .submitCode) rfl] at hexec

/-- A SUBMIT_CODE that the K-port or the S-port hears in HUNT, in either lifecycle and with a payload of any length. -/
theorem exec_submitCode {s : State} {p : Port} {b : List Byte} (hp : p = .k ∨ p = .s) (hunting : s.part.hunting p)
    (hlen : b.length ≤ 200) :
    exec (.submitCode p b) s =
      .next (s.replied p 0x03 ((s.part.taking p 0x03).submitCode p b).2 ((s.part.taking p 0x03).submitCode p b).1) := by
  have hpermitted : ReqKind.submitCode.permitted p s.part.lifecycle = true := by rcases hp with rfl | rfl <;> rfl
  exact exec_permitted (k := .submitCode) hunting hlen hpermitted rfl

/-- Settles O35: the tests of R76 select the outcome of the submission, on the part that the frame finds. -/
theorem submitCode : Obligations.SubmitCode := by
  refine ⟨fun s b hunting hlen => exec_submitCode_m hunting hlen, fun s p b hp hunting hlen => ?_⟩
  intro u locked digits full
  have hlocked : (u.codes.portCodes p).lockedUntil.isSome = locked := by rcases hp with rfl | rfl <;> rfl
  have hfull : u.codes.fullFor p ↔ full := by rcases hp with rfl | rfl <;> exact Iff.rfl
  have hdigits : isCode b = true ↔ digits := isCode_iff b
  rw [exec_submitCode hp hunting hlen]
  refine ⟨fun hl => ?lockedOut, fun hl hd => ?malformed, fun hl hd hf => ?queueFull, fun hl hd hf => ?queued⟩
  case lockedOut =>
    rw [Part.submitCode_lockedOut (hlocked.trans hl)]
    rfl
  case malformed =>
    rw [Part.submitCode_malformed (hlocked.trans hl) (Bool.eq_false_iff.mpr (mt hdigits.mp hd))]
    rfl
  case queueFull =>
    rw [Part.submitCode_queueFull (hlocked.trans hl) (hdigits.mpr hd) (hfull.mpr hf)]
    rfl
  case queued =>
    rw [Part.submitCode_queued (hlocked.trans hl) (hdigits.mpr hd) (mt hfull.mp hf), Part.joinQueue_eq]
    rfl

end Sys2Proof.Machine
end

section
/-! The supply decision (R99, R100, R102, R103, R119): the causes that count with and without a bank, what the controller
does in each settled state, before and after PFW, and the settlement of O50. -/

namespace Sys2Proof.Machine

/-! ### Sets of causes -/

@[simp] theorem CauseSet.union_none (c : CauseSet) : c.union CauseSet.none = c := by
  simp [CauseSet.union, CauseSet.none]

theorem CauseSet.any_eq_false_iff (c : CauseSet) : c.any = false ↔ c = CauseSet.none := by
  cases c
  simp [CauseSet.any, CauseSet.none, and_assoc]

/-! ### The causes that count (R99) -/

theorem Part.bankValue_of_noBank {α : Type} {u : Part} (h : u.activeBank = none) (f : Image → α) (x : α) :
    u.bankValue f x = x := by
  rw [Part.bankValue, h]

theorem Part.bankValue_of_bank {α : Type} {u : Part} {i : Image} (h : u.activeBank = some i) (f : Image → α) (x : α) :
    u.bankValue f x = f i := by
  rw [Part.bankValue, h]

/-- Without a bank the disconnect set holds REMOTE_ORDER alone (R99). -/
theorem Part.counting_of_noBank {u : Part} (h : u.activeBank = none) :
    u.counting = { CauseSet.none with remoteOrder := u.supply.causes.remoteOrder } := by
  simp [Part.counting, Part.disconnectSet, Part.friendlySet, Part.bankValue_of_noBank h, counts, CauseSet.none]

/-- With a bank its sets decide on every cause but REMOTE_ORDER (R99). -/
theorem Part.counting_of_bank {u : Part} {i : Image} (h : u.activeBank = some i) :
    let x := u.supply.causes
    let d := bankDisconnectSet i
    let g := bankFriendlySet i
    let f := u.tariff.friendly
    u.counting =
      { noCredit := counts x.noCredit d.noCredit g.noCredit f, debtLimit := counts x.debtLimit d.debtLimit g.debtLimit f,
        loadLimit := counts x.loadLimit d.loadLimit g.loadLimit f, tamper := counts x.tamper d.tamper g.tamper f,
        remoteOrder := x.remoteOrder } := by
  simp [Part.counting, Part.disconnectSet, Part.friendlySet, Part.bankValue_of_bank h, counts]

/-! ### The operations of a decision -/

@[simp] theorem Part.settleRelay_supply (st : Settled) (u : Part) :
    (u.settleRelay st).supply = { u.supply with relay := .settled st, logical := .settled st } := by
  simp [Part.settleRelay]

@[simp] theorem Part.enterRecord_supply (c : CauseSet) (u : Part) :
    (u.enterRecord c).supply =
      { u.supply with record := { u.supply.record with causes := u.supply.record.causes.union c } } := by
  simp [Part.enterRecord]

/-- No cause enters the opening record when none counts. -/
@[simp] theorem Part.enterRecord_none (u : Part) : u.enterRecord CauseSet.none = u := by
  simp [Part.enterRecord, Part.putOpeningRecord, Part.markDueIf]

/-- After PFW no operation starts (R119). -/
theorem Part.startOperation_failing {u : Part} (h : u.power = .failing) (dir : Direction) (r : Reason) :
    u.startOperation dir r = u := by
  rw [Part.startOperation, if_neg (by simp [h])]

theorem confirmationRequired_iff (r : OpeningRecord) (reconnectConfirm : Bool) :
    confirmationRequired r reconnectConfirm = true ↔
      r.causes.loadLimit = true ∨ r.causes.tamper = true ∨ r.causes.remoteOrder = true ∨ r.test = true ∨
        ((r.causes.noCredit = true ∨ r.causes.debtLimit = true) ∧ reconnectConfirm = true) := by
  simp [confirmationRequired, or_assoc]

/-- A closing from OPEN needs the customer's confirmation, with the confirm flag read as 0 without a bank (R99, R103). -/
def Part.needsConfirmation (u : Part) : Prop :=
  confirmationRequired u.supply.record (u.bankValue bankReconnectConfirm false) = true

/-- The part with open-required as its counting causes give it (R99). -/
def Part.decided (u : Part) : Part := { u with supply := { u.supply with openRequired := u.counting.any } }

/-! ### The decision in each settled state (R102, R103) -/

/-- A settled state acts on the decision with the causes that count (R100, R102). -/
theorem Part.recompute_settled {u : Part} {st : Settled} (active : u.active = true) (h : u.supply.relay = .settled st) :
    u.recompute = u.decided.actOn st u.counting := by
  rw [Part.recompute, if_pos active, h]
  rfl

section
variable {u : Part} (active : u.active = true)
include active

theorem Part.recompute_closed_required (h : u.supply.relay = .settled .closed) (required : u.counting.any = true) :
    u.recompute = u.decided.startOperation .opening .decision := by
  rw [Part.recompute_settled active h]
  exact if_pos required

theorem Part.recompute_closed_clear (h : u.supply.relay = .settled .closed) (clear : u.counting.any = false) :
    u.recompute = u.decided := by
  rw [Part.recompute_settled active h]
  exact if_neg (Bool.eq_false_iff.mp clear)

theorem Part.recompute_opened_required (h : u.supply.relay = .settled .opened) (required : u.counting.any = true) :
    u.recompute = u.decided.enterRecord u.counting := by
  rw [Part.recompute_settled active h]
  exact if_pos required

/-- Nothing enters the record on the way out of OPEN, where no cause counts. -/
theorem Part.recompute_opened_clear (h : u.supply.relay = .settled .opened) (clear : u.counting.any = false) :
    u.recompute = u.decided.leaveOpen := by
  rw [Part.recompute_settled active h, (CauseSet.any_eq_false_iff _).mp clear]
  exact congrArg Part.leaveOpen (Part.enterRecord_none _)

theorem Part.recompute_opened_confirm (h : u.supply.relay = .settled .opened) (clear : u.counting.any = false)
    (confirm : u.needsConfirmation) :
    u.recompute = (u.decided.settleRelay .awaitingConfirm).place (.awaitingConfirm u.supply.record) := by
  rw [Part.recompute_opened_clear active h clear]
  exact if_pos confirm

theorem Part.recompute_opened_cleared (h : u.supply.relay = .settled .opened) (clear : u.counting.any = false)
    (noConfirm : ¬ u.needsConfirmation) : u.recompute = u.decided.startOperation .closing .cleared := by
  rw [Part.recompute_opened_clear active h clear]
  exact if_neg noConfirm

theorem Part.recompute_awaiting_required (h : u.supply.relay = .settled .awaitingConfirm)
    (required : u.counting.any = true) : u.recompute = (u.decided.enterRecord u.counting).settleRelay .opened := by
  rw [Part.recompute_settled active h]
  exact if_pos required

theorem Part.recompute_awaiting_clear (h : u.supply.relay = .settled .awaitingConfirm) (clear : u.counting.any = false) :
    u.recompute = u.decided := by
  rw [Part.recompute_settled active h]
  exact if_neg (Bool.eq_false_iff.mp clear)

theorem Part.recompute_stuckClosed (h : u.supply.relay = .settled .stuckClosed) :
    u.recompute = u.decided.enterRecord u.counting := Part.recompute_settled active h

theorem Part.recompute_stuckOpen (h : u.supply.relay = .settled .stuckOpen) : u.recompute = u.decided :=
  Part.recompute_settled active h

end

/-- A decision that asks for an operation starts it before PFW and leaves the part as decided after it (R102, R119). -/
theorem Part.startOperation_on_decision (u : Part) (dir : Direction) {r : Reason} (h : r ≠ .test) :
    (u.power = .running → Part.Started u.decided (u.decided.startOperation dir r) dir r u.participants) ∧
    (u.power = .failing → u.decided.startOperation dir r = u.decided) := by
  refine ⟨fun running => ?_, fun failing => Part.startOperation_failing (u := u.decided) failing dir r⟩
  have started := Part.startOperation_started (u := u.decided) ((Part.running_iff _).mpr running) dir r
  rwa [if_neg h] at started

/-- AWAITING_CONFIRM places its notice, with the record, on each port of its routing (R103, R179). -/
theorem Part.awaitingConfirm_placed (u : Part) (r : OpeningRecord) {p : Port}
    (h : (u.config.live.routingOf .awaitingConfirm).get p = true) :
    ((u.settleRelay .awaitingConfirm).place (.awaitingConfirm r)).Holds p (.awaitingConfirm r) := by
  refine Part.place_placed _ _ p ?_
  rw [Part.place_config, Part.settleRelay_config]
  exact h

/-- Settles O50: which causes count, and the decision in each settled state. -/
theorem supplyDecision : Obligations.SupplyDecision := by
  intro u x f
  refine ⟨Part.counting_of_noBank, fun i => Part.counting_of_bank, fun op => Part.recompute_operating,
    fun notRunning notFailing => Part.recompute_inactive ?_, fun powered => ?_⟩
  · simp [Part.active, notRunning, notFailing]
  have active : u.active = true := (Part.active_iff u).mpr powered
  intro required v decided entered r confirm
  have hconfirm : u.needsConfirmation ↔ confirm := confirmationRequired_iff _ _
  refine ⟨fun h hreq => ?closedRequired, fun h => Part.recompute_closed_clear active h,
    fun h hreq => ?openedRequired, fun h hclear hc => ?openedConfirm, fun h hclear hc => ?openedCleared,
    fun h hreq => ?awaitingRequired, fun h => Part.recompute_awaiting_clear active h, fun h => ?stuckClosed,
    Part.recompute_stuckOpen active⟩
  case closedRequired =>
    rw [show v = _ from Part.recompute_closed_required active h hreq]
    exact Part.startOperation_on_decision u .opening (by decide)
  case openedRequired =>
    refine ⟨Part.recompute_core u, ?_⟩
    rw [show v = _ from Part.recompute_opened_required active h hreq, Part.enterRecord_supply, ← hreq]
    rfl
  case openedConfirm =>
    refine ⟨Part.recompute_core u, ?_⟩
    rw [show v = _ from Part.recompute_opened_confirm active h hclear (hconfirm.mpr hc)]
    refine ⟨?_, fun p => Part.awaitingConfirm_placed u.decided u.supply.record⟩
    rw [Part.place_supply, Part.settleRelay_supply, ← hclear]
    rfl
  case openedCleared =>
    rw [show v = _ from Part.recompute_opened_cleared active h hclear (mt hconfirm.mp hc)]
    exact Part.startOperation_on_decision u .closing (by decide)
  case awaitingRequired =>
    refine ⟨Part.recompute_core u, ?_⟩
    rw [show v = _ from Part.recompute_awaiting_required active h hreq, Part.settleRelay_supply,
      Part.enterRecord_supply, ← hreq]
    rfl
  case stuckClosed =>
    refine ⟨Part.recompute_core u, ?_⟩
    rw [show v = _ from Part.recompute_stuckClosed active h, Part.enterRecord_supply]
    rfl

end Sys2Proof.Machine
end

section
/-! Commands as maps on the part: what each command makes of the part before the contact watch and the list of the
overtaken are brought up to date, and that every command completes. Settles O1, O2 and O59. -/

namespace Sys2Proof.Machine

/-- What a command makes of the part, before `State.becomes` brings it up to date. -/
def effectOf : Instr → Part → Part
  | .energyReport p b => Part.frameArrives p ReqKind.energyReport.byte b
  | .switchReady p b => Part.frameArrives p ReqKind.switchReady.byte b
  | .submitCode p b => Part.frameArrives p ReqKind.submitCode.byte b
  | .takeEc p b => Part.frameArrives p ReqKind.takeEc.byte b
  | .confirmReconnect p b => Part.frameArrives p ReqKind.confirmReconnect.byte b
  | .readDisplay p b => Part.frameArrives p ReqKind.readDisplay.byte b
  | .readState p b => Part.frameArrives p ReqKind.readState.byte b
  | .readRegisters p b => Part.frameArrives p ReqKind.readRegisters.byte b
  | .tariffWrite p b => Part.frameArrives p ReqKind.tariffWrite.byte b
  | .tariffFinish p b => Part.frameArrives p ReqKind.tariffFinish.byte b
  | .tariffDiscard p b => Part.frameArrives p ReqKind.tariffDiscard.byte b
  | .tariffRead p b => Part.frameArrives p ReqKind.tariffRead.byte b
  | .setTime p b => Part.frameArrives p ReqKind.setTime.byte b
  | .readJournal p b => Part.frameArrives p ReqKind.readJournal.byte b
  | .fetchNotice p b => Part.frameArrives p ReqKind.fetchNotice.byte b
  | .noticeDone p b => Part.frameArrives p ReqKind.noticeDone.byte b
  | .configWrite p b => Part.frameArrives p ReqKind.configWrite.byte b
  | .loadKey p b => Part.frameArrives p ReqKind.loadKey.byte b
  | .activateInitialBank p b => Part.frameArrives p ReqKind.activateInitialBank.byte b
  | .relayTest p b => Part.frameArrives p ReqKind.relayTest.byte b
  | .enterService p b => Part.frameArrives p ReqKind.enterService.byte b
  | .unknownRequestKind p kind b => Part.frameArrives p kind b
  | .characterReceived p c stopBitLow => Part.receive p c stopBitLow
  | .receiveSilenceTimeout p => Part.unlessOvertaken (.receiveSilenceTimeout p) (Part.receiveSilence p)
  | .responseSent p => Part.endResponse p
  | .portResetAssert p => Part.assertReset p
  | .portResetRelease p => Part.releaseReset p
  | .linkSuspect l => Part.unlessOvertaken (.linkSuspect l) (Part.suspectLink l)
  | .linkLost l => Part.unlessOvertaken (.linkLost l) (Part.linkExpires l)
  | .epRisingEdge => Part.epRises
  | .epFallingEdge => Part.epFalls
  | .intervalCounterWrap => Part.unlessOvertaken .intervalCounterWrap Part.wrapCounter
  | .windowTimeClose => Part.unlessOvertaken .windowTimeClose Part.windowExpires
  | .minuteBoundary => Part.minuteDue
  | .clockWrap => Part.unlessOvertaken .clockWrap Part.wrapClock
  | .codeScreening => Part.screeningDue
  | .codeLockoutExpiry p => Part.unlessOvertaken (.codeLockoutExpiry p) (Part.expireLockout p)
  | .checkpointAttemptEnd readBack => Part.checkpointEnds readBack
  | .bankWriteAttemptEnd readBack => Part.bankEnds readBack
  | .configWriteAttemptEnd readBack => Part.configEnds readBack
  | .journalWriteAttemptEnd readBack => Part.journalEnds readBack
  | .hourlyTimerExpiry => Part.unlessOvertaken .hourlyTimerExpiry Part.hourly
  | .loadEvaluation => Part.unlessOvertaken .loadEvaluation Part.evaluationDue
  | .loadLockoutExpiry => Part.unlessOvertaken .loadLockoutExpiry Part.lockoutExpires
  | .tripAgeOut => Part.unlessOvertaken .tripAgeOut Part.tripAges
  | .coverSwitchChange cover opened => Part.coverChanges cover opened
  | .magneticSensorChange field => Part.magnetChanges field
  | .tamperDebounceExpiry c => Part.unlessOvertaken (.tamperDebounceExpiry c) (Part.debounceExpires c)
  | .tamperReleaseExpiry c => Part.unlessOvertaken (.tamperReleaseExpiry c) (Part.releaseExpires c)
  | .handshakeTimeout => Part.unlessOvertaken .handshakeTimeout Part.endHandshake
  | .zxEdge => Part.endZxWait true
  | .zxTimeout => Part.unlessOvertaken .zxTimeout (Part.endZxWait false)
  | .relayDelayEnd => Part.unlessOvertaken .relayDelayEnd Part.endDelay
  | .coilPulseEnd => Part.unlessOvertaken .coilPulseEnd (Part.whileActive Part.endPulse)
  | .settleEnd => Part.unlessOvertaken .settleEnd (Part.whileActive Part.endSettle)
  | .blankingEnd => Part.unlessOvertaken .blankingEnd Part.endBlanking
  | .contactSenseChange sense => Part.senseChanges sense
  | .bypassAriseTimerExpiry => Part.unlessOvertaken .bypassAriseTimerExpiry (Part.whileActive Part.bypassArises)
  | .bypassEndTimerExpiry => Part.unlessOvertaken .bypassEndTimerExpiry (Part.whileActive Part.bypassEnds)
  | .jumpTimerExpiry => Part.unlessOvertaken .jumpTimerExpiry (Part.whileActive Part.jump)
  | .retryTimerExpiry => Part.unlessOvertaken .retryTimerExpiry (Part.whileActive Part.retry)
  | .powerFailWarning => Part.powerFails
  | .mainDomainStop cutLandsWhole => Part.stopMain cutLandsWhole
  | .mainStart => Part.startMain
  | .retentionReset => Part.loseRetention

/-- Every command answers the state that its effect leaves. -/
theorem exec_eq (i : Instr) (s : State) : exec i s = .next (s.becomes (effectOf i s.part)) := by
  cases i <;> rfl

theorem step_front {s : State} {c : Instr} {rest : List Instr} (h : s.pending = c :: rest) :
    step s = exec c { s with pending := rest } := by
  rw [step, h]

theorem step_idle {s : State} (h : s.pending = []) : step s = .next (tick s) := by
  rw [step, h]

/-- What a step can do: a tick, or a command's effect, brought up to date. -/
theorem step_cases {s t : State} (h : step s = .next t) :
    t = tick s ∨ ∃ i rest, t.part = s.part.overtaking rest (effectOf i s.part).watchContacts := by
  cases hp : s.pending with
  | nil =>
    rw [step_idle hp] at h
    exact .inl (by cases h; rfl)
  | cons i rest =>
    rw [step_front hp, exec_eq] at h
    exact .inr ⟨i, rest, by cases h; rfl⟩

/-- Settles O1: the front command runs on the queue's rest. -/
theorem stepTakesFrontCommand : Obligations.StepTakesFrontCommand :=
  fun _ _ => ⟨step_front rfl, fun _ h => step_front h⟩

/-- Settles O2: every command is `State.becomes` of its effect. -/
theorem everyCommandCompletes : Obligations.EveryCommandCompletes := by
  intro c s
  exact ⟨_, exec_eq c s⟩

/-! ### The contact watch (R116, R117) -/

/-- A qualification timer that runs as its condition says stays as it is, whatever the moment. -/
theorem qualify_qualify (holds : Bool) (since : Option Nat) (now later : Nat) :
    qualify holds (qualify holds since now) later = qualify holds since now := by
  cases holds <;> rfl

/-- Bringing the watch up to date twice is bringing it up to date once. -/
theorem Part.watchContacts_watched (u : Part) : u.watchContacts.Watched := by
  unfold Part.Watched Part.watchContacts
  simp only [qualify_qualify, Part.active, Part.condition, Part.tamperRecord, Part.expectedPhases]

theorem Part.Watched.of_overtaking {u v : Part} {w : List Instr} (h : v.Watched) : (u.overtaking w v).Watched := by
  have kept := congrArg (fun x : Part => { x with overtaken := (u.overtaking w v).overtaken }) h
  exact kept

theorem State.becomes_watched (s : State) (u : Part) : (s.becomes u).part.Watched :=
  u.watchContacts_watched.of_overtaking

/-- A qualification timer that runs as its condition says runs so at every later moment. -/
theorem qualify_later {holds : Bool} {since : Option Nat} {now : Nat} (h : qualify holds since now = since) (later : Nat) :
    qualify holds since later = since := by
  cases holds with
  | false => exact h
  | true =>
    cases since with
    | none => cases h
    | some t => rfl

/-- The watch is up to date exactly when each of its three timers is. -/
theorem Part.watched_iff (u : Part) :
    u.Watched ↔ u.watchContacts.supply.bypassSince = u.supply.bypassSince ∧
      u.watchContacts.supply.bypassGoneSince = u.supply.bypassGoneSince ∧
      u.watchContacts.supply.jumpSince = u.supply.jumpSince := by
  refine ⟨fun h => ?_, fun ⟨arise, gone, jump⟩ => ?_⟩
  · rw [show u.watchContacts = u from h]
    exact ⟨rfl, rfl, rfl⟩
  · have supply : u.watchContacts.supply = u.supply :=
      calc u.watchContacts.supply
          = { u.supply with
              bypassSince := u.watchContacts.supply.bypassSince
              bypassGoneSince := u.watchContacts.supply.bypassGoneSince
              jumpSince := u.watchContacts.supply.jumpSince } := rfl
        _ = u.supply := by rw [arise, gone, jump]
    exact congrArg (fun x => { u with supply := x }) supply

/-- A tick moves no condition of the watch, and its running timers keep their starts. -/
theorem Part.Watched.ticked {u : Part} (h : u.Watched) : u.ticked.Watched := by
  obtain ⟨arise, gone, jump⟩ := (Part.watched_iff u).mp h
  exact (Part.watched_iff u.ticked).mpr
    ⟨qualify_later arise (u.timeBase + 1), qualify_later gone (u.timeBase + 1), qualify_later jump (u.timeBase + 1)⟩

/-- Settles O59: every command ends in `State.becomes`, and a tick changes none of the watch's conditions. -/
theorem contactWatchKept : Obligations.ContactWatchKept := by
  refine ⟨fun c s t h => ?_, fun s t h hstep => ?_⟩
  · rw [exec_eq] at h
    cases h
    exact s.becomes_watched _
  · rcases step_cases hstep with rfl | ⟨i, rest, ht⟩
    · exact h.ticked
    · rw [ht]
      exact (Part.watchContacts_watched _).of_overtaking

end Sys2Proof.Machine
end

section
/-! What the shared operations keep of the three invariants: the identity of the account (R22), the coils (R108), the attention
lines with CODE_ATTACK (R94, R180). An operation is sound when it keeps them. -/

namespace Sys2Proof.Machine

/-! ### The coils -/

/-- The relay rests, or an operation stands outside PULSE. -/
def Part.Unpulsed (u : Part) : Prop := ∀ op, u.supply.relay = .operating op → op.stage ≠ .pulse

theorem Part.unpulsed_of_settled {u : Part} {st : Settled} (h : u.supply.relay = .settled st) : u.Unpulsed := by
  intro op ho
  rw [h] at ho
  cases ho

theorem Part.unpulsed_of_stage {u : Part} {op : Operation} (h : u.supply.relay = .operating op) (hs : op.stage ≠ .pulse) :
    u.Unpulsed := by
  intro op' ho
  rw [h] at ho
  cases ho
  exact hs

/-- No coil is driven. -/
def Part.CoilsOff (u : Part) : Prop := u.outputs.openCoil = false ∧ u.outputs.closeCoil = false

theorem Part.CoilsOff.follow {u : Part} (h : u.CoilsOff) : u.CoilsFollowPulse := by
  obtain ⟨ho, hc⟩ := h
  exact ⟨fun k => by simp [ho] at k, fun k => by simp [hc] at k⟩

/-- Outside PULSE no coil is driven. -/
theorem Part.CoilsFollowPulse.off {u : Part} (h : u.CoilsFollowPulse) (hu : u.Unpulsed) : u.CoilsOff := by
  constructor
  · by_contra k
    obtain ⟨op, ho, hs, -⟩ := h.1 (Bool.eq_true_of_not_eq_false k)
    exact hu op ho hs
  · by_contra k
    obtain ⟨op, ho, hs, -⟩ := h.2 (Bool.eq_true_of_not_eq_false k)
    exact hu op ho hs

/-- `v` drives what `u` drives, and its relay is that of `u` unless `u` was settled. -/
structure Part.KeepsCoils (u v : Part) : Prop where
  openCoil : v.outputs.openCoil = u.outputs.openCoil
  closeCoil : v.outputs.closeCoil = u.outputs.closeCoil
  relay : v.supply.relay = u.supply.relay ∨ ∃ st, u.supply.relay = .settled st

namespace Part.KeepsCoils

theorem trans {u v w : Part} (a : u.KeepsCoils v) (b : v.KeepsCoils w) : u.KeepsCoils w where
  openCoil := b.openCoil.trans a.openCoil
  closeCoil := b.closeCoil.trans a.closeCoil
  relay := by
    rcases a.relay with ha | ha
    · exact ha ▸ b.relay
    · exact .inr ha

theorem off {u v : Part} (a : u.KeepsCoils v) (h : u.CoilsOff) : v.CoilsOff :=
  ⟨a.openCoil.trans h.1, a.closeCoil.trans h.2⟩

theorem follow {u v : Part} (a : u.KeepsCoils v) (h : u.CoilsFollowPulse) : v.CoilsFollowPulse := by
  rcases a.relay with hr | ⟨st, hr⟩
  · unfold Part.CoilsFollowPulse at h ⊢
    rwa [hr, a.openCoil, a.closeCoil]
  · exact (a.off (h.off (Part.unpulsed_of_settled hr))).follow

end Part.KeepsCoils

/-! ### Shared operations -/

/-- CODE_ATTACK is present exactly while a port is locked out (R94). -/
def Part.AttackNoted (u : Part) : Prop := u.condition .codeAttack = u.codes.attacked

/-- `v` follows from `u` by operations that leave the books, the coils, the lockouts and CODE_ATTACK alone. -/
structure Part.Shared (u v : Part) : Prop where
  books : u.KeepsBooks v
  lines : u.KeepsLines v
  coils : u.KeepsCoils v
  codes : v.codes = u.codes
  attack : v.condition .codeAttack = u.condition .codeAttack

/-- `v` follows from `u` by operations that keep the invariants. -/
structure Part.Sound (u v : Part) : Prop where
  supplied : v.mainOn = u.mainOn
  ledger : u.Ledger → v.Ledger
  coils : u.CoilsFollowPulse → v.CoilsFollowPulse
  attack : u.AttackNoted → v.AttackNoted
  lines : u.mainOn = true → u.LinesFollowNotices → v.LinesFollowNotices

/-- What the invariants speak of. -/
def Part.stake (u : Part) :
    Bool × Account × Vector (Slot CheckpointRecord) 64 × Option Attempt × Outputs × Relay × PerPort NoticePort × Bool × Bool :=
  (u.mainOn, u.account, u.array.log, u.store.inFlight, u.outputs, u.supply.relay, u.notices, u.condition .codeAttack,
    u.codes.attacked)

theorem Account.Identity.of_books {a b : Account} (h : b.books = a.books) (i : a.Identity) : b.Identity := by
  simp only [Account.books, Account.mk.injEq] at h
  unfold Account.Identity at i ⊢
  grind

/-- Operations that leave the books alone keep the ledger. -/
theorem Part.KeepsBooks.ledger {u v : Part} (h : u.KeepsBooks v) (i : u.Ledger) : v.Ledger := by
  obtain ⟨live, log, flight⟩ := i
  refine ⟨live.of_books h.books, fun r hr => log r (h.log r hr), fun c hc => ?_⟩
  rcases h.inFlight c hc with hb | ⟨d, hd, hr⟩
  · exact live.of_books hb
  · exact hr ▸ flight d hd

namespace Part.Shared

theorem trans {u v w : Part} (a : u.Shared v) (b : v.Shared w) : u.Shared w :=
  ⟨a.books.trans b.books, a.lines.trans b.lines, a.coils.trans b.coils, b.codes.trans a.codes, b.attack.trans a.attack⟩

theorem sound {u v : Part} (h : u.Shared v) : u.Sound v where
  supplied := by simp only [Part.mainOn, h.lines.power]
  ledger := h.books.ledger
  coils := h.coils.follow
  attack := fun a => by unfold Part.AttackNoted at a ⊢; rw [h.attack, h.codes, a]
  lines := h.lines.lines

end Part.Shared

namespace Part.Sound

theorem refl (u : Part) : u.Sound u := ⟨rfl, id, id, id, fun _ => id⟩

theorem trans {u v w : Part} (a : u.Sound v) (b : v.Sound w) : u.Sound w :=
  ⟨b.supplied.trans a.supplied, b.ledger ∘ a.ledger, b.coils ∘ a.coils, b.attack ∘ a.attack,
    fun on h => b.lines (a.supplied.trans on) (a.lines on h)⟩

/-- An update that touches none of what the invariants speak of. -/
theorem of_eq {u v : Part} (h : v.stake = u.stake) : u.Sound v := by
  simp only [Part.stake, Prod.mk.injEq] at h
  obtain ⟨power, account, log, inFlight, outputs, relay, notices, attack, locked⟩ := h
  refine ⟨power, fun l => ?_, fun c => ?_, fun a => ?_, fun _ n => ?_⟩
  · unfold Part.Ledger at l ⊢
    rwa [account, log, inFlight]
  · unfold Part.CoilsFollowPulse at c ⊢
    rwa [outputs, relay]
  · unfold Part.AttackNoted at a ⊢
    rw [attack, locked, a]
  · unfold Part.LinesFollowNotices at n ⊢
    rwa [outputs, power, notices]

/-- Operations after an update that touches none of what the invariants speak of. -/
theorem after {u v w : Part} (h : v.Sound w) (e : v.stake = u.stake) : u.Sound w := (of_eq e).trans h

/-- An operation that may or may not take place. -/
theorem ite {u v w : Part} {c : Prop} [Decidable c] (a : c → u.Sound v) (b : ¬c → u.Sound w) :
    u.Sound (if c then v else w) := by
  split
  · exact a ‹_›
  · exact b ‹_›

end Part.Sound

/-! ### What the laws say of single operations -/

/-- An operation that keeps the core keeps coils and codes. -/
theorem Part.openCoil_of_core {u v : Part} (h : v.core = u.core) : v.outputs.openCoil = u.outputs.openCoil :=
  show v.core.outputs.openCoil = u.core.outputs.openCoil from congrArg (fun x : Part => x.outputs.openCoil) h

theorem Part.closeCoil_of_core {u v : Part} (h : v.core = u.core) : v.outputs.closeCoil = u.outputs.closeCoil :=
  show v.core.outputs.closeCoil = u.core.outputs.closeCoil from congrArg (fun x : Part => x.outputs.closeCoil) h

theorem Part.codes_of_core {u v : Part} (h : v.core = u.core) : v.codes = u.codes :=
  show v.core.codes = u.core.codes from congrArg (fun x : Part => x.codes) h

/-- An operation within the chain behind a tamper condition that leaves the relay of an operation alone keeps the coils. -/
theorem Part.KeepsCoils.of_core {u v : Part} (h : v.core = u.core)
    (r : v.supply.relay = u.supply.relay ∨ ∃ st, u.supply.relay = .settled st) : u.KeepsCoils v :=
  ⟨Part.openCoil_of_core h, Part.closeCoil_of_core h, r⟩

theorem Part.recompute_coils (u : Part) : u.KeepsCoils u.recompute :=
  .of_core (by simp) (u.recompute_relay.imp_right And.left)

theorem Part.handCauses_coils (c : CauseSet) (u : Part) : u.KeepsCoils (u.handCauses c) := by
  unfold Part.handCauses
  split
  · exact ⟨rfl, rfl, .inl rfl⟩
  · exact .trans (v := { u with supply := { u.supply with causes := c } }) ⟨rfl, rfl, .inl rfl⟩ (Part.recompute_coils _)

theorem Part.evaluateTamper_coils (u : Part) : u.KeepsCoils u.evaluateTamper :=
  .trans (v := { u with tamper := { u.tamper with member := u.tamperMember } }) ⟨rfl, rfl, .inl rfl⟩
    (Part.handCauses_coils _ _)

theorem Part.putRecord_coils (c : TamperCause) (r : TamperRecord) (u : Part) : u.KeepsCoils (u.putRecord c r) :=
  .of_core (by simp) (.inl (by simp))

theorem Part.presentEvidence_coils (c : TamperCause) (u : Part) : u.KeepsCoils (u.presentEvidence c) := by
  refine .of_core (by simp) ?_
  unfold Part.presentEvidence
  dsimp only
  rw [Part.requestCheckpoint_supply]
  split
  · simpa using (Part.evaluateTamper_coils (u.journal (.tamperPresent c (u.tamperRecord c).count (u.policy c)))).relay
  · simpa using (Part.evaluateTamper_coils (Part.place _ (u.journal _))).relay

theorem Part.presentOnBattery_coils (k : Cover) (u : Part) : u.KeepsCoils (u.presentOnBattery k) := by
  refine .of_core (by simp) ?_
  unfold Part.presentOnBattery
  dsimp only
  split
  · simpa using (Part.evaluateTamper_coils (Part.markDue (Part.bufferEvent k true (u.putRecord _ _)))).relay
  · exact .inl (by simp)

theorem Part.becomePresent_coils (c : TamperCause) (u : Part) : u.KeepsCoils (u.becomePresent c) := by
  refine .trans (Part.putRecord_coils c ((u.tamperRecord c).presented u.stamp) u) ?_
  unfold Part.becomePresent
  dsimp only
  split
  · split
    · exact Part.presentOnBattery_coils _ _
    · exact Part.presentEvidence_coils _ _
  · exact Part.presentEvidence_coils _ _

theorem Part.enterPending_coils (c : TamperCause) (b : Bool) (u : Part) : u.KeepsCoils (u.enterPending c b) := by
  unfold Part.enterPending
  dsimp only
  split
  · exact Part.putRecord_coils _ _ _
  · exact Part.becomePresent_coils _ _

theorem Part.conditionArises_coils (c : TamperCause) (u : Part) : u.KeepsCoils (u.conditionArises c) := by
  have arising := Part.putRecord_coils c { u.tamperRecord c with condition := true } u
  unfold Part.conditionArises
  dsimp only
  split
  · exact arising
  · split
    · exact arising.trans (Part.enterPending_coils _ _ _)
    · exact arising.trans (Part.enterPending_coils _ _ _)
    · exact arising
    · exact arising.trans (Part.putRecord_coils _ _ _)

theorem Part.conditionEnds_coils (c : TamperCause) (u : Part) : u.KeepsCoils (u.conditionEnds c) :=
  .of_core (by simp) (.inl (by simp))

theorem Part.setCondition_coils (c : TamperCause) (b : Bool) (u : Part) : u.KeepsCoils (u.setCondition c b) := by
  unfold Part.setCondition
  dsimp only
  split
  · exact ⟨rfl, rfl, .inl rfl⟩
  · split
    · exact Part.conditionArises_coils _ _
    · split
      · exact (Part.conditionEnds_coils _ _).trans (Part.evaluateTamper_coils _)
      · exact Part.conditionEnds_coils _ _

/-- A condition is read off its record. -/
theorem Part.condition_of_record {u v : Part} {c : TamperCause} (h : v.tamperRecord c = u.tamperRecord c) :
    v.condition c = u.condition c :=
  congrArg TamperRecord.condition h

namespace Part

/-! ### Requests, entries and notices -/

theorem markDue_sound (u : Part) : u.Sound u.markDue :=
  Shared.sound ⟨markDue_keeps u, markDue_lines u, ⟨rfl, rfl, .inl rfl⟩, rfl, rfl⟩

theorem markDueIf_sound (b : Bool) (u : Part) : u.Sound (Part.markDueIf b u) := by
  cases b
  · exact .refl u
  · exact markDue_sound u

theorem startNext_sound (u : Part) : u.Sound u.startNext :=
  Shared.sound ⟨startNext_keeps u, .of_eq (by simp) (by simp) (by simp), ⟨by simp, by simp, .inl (by simp)⟩, by simp,
    condition_of_record (tamperRecord_congr (by simp) _)⟩

theorem requestCheckpoint_sound (r : CheckpointReason) (u : Part) : u.Sound (u.requestCheckpoint r) :=
  (startNext_sound _).after rfl

theorem submitClass2_sound (w : Class2Write) (u : Part) : u.Sound (u.submitClass2 w) :=
  (startNext_sound _).after rfl

theorem submitJournal_sound (r : JournalRequest) (u : Part) : u.Sound (u.submitJournal r) :=
  .ite (fun _ => .refl u) fun _ => (startNext_sound _).after rfl

theorem journal_sound (d : JournalDetail) (u : Part) : u.Sound (u.journal d) := submitJournal_sound _ u

theorem putNotices_sound (p : Port) (n : NoticePort) (u : Part) : u.Sound (u.putNotices p n) :=
  Shared.sound ⟨.of_eq rfl rfl rfl, putNotices_lines p n u, ⟨rfl, rfl, .inl rfl⟩, rfl, rfl⟩

theorem placeOn_sound (p : Port) (x : Notice) (u : Part) : u.Sound (u.placeOn p x) := putNotices_sound _ _ _

theorem place_sound (x : Notice) (u : Part) : u.Sound (u.place x) :=
  Shared.sound ⟨place_keeps x u, place_lines x u, ⟨by simp, by simp, .inl (by simp)⟩, by simp,
    condition_of_record (place_record x u _)⟩

theorem placeWhen_sound (b : Prop) [Decidable b] (x : Notice) (u : Part) : u.Sound (if b then u.place x else u) :=
  .ite (fun _ => place_sound x u) fun _ => .refl u

theorem placeUnless_sound (b : Prop) [Decidable b] (x : Notice) (u : Part) : u.Sound (if b then u else u.place x) :=
  .ite (fun _ => .refl u) fun _ => place_sound x u

/-! ### Records, conditions and the decision -/

theorem putRecord_sound {c : TamperCause} {r : TamperRecord} {u : Part}
    (h : c ≠ .codeAttack ∨ r.condition = u.condition .codeAttack) : u.Sound (u.putRecord c r) := by
  refine Shared.sound ⟨putRecord_keeps c r u, putRecord_lines c r u, putRecord_coils c r u, by simp, ?_⟩
  by_cases hc : c = .codeAttack
  · subst hc
    rcases h with h | h
    · exact absurd rfl h
    · exact (congrArg TamperRecord.condition (putRecord_self _ _ _)).trans h
  · exact condition_of_record (putRecord_other (Ne.symm hc) r u)

theorem recompute_shared (u : Part) : u.Shared u.recompute :=
  ⟨recompute_keeps u, recompute_lines u, recompute_coils u, by simp, condition_of_record (recompute_record (by decide) u)⟩

theorem recompute_sound (u : Part) : u.Sound u.recompute := u.recompute_shared.sound

theorem handCauses_sound (c : CauseSet) (u : Part) : u.Sound (u.handCauses c) :=
  Shared.sound ⟨handCauses_keeps c u, handCauses_lines c u, handCauses_coils c u, by simp,
    condition_of_record (handCauses_record (by decide) c u)⟩

theorem evaluateTamper_sound (u : Part) : u.Sound u.evaluateTamper :=
  Shared.sound ⟨evaluateTamper_keeps u, evaluateTamper_lines u, evaluateTamper_coils u, by simp,
    condition_of_record (evaluateTamper_record (by decide) u)⟩

theorem evaluateTamperQuietly_sound (u : Part) : u.Sound u.evaluateTamperQuietly := .of_eq rfl

theorem setCondition_sound {c : TamperCause} (h : c ≠ .codeAttack) (b : Bool) (u : Part) : u.Sound (u.setCondition c b) :=
  Shared.sound ⟨setCondition_keeps c b u, setCondition_lines c b u, setCondition_coils c b u, by simp,
    condition_of_record (setCondition_other (by decide) (Ne.symm h) b u)⟩

/-- New codes with CODE_ATTACK brought up to date keep the invariants, whatever the lockouts were (R94). -/
theorem handAttack_sound (c : Codes) (u : Part) : u.Sound (Part.handAttack { u with codes := c }) where
  supplied := by simp [Part.handAttack, Part.mainOn]
  ledger := (setCondition_keeps .codeAttack c.attacked { u with codes := c }).after (u := u) rfl rfl rfl |>.ledger
  coils := (KeepsCoils.trans (v := { u with codes := c }) ⟨rfl, rfl, .inl rfl⟩ (setCondition_coils _ _ _)).follow
  attack := fun _ => by
    unfold AttackNoted Part.handAttack
    rw [setCondition_condition (by decide), setCondition_codes]
  lines := (setCondition_lines .codeAttack c.attacked { u with codes := c }).after (u := u) rfl rfl rfl |>.lines

theorem conditionArises_sound {c : TamperCause} (h : c ≠ .codeAttack) (u : Part) : u.Sound (u.conditionArises c) :=
  Shared.sound ⟨conditionArises_keeps c u, conditionArises_lines c u, conditionArises_coils c u,
    codes_of_core (by simp), condition_of_record (conditionArises_other (by decide) (Ne.symm h) u)⟩

theorem conditionEnds_sound {c : TamperCause} (h : c ≠ .codeAttack) (u : Part) : u.Sound (u.conditionEnds c) :=
  Shared.sound ⟨conditionEnds_keeps c u, conditionEnds_lines c u, conditionEnds_coils c u, by simp,
    condition_of_record (conditionEnds_other (Ne.symm h) u)⟩

/-- An operation starts from a settled relay. -/
theorem startOperation_sound {u : Part} {st : Settled} (h : u.supply.relay = .settled st) (d : Direction) (r : Reason) :
    u.Sound (u.startOperation d r) :=
  Shared.sound ⟨startOperation_keeps d r u, startOperation_lines d r u, .of_core (by simp) (.inr ⟨st, h⟩), by simp,
    condition_of_record (startOperation_record (by decide) d r u)⟩

/-- The relay settles from outside PULSE. -/
theorem settleRelay_sound {u : Part} (h : u.Unpulsed ∨ u.CoilsOff) (st : Settled) : u.Sound (u.settleRelay st) := by
  have on : (u.settleRelay st).mainOn = u.mainOn := by simp [Part.mainOn]
  refine ⟨on, (settleRelay_keeps st u).ledger, fun c => ?_, fun a => ?_, (settleRelay_lines st u).lines⟩
  · obtain ⟨ho, hc⟩ := h.elim c.off id
    exact CoilsOff.follow ⟨by simp [ho], by simp [hc]⟩
  · unfold AttackNoted at a ⊢
    rw [condition_of_record (settleRelay_record st u _), settleRelay_codes, a]

/-! ### The account -/

/-- The account takes a value that keeps its identity. -/
theorem putAccount_sound {a : Account} {u : Part} (h : u.account.Identity → a.Identity) : u.Sound (u.putAccount a) := by
  unfold Part.putAccount
  split
  · exact .refl u
  · refine .trans (v := { u with account := a }) ⟨rfl, ?_, id, id, fun _ => id⟩ (markDue_sound _)
    rintro ⟨live, log, flight⟩
    exact ⟨h live, log, flight⟩

theorem derivedAccount_identity (u : Part) (h : u.account.Identity) : u.derivedAccount.Identity := h

theorem creditNotices_sound (a : Account) (u : Part) : u.Sound (u.creditNotices a) := by
  unfold Part.creditNotices
  dsimp only
  exact (((placeWhen_sound _ _ _).trans (placeWhen_sound _ _ _)).trans (placeWhen_sound _ _ _)).trans
    (placeUnless_sound _ _ _)

theorem deriveQuietly_sound (u : Part) : u.Sound u.deriveQuietly :=
  (putAccount_sound u.derivedAccount_identity).trans ((creditNotices_sound _ _).after rfl)

theorem derive_sound (u : Part) : u.Sound u.derive :=
  .ite (fun _ => deriveQuietly_sound u) fun _ => (deriveQuietly_sound u).trans (recompute_sound _)

theorem afterCharge_sound (c : Nat) (u : Part) : u.Sound (u.afterCharge c) := by
  refine (derive_sound u).trans ?_
  unfold Part.afterCharge
  dsimp only
  split
  · exact .refl _
  · exact .ite (fun _ => requestCheckpoint_sound _ _) fun _ => .refl _

/-- What a charge takes from the balance and what it leaves uncollected are the charge (R5). -/
theorem chargedBalance_add (b : Int) (c : Nat) : chargedBalance b c + c = b + notTaken b c := by
  rw [chargedBalance_eq, notTaken_eq]
  omega

theorem chargedAccount_identity {u : Part} (e : Nat) (shortfall : Bool) (h : u.account.Identity) :
    (u.chargedAccount e shortfall).Identity := by
  have taken := chargedBalance_add u.account.balance (u.chargeFor e)
  simp only [Account.Identity, Part.chargedAccount] at h ⊢
  push_cast
  omega

theorem standing_identity {a : Account} (c : Nat) (h : a.Identity) : (a.standing c).Identity := by
  have taken := chargedBalance_add a.balance c
  simp only [Account.Identity, Account.standing] at h ⊢
  push_cast
  omega

theorem toppedUp_identity {a : Account} (x : TopUpSplit) (h : a.Identity) : (a.toppedUp x).Identity := by
  simp only [Account.Identity, Account.toppedUp] at h ⊢
  push_cast
  omega

theorem granted_identity {a : Account} (amount : Nat) (h : a.Identity) : (a.granted amount).Identity := by
  simp only [Account.Identity, Account.granted] at h ⊢
  push_cast
  omega

theorem cleared_identity {a : Account} (h : a.Identity) : a.cleared.Identity := by
  simp only [Account.Identity, Account.cleared] at h ⊢
  omega

theorem energyCharge_sound (e : Nat) (shortfall : Bool) (u : Part) : u.Sound (u.energyCharge e shortfall) :=
  (putAccount_sound (chargedAccount_identity e shortfall)).trans (afterCharge_sound _ _)

theorem standingCharge_sound (c : Nat) (u : Part) : u.Sound (u.standingCharge c) :=
  .ite (fun _ => .refl u) fun _ => (putAccount_sound (standing_identity c)).trans (afterCharge_sound _ _)

end Part
end Sys2Proof.Machine
end

section
/-! Every operation of the blocks is sound: it keeps the identity of the account, the coils, the attention lines and
CODE_ATTACK. Block by block, in the order of the model. -/

namespace Sys2Proof.Machine

namespace Part

/-! ### Measurement -/

theorem chargeShortfall_sound (x : Window) (u : Part) : u.Sound (u.chargeShortfall x) := by
  unfold Part.chargeShortfall
  split
  · exact energyCharge_sound _ _ u
  · exact .refl u

theorem setDivergence_sound (n : Nat) (u : Part) : u.Sound (u.setDivergence n) :=
  (setCondition_sound (by decide) _ _).after (by rfl)

theorem windowConditions_sound (x : Window) (u : Part) : u.Sound (u.windowConditions x) :=
  (setCondition_sound (by decide) _ u).trans (setCondition_sound (by decide) _ _)

theorem openWindow_sound (u : Part) : u.Sound u.openWindow := .of_eq (by rfl)

theorem judgedClose_sound (u : Part) : u.Sound u.judgedClose := by
  unfold Part.judgedClose
  split
  · exact .refl u
  · exact (((chargeShortfall_sound _ u).trans (setDivergence_sound _ _)).trans (windowConditions_sound _ _)).trans
      (openWindow_sound _)

theorem unjudgedClose_sound (u : Part) : u.Sound u.unjudgedClose := by
  unfold Part.unjudgedClose
  split
  · exact .refl u
  · exact ((chargeShortfall_sound _ _).after (by rfl)).trans (windowConditions_sound _ _)

theorem enterPulseOnly_sound (u : Part) : u.Sound u.enterPulseOnly := by
  unfold Part.enterPulseOnly
  split
  · exact .refl u
  · exact (unjudgedClose_sound u).trans ((setCondition_sound (by decide) _ _).after (by rfl))

theorem countPulse_sound (u : Part) : u.Sound u.countPulse := by
  unfold Part.countPulse
  split
  · exact .refl u
  · exact .ite (fun _ => (judgedClose_sound _).after (by rfl)) fun _ => .of_eq (by rfl)

theorem validPulse_sound (width : Nat) (interval : Option Nat) (u : Part) : u.Sound (u.validPulse width interval) := by
  have counted : u.Sound (Part.countPulse { u with pulse := u.pulse.afterValid u.config.live.pulseWeight width interval }) :=
    (countPulse_sound _).after (by rfl)
  unfold Part.validPulse
  dsimp only
  split
  · exact counted.trans (energyCharge_sound _ _ _)
  · exact counted

theorem judgePulse_sound (c : RisingCapture) (u : Part) : u.Sound (u.judgePulse c) :=
  .ite (fun _ => validPulse_sound _ _ u) fun _ => .of_eq (by rfl)

theorem handPhases_sound (phases : PhaseSet) (neutral : Bool) (u : Part) : u.Sound (u.handPhases phases neutral) :=
  (setCondition_sound (by decide) _ _).after (by rfl)

theorem resumeReport_sound (phases : PhaseSet) (neutral : Bool) (u : Part) : u.Sound (u.resumeReport phases neutral) := by
  have handed : u.Sound (Part.handPhases phases neutral { u with recon := { u.recon with mode := .reported } }) :=
    (handPhases_sound _ _ _).after (by rfl)
  exact (handed.trans (.ite (fun _ => .refl _) fun _ => openWindow_sound _)).trans (setCondition_sound (by decide) _ _)

theorem countReport_sound (i e : Nat) (u : Part) : u.Sound (u.countReport i e) := .of_eq rfl

theorem chargeReport_sound (i e : Nat) (phases : PhaseSet) (neutral : Bool) (u : Part) :
    u.Sound (u.chargeReport i e phases neutral) :=
  ((energyCharge_sound i false u).trans (countReport_sound i e _)).trans
    (handPhases_sound _ _ _)

theorem acceptReport_sound (i e : Nat) (phases : PhaseSet) (neutral : Bool) (u : Part) :
    u.Sound (u.acceptReport i e phases neutral) := by
  unfold Part.acceptReport
  split
  · exact resumeReport_sound _ _ u
  · exact chargeReport_sound _ _ _ _ u

/-! ### Load limiter -/

theorem putLoad_sound (l : Load) (u : Part) : u.Sound (u.putLoad l) :=
  ((markDueIf_sound _ _).after (by rfl)).trans (handCauses_sound _ _)

theorem loadMidnight_sound (u : Part) : u.Sound u.loadMidnight := putLoad_sound _ u

theorem loadTrip_sound (i : Image) (u : Part) : u.Sound (u.loadTrip i) := by
  unfold Part.loadTrip
  dsimp only
  exact (((putLoad_sound _ u).trans (place_sound _ _)).trans (journal_sound _ _)).trans
    (.ite (fun _ => journal_sound _ _) fun _ => .refl _)

theorem setOverLimit_sound (n : Nat) (u : Part) : u.Sound (u.setOverLimit n) := .of_eq (by rfl)

theorem evaluateLoad_sound (u : Part) : u.Sound u.evaluateLoad := by
  have read : u.Sound { u.readEstimate with
      load := { u.readEstimate.load with nextEvaluation := u.readEstimate.timeBase + Config.seconds 1 } } := .of_eq (by rfl)
  unfold Part.evaluateLoad
  dsimp only
  split
  · exact read.trans (setOverLimit_sound _ _)
  · refine read.trans (.ite (fun _ => setOverLimit_sound _ _) fun _ => ?_)
    refine .ite (fun _ => setOverLimit_sound _ _) fun _ => ?_
    refine .ite (fun _ => ?_) fun _ => setOverLimit_sound _ _
    exact .ite (fun _ => loadTrip_sound _ _) fun _ => setOverLimit_sound _ _

/-! ### Code queue -/

theorem settleHead_sound (r : CodeResult) (c : Option DecodedCode) (x : Option (TopUpSplit × Int)) (u : Part) :
    u.Sound (u.settleHead r c x) := by
  unfold Part.settleHead
  split
  · exact .refl u
  · exact (placeOn_sound _ _ u).trans (.of_eq (by rfl))

theorem joinQueue_sound (e : CodeEntry) (u : Part) : u.Sound (u.joinQueue e) := .of_eq (by rfl)

theorem setHead_sound (h : HeadStage) (u : Part) : u.Sound (u.setHead h) := .of_eq (by rfl)

theorem markSerial_sound (s : Nat) (u : Part) : u.Sound (u.markSerial s) := (markDue_sound _).after (by rfl)

theorem endCommit_sound (stored : Bool) (u : Part) : u.Sound (u.endCommit stored) := by
  unfold Part.endCommit
  split
  · exact settleHead_sound _ _ _ u
  all_goals exact .refl u

theorem endActivating_sound (r : CodeResult) (u : Part) : u.Sound (u.endActivating r) := by
  unfold Part.endActivating
  split
  · exact settleHead_sound _ _ _ u
  all_goals exact .refl u

theorem spendActivating_sound (u : Part) : u.Sound u.spendActivating := by
  unfold Part.spendActivating
  split
  · exact (journal_sound _ _).after (by rfl)
  all_goals exact .refl u

theorem discardCodes_sound (u : Part) : u.Sound u.discardCodes := by
  unfold Part.discardCodes
  split
  all_goals exact .of_eq (by rfl)

/-! ### Tariff engine and clock -/

theorem walk_sound (u : Part) : u.Sound u.walk :=
  .ite (fun _ => .of_eq (by rfl)) fun _ => ((deriveQuietly_sound _).after (by rfl)).trans (recompute_sound _)

theorem clearMarker_sound (u : Part) : u.Sound u.clearMarker := (markDueIf_sound _ _).after (by rfl)

theorem writePending_sound (off : Nat) (bytes : List Byte) (u : Part) : u.Sound (u.writePending off bytes) := by
  rw [writePending_eq]
  exact ((clearMarker_sound _).after (by rfl)).trans (placeWhen_sound _ _ _)

theorem emptyPending_sound (u : Part) : u.Sound u.emptyPending := (clearMarker_sound _).after (by rfl)

theorem startActivation_sound (o : ActivationOrigin) (u : Part) : u.Sound (u.startActivation o) := by
  unfold Part.startActivation
  split
  · exact .refl u
  · exact (emptyPending_sound u).trans ((submitClass2_sound _ _).after (by rfl))

theorem schedule_sound (f : Nat) (u : Part) : u.Sound (u.schedule f) := (markDueIf_sound _ _).after (by rfl)

theorem dayCharge_sound (u : Part) : u.Sound u.dayCharge := by
  unfold Part.dayCharge
  split
  · exact standingCharge_sound _ u
  · exact .refl u

theorem closeDay_sound (day : Nat) (u : Part) : u.Sound (u.closeDay day) := (markDue_sound _).after (by rfl)

theorem finishMidnight_sound (m : Midnight) (u : Part) : u.Sound (u.finishMidnight m) := by
  have closed : u.Sound (if u.tariff.lastStandingDay < m.day then u.dayCharge.closeDay m.day else u) :=
    .ite (fun _ => (dayCharge_sound u).trans (closeDay_sound _ _)) fun _ => .refl u
  exact (closed.trans (requestCheckpoint_sound _ _)).trans (.ite (fun _ => loadMidnight_sound _) fun _ => .refl _)

theorem runMidnights_sound (l : List Midnight) (u : Part) : u.Sound (Part.runMidnights l u) := by
  induction l generalizing u with
  | nil => exact .of_eq (by rfl)
  | cons m rest ih =>
    exact .ite (fun _ => (startActivation_sound _ _).after (by rfl)) fun _ => (finishMidnight_sound m u).trans (ih _)

theorem midnightEvent_sound (m : Midnight) (u : Part) : u.Sound (u.midnightEvent m) := by
  unfold Part.midnightEvent
  split
  · exact .of_eq (by rfl)
  · exact runMidnights_sound _ u

theorem continueMidnight_sound (o : ActivationOrigin) (u : Part) : u.Sound (u.continueMidnight o) := by
  unfold Part.continueMidnight
  split
  · exact (finishMidnight_sound _ u).trans (runMidnights_sound _ _)
  · exact .refl u

theorem dayCharges_sound (n : Nat) (u : Part) : u.Sound (Part.dayCharges n u) := by
  induction n generalizing u with
  | zero => exact .refl u
  | succ n ih => exact (dayCharge_sound u).trans (ih _)

theorem catchUp_sound (u : Part) : u.Sound u.catchUp :=
  .ite (fun _ => (((dayCharges_sound _ u).trans (closeDay_sound _ _)).trans (requestCheckpoint_sound _ _)).trans
    (loadMidnight_sound _)) fun _ => .refl u

theorem switchBank_sound (a : Area) (stored : Bool) (u : Part) : u.Sound (u.switchBank a stored) :=
  (((deriveQuietly_sound _).after (by rfl)).trans (evaluateTamperQuietly_sound _)).trans (recompute_sound _)

theorem completeActivation_sound (stored : Bool) (u : Part) : u.Sound (u.completeActivation stored) := by
  unfold Part.completeActivation
  split
  · exact .refl u
  · exact ((((((markDueIf_sound _ u).trans (spendActivating_sound _)).trans (switchBank_sound _ _ _)).trans
      (journal_sound _ _)).trans (place_sound _ _)).trans (endActivating_sound _ _)).trans (continueMidnight_sound _ _)

theorem failActivation_sound (u : Part) : u.Sound u.failActivation := by
  unfold Part.failActivation
  split
  · exact .refl u
  · exact (((place_sound _ _).after (by rfl)).trans (endActivating_sound _ _)).trans (continueMidnight_sound _ _)

theorem minuteBoundary_sound (u : Part) : u.Sound u.minuteBoundary := by
  refine (walk_sound u).trans (.trans (v := { u.walk with tariff := { u.walk.tariff with
    dayBefore := dayOf u.clock.count } }) (.of_eq (by rfl)) ?_)
  exact .ite (fun _ => midnightEvent_sound _ _) fun _ => .refl _

theorem wrapClock_sound (u : Part) : u.Sound u.wrapClock :=
  .trans (v := { u with clock := { u.clock with count := 0, valid := false }, tariff := { u.tariff with dayBefore := 0 } })
    (.of_eq (by rfl)) (.ite (fun _ => walk_sound _) fun _ => .refl _)

theorem putClock_sound (count : Nat) (adjustment : Int) (u : Part) : u.Sound (u.putClock count adjustment) := .of_eq (by rfl)

theorem clockEvidence_sound (a b : Nat) (u : Part) : u.Sound (u.clockEvidence a b) :=
  .ite (fun _ => .refl u) fun _ => (journal_sound _ u).trans (place_sound _ _)

theorem setTimeUnclamped_sound (count : Nat) (u : Part) : u.Sound (u.setTimeUnclamped count) := by
  have put := (putClock_sound count 0 u).trans (clockEvidence_sound u.clock.count count _)
  exact (put.trans (.ite (fun _ => .refl _) fun _ => walk_sound _)).trans
    (.ite (fun _ => midnightEvent_sound _ _) fun _ => .refl _)

theorem setTimeClamped_sound (count : Nat) (u : Part) : u.Sound (u.setTimeClamped count) := by
  refine .ite (fun _ => .refl u) fun _ => ?_
  exact (((putClock_sound _ _ u).trans (clockEvidence_sound _ _ _)).trans (walk_sound _)).trans
    (.ite (fun _ => midnightEvent_sound _ _) fun _ => .refl _)

/-! ### Codes -/

theorem putRecord_sound_of_condition {c : TamperCause} {r : TamperRecord} {u : Part} (h : r.condition = u.condition c) :
    u.Sound (u.putRecord c r) := by
  by_cases hc : c = .codeAttack
  · exact putRecord_sound (.inr (hc ▸ h))
  · exact putRecord_sound (.inl hc)

theorem clearCause_sound (u : Part) (c : TamperCause) : u.Sound (u.clearCause c) := by
  unfold Part.clearCause
  split
  · exact putRecord_sound_of_condition rfl
  all_goals exact .refl u

/-- A fold of operations that are sound on the list's elements is sound. -/
theorem foldl_sound_mem {α : Type} {f : Part → α → Part} {l : List α} (h : ∀ (u : Part), ∀ x ∈ l, u.Sound (f u x))
    (u : Part) : u.Sound (l.foldl f u) := by
  induction l generalizing u with
  | nil => exact .refl u
  | cons x rest ih =>
    exact (h u x List.mem_cons_self).trans (ih (fun v y hy => h v y (List.mem_cons_of_mem _ hy)) _)

theorem foldl_sound {α : Type} {f : Part → α → Part} (h : ∀ (u : Part) (x : α), u.Sound (f u x)) (l : List α) (u : Part) :
    u.Sound (l.foldl f u) :=
  foldl_sound_mem (fun u x _ => h u x) u

theorem clearCauses_sound (l : List TamperCause) (u : Part) : u.Sound (u.clearCauses l) :=
  ((foldl_sound clearCause_sound l u).trans (.ite (fun _ => .refl _) fun _ => journal_sound _ _)).trans
    (evaluateTamper_sound _)

theorem applyTamperClear_sound (value : Nat) (u : Part) : u.Sound (u.applyTamperClear value) :=
  ((handAttack_sound _ u).trans (setDivergence_sound _ _)).trans (clearCauses_sound _ _)

theorem applyKeyRoll_sound (u : Part) : u.Sound u.applyKeyRoll := (markDue_sound _).after (by rfl)

theorem applySupplyOrder_sound (b : Bool) (u : Part) : u.Sound (u.applySupplyOrder b) :=
  ((markDueIf_sound _ _).after (by rfl)).trans (handCauses_sound _ _)

theorem applyCode_sound (c : DecodedCode) (u : Part) : u.Sound (u.applyCode c) := by
  have marked := markSerial_sound c.serial u
  unfold Part.applyCode
  split
  · exact (marked.trans (putAccount_sound (toppedUp_identity _))).trans (derive_sound _)
  · exact (marked.trans (putAccount_sound cleared_identity)).trans (derive_sound _)
  · exact marked.trans (putLoad_sound _ _)
  · exact marked.trans (putAccount_sound id)
  · exact marked.trans (putAccount_sound id)
  · exact marked.trans (applyTamperClear_sound _ _)
  · exact applyKeyRoll_sound u
  · exact marked.trans (applySupplyOrder_sound _ _)
  · exact marked.trans (schedule_sound _ _)
  · exact .refl u

theorem acceptCode_sound (c : DecodedCode) (p : Port) (u : Part) : u.Sound (u.acceptCode c p) :=
  .ite (fun _ => (setHead_sound _ u).trans (startActivation_sound _ _)) fun _ =>
    (((applyCode_sound c u).trans (setHead_sound _ _)).trans (requestCheckpoint_sound _ _)).trans (journal_sound _ _)

theorem enterFailure_sound (p : Port) (u : Part) : u.Sound (u.enterFailure p) := handAttack_sound _ u

theorem expireLockout_sound (p : Port) (u : Part) : u.Sound (u.expireLockout p) := handAttack_sound _ u

theorem refuseCode_sound (r : CodeResult) (c : Option DecodedCode) (p : Port) (u : Part) : u.Sound (u.refuseCode r c p) :=
  .trans (.ite (fun _ => enterFailure_sound p u) fun _ => .refl u) (settleHead_sound _ _ _ _)

theorem judgeCode_sound (slots : Vector KeySlot 4) (mid : Nat) (p : Port) (c : DecodedCode) (u : Part) :
    u.Sound (u.judgeCode slots mid p c) := by
  unfold Part.judgeCode
  split
  · exact refuseCode_sound _ _ _ u
  · split
    · exact refuseCode_sound _ _ _ u
    · exact acceptCode_sound _ _ u

theorem screenHead_sound (u : Part) : u.Sound u.screenHead := by
  unfold Part.screenHead
  split
  · split
    · exact refuseCode_sound _ _ _ u
    · exact judgeCode_sound _ _ _ _ u
  · exact .refl u

/-! ### Supply switch -/

/-- An operation takes new values outside PULSE. -/
theorem putOperation_sound {u : Part} (h : u.Unpulsed) (op : Operation) : u.Sound (u.putOperation op) where
  supplied := rfl
  ledger := id
  coils := fun c => CoilsOff.follow (u := u.putOperation op) (c.off h)
  attack := id
  lines := fun _ => id

theorem enterStage_sound {u : Part} (h : u.Unpulsed) (stage : Stage) (op : Operation) : u.Sound (u.enterStage stage op) :=
  putOperation_sound h _

/-- PULSE drives the coil of its direction. -/
theorem startPulse_sound (op : Operation) (u : Part) : u.Sound (u.startPulse op) where
  supplied := rfl
  ledger := id
  coils := fun _ => ⟨fun h => ⟨_, rfl, rfl, of_decide_eq_true h⟩, fun h => ⟨_, rfl, rfl, of_decide_eq_true h⟩⟩
  attack := id
  lines := fun _ => id

theorem startDelay_sound {u : Part} (h : u.Unpulsed) (synchronised : Bool) (op : Operation) :
    u.Sound (u.startDelay synchronised op) :=
  .ite (fun _ => startPulse_sound _ u) fun _ => enterStage_sound h _ _

theorem ready_sound (l : Link) (u : Part) : u.Sound (u.ready l) := by
  unfold Part.ready
  split
  · exact .refl u
  · rename_i op hop
    refine .ite (fun hs => ?_) fun _ => .refl u
    simp only [Bool.and_eq_true, decide_eq_true_eq] at hs
    have unpulsed : u.Unpulsed := unpulsed_of_stage hop (by simp [hs.1])
    exact .ite (fun _ => enterStage_sound unpulsed _ _) fun _ => putOperation_sound unpulsed _

theorem absentEntry_sound (op : Operation) (l : Link) (u : Part) : u.Sound (u.absentEntry op l) :=
  .ite (fun _ => journal_sound _ u) fun _ => .refl u

theorem absentEntry_relay (op : Operation) (l : Link) (u : Part) : (u.absentEntry op l).supply.relay = u.supply.relay := by
  unfold Part.absentEntry
  split <;> simp

theorem endHandshake_sound (u : Part) : u.Sound u.endHandshake := by
  unfold Part.endHandshake
  split
  · exact .refl u
  · rename_i op hop
    refine .ite (fun hs => ?_) fun _ => .refl u
    simp only [Bool.and_eq_true, decide_eq_true_eq] at hs
    refine ((absentEntry_sound op .m u).trans (absentEntry_sound op .k _)).trans (enterStage_sound ?_ _ _)
    exact unpulsed_of_stage (op := op) (by rw [absentEntry_relay, absentEntry_relay, hop]) (by simp [hs.1])

theorem endZxWait_sound (b : Bool) (u : Part) : u.Sound (u.endZxWait b) := by
  unfold Part.endZxWait
  split
  · exact .refl u
  · rename_i op hop
    refine .ite (fun hs => ?_) fun _ => .refl u
    simp only [Bool.and_eq_true, decide_eq_true_eq] at hs
    exact startDelay_sound (unpulsed_of_stage hop (by simp [hs.1])) _ _

theorem endDelay_sound (u : Part) : u.Sound u.endDelay := by
  unfold Part.endDelay
  split
  · exact .refl u
  · exact .ite (fun _ => startPulse_sound _ u) fun _ => .refl u

theorem endPulse_sound (u : Part) : u.Sound u.endPulse := by
  unfold Part.endPulse
  split
  · exact .refl u
  · exact .ite (fun _ => ⟨rfl, id, fun _ => CoilsOff.follow ⟨rfl, rfl⟩, id, fun _ => id⟩) fun _ => .refl u

theorem startBlanking_sound (u : Part) : u.Sound u.startBlanking :=
  .trans (.ite (fun _ => .refl u) fun _ => unjudgedClose_sound u) (.of_eq (by rfl))

theorem derive_coils (u : Part) : u.KeepsCoils u.derive := by
  have quiet : u.KeepsCoils u.deriveQuietly :=
    ⟨show u.deriveQuietly.derived.outputs.openCoil = u.derived.outputs.openCoil by rw [deriveQuietly_derived],
     show u.deriveQuietly.derived.outputs.closeCoil = u.derived.outputs.closeCoil by rw [deriveQuietly_derived],
     .inl (by simp [Part.deriveQuietly])⟩
  unfold Part.derive
  dsimp only
  split
  · exact quiet
  · exact quiet.trans (recompute_coils _)

theorem afterCharge_coils (c : Nat) (u : Part) : u.KeepsCoils (u.afterCharge c) := by
  refine (derive_coils u).trans ?_
  unfold Part.afterCharge
  dsimp only
  split
  · exact ⟨rfl, rfl, .inl rfl⟩
  · split
    · exact ⟨by simp, by simp, .inl (by simp)⟩
    · exact ⟨rfl, rfl, .inl rfl⟩

theorem chargeShortfall_coils (x : Window) (u : Part) : u.KeepsCoils (u.chargeShortfall x) := by
  unfold Part.chargeShortfall
  split
  · refine .trans ?_ (afterCharge_coils _ _)
    unfold Part.putAccount
    split <;> exact ⟨rfl, rfl, .inl rfl⟩
  · exact ⟨rfl, rfl, .inl rfl⟩

theorem unjudgedClose_coils (u : Part) : u.KeepsCoils u.unjudgedClose := by
  unfold Part.unjudgedClose
  split
  · exact ⟨rfl, rfl, .inl rfl⟩
  · rename_i x _
    refine .trans (.trans (v := { u with recon := { u.recon with window := none } }) ⟨rfl, rfl, .inl rfl⟩
      (chargeShortfall_coils x _)) ?_
    exact (setCondition_coils _ _ _).trans (setCondition_coils _ _ _)

/-- The charge of a closing window leaves an operation in progress as it is. -/
theorem startBlanking_relay {u : Part} {op : Operation} (h : u.supply.relay = .operating op) :
    u.startBlanking.supply.relay = .operating op := by
  show (if u.supply.blankingUntil.isSome then u else u.unjudgedClose).supply.relay = _
  split
  · exact h
  · rcases u.unjudgedClose_coils.relay with hr | ⟨st, hr⟩
    · exact hr.trans h
    · simp [h] at hr

theorem succeed_sound {u : Part} {op : Operation} (h : u.supply.relay = .operating op) (hs : op.stage = .settle) :
    u.Sound (u.succeed op) := by
  unfold Part.succeed
  dsimp only
  refine .trans (((place_sound _ u).trans (journal_sound _ _)).trans (startBlanking_sound _))
    (((settleRelay_sound (.inl ?_) _).trans (requestCheckpoint_sound _ _)).trans (recompute_sound _))
  exact unpulsed_of_stage (startBlanking_relay (by simpa using h)) (by simp [hs])

theorem fault_sound {u : Part} (h : u.Unpulsed) (op : Operation) : u.Sound (u.fault op) := by
  unfold Part.fault
  dsimp only
  exact (((((settleRelay_sound (.inl h) _).trans (.of_eq (by rfl))).trans (place_sound _ _)).trans (journal_sound _ _)).trans
    (requestCheckpoint_sound _ _)).trans (recompute_sound _)

theorem failAttempt_sound {u : Part} (h : u.Unpulsed) (op : Operation) : u.Sound (u.failAttempt op) := by
  refine .ite (fun _ => fault_sound h op) fun _ => ?_
  exact .ite (fun _ => enterStage_sound h _ _) fun _ => enterStage_sound h _ _

theorem endSettle_sound (u : Part) : u.Sound u.endSettle := by
  unfold Part.endSettle
  split
  · exact .refl u
  · rename_i op hop
    refine .ite (fun hs => ?_) fun _ => .refl u
    exact .ite (fun _ => succeed_sound hop hs) fun _ => failAttempt_sound (unpulsed_of_stage hop (by simp [hs])) op

theorem endBlanking_sound (u : Part) : u.Sound u.endBlanking := by
  refine .ite (fun _ => ?_) fun _ => .refl u
  dsimp only
  split
  · exact .trans (v := { u with supply := { u.supply with blankingUntil := none } }) (.of_eq (by rfl)) (openWindow_sound _)
  · exact .of_eq (by rfl)

theorem bypassArises_sound (u : Part) : u.Sound u.bypassArises :=
  .ite (fun _ => setCondition_sound (by decide) _ u) fun _ => .refl u

theorem bypassEnds_sound (u : Part) : u.Sound u.bypassEnds :=
  .ite (fun _ => setCondition_sound (by decide) _ u) fun _ => .refl u

theorem watchedForJump_settled {r : Relay} (h : r.watchedForJump = true) : r = .settled .closed := by
  cases r with
  | settled st => cases st <;> first | rfl | cases h
  | operating op => cases h

theorem jump_sound (u : Part) : u.Sound u.jump := by
  refine .ite (fun h => ?_) fun _ => .refl u
  simp only [Bool.and_eq_true] at h
  exact startOperation_sound (watchedForJump_settled h.2) _ _

theorem retry_sound (u : Part) : u.Sound u.retry := by
  unfold Part.retry
  split
  · rename_i hr _
    exact .ite (fun _ => startOperation_sound hr _ _) fun _ => .of_eq (by rfl)
  · exact .refl u

theorem whileActive_sound {f : Part → Part} (h : ∀ u : Part, u.Sound (f u)) (u : Part) : u.Sound (Part.whileActive f u) :=
  .ite (fun _ => h u) fun _ => .refl u

theorem unlessOvertaken_sound {f : Part → Part} (h : ∀ u : Part, u.Sound (f u)) (i : Instr) (u : Part) :
    u.Sound (Part.unlessOvertaken i f u) :=
  .ite (fun _ => .of_eq (by rfl)) fun _ => h u

end Part
end Sys2Proof.Machine
end

section
/-! The requests, the port controller and the store controller are sound, and so are PFW and the main start; what a stop leaves,
and that a resting part rests. Settles O18, O57 and O58. -/

namespace Sys2Proof.Machine

namespace Part

/-! ### Links and requests -/

theorem putLinkState_sound (l : Link) (st : LinkState) (u : Part) : u.Sound (u.putLinkState l st) := .of_eq (by rfl)

theorem loseLink_sound (l : Link) (u : Part) : u.Sound (u.loseLink l) := by
  cases l with
  | m => exact (putLinkState_sound .m .lost u).trans (enterPulseOnly_sound _)
  | k => exact (putLinkState_sound .k .lost u).trans (setCondition_sound (by decide) _ _)

theorem judgeLink_sound (l : Link) (u : Part) : u.Sound (u.judgeLink l) :=
  .trans (.ite (fun _ => putLinkState_sound l .suspect u) fun _ => .refl u)
    (.ite (fun _ => loseLink_sound _ _) fun _ => .refl _)

theorem judgeAfter_sound (item : ConfigItem) (u : Part) : u.Sound (u.judgeAfter item) := by
  cases item with
  | nm => exact judgeLink_sound _ u
  | nk => exact judgeLink_sound _ u
  | _ => exact .refl u

theorem putItem_sound (item : ConfigItem) (value : ConfigValue) (u : Part) : u.Sound (u.putItem item value) :=
  ((submitClass2_sound _ _).after (by rfl)).trans (judgeAfter_sound _ _)

theorem energyReport_sound (b : List Byte) (u : Part) : u.Sound (u.energyReport b).1 := by
  unfold Part.energyReport
  split
  · exact .refl u
  · exact acceptReport_sound _ _ _ _ u

theorem switchReady_sound (p : Port) (u : Part) : u.Sound (u.switchReady p).1 := by
  unfold Part.switchReady
  split
  · exact ready_sound _ u
  · exact .refl u

theorem submitCode_sound (p : Port) (b : List Byte) (u : Part) : u.Sound (u.submitCode p b).1 := by
  unfold Part.submitCode
  split
  · exact .refl u
  · split
    · exact .refl u
    · split
      · exact .refl u
      · exact joinQueue_sound _ u

theorem takeEc_sound (u : Part) : u.Sound u.takeEc.1 := by
  unfold Part.takeEc
  split
  · exact (putAccount_sound (granted_identity _)).trans (derive_sound _)
  · exact .refl u

/-- CONFIRM_RECONNECT has a reason in a settled relay alone (R104). -/
theorem settled_of_confirmReason {u : Part} {r : Reason} (h : u.confirmReason = some r) :
    ∃ st, u.supply.relay = .settled st := by
  unfold Part.confirmReason at h
  split at h
  case h_6 => cases h
  all_goals exact ⟨_, ‹_›⟩

theorem confirmReconnect_sound (u : Part) : u.Sound u.confirmReconnect.1 := by
  unfold Part.confirmReconnect
  split
  · rename_i r hr
    obtain ⟨st, hst⟩ := settled_of_confirmReason hr
    exact startOperation_sound hst _ _
  · exact .refl u

theorem tariffFinish_sound (u : Part) : u.Sound u.tariffFinish.1 := by
  unfold Part.tariffFinish
  split
  case h_4 => split <;> exact .of_eq (by rfl)
  all_goals exact .refl u

theorem setTime_sound (b : List Byte) (u : Part) : u.Sound (u.setTime b).1 := by
  unfold Part.setTime
  dsimp only
  split
  · exact setTimeClamped_sound _ u
  · exact setTimeUnclamped_sound _ u

theorem fetchNotice_sound (p : Port) (u : Part) : u.Sound (u.fetchNotice p).1 := by
  unfold Part.fetchNotice
  dsimp only
  split
  · exact putNotices_sound _ _ u
  · exact .refl u

theorem writeItem_sound (item : ConfigItem) (value : ConfigValue) (u : Part) : u.Sound (u.writeItem item value).1 := by
  unfold Part.writeItem
  split
  · exact .refl u
  · exact putItem_sound _ _ u

theorem configWrite_sound (b : List Byte) (u : Part) : u.Sound (u.configWrite b).1 := by
  unfold Part.configWrite
  split
  · exact .refl u
  · split
    · exact writeItem_sound _ _ u
    · exact .refl u

theorem loadKey_sound (b : List Byte) (u : Part) : u.Sound (u.loadKey b).1 := by
  unfold Part.loadKey
  split
  · exact .refl u
  · exact writeItem_sound _ _ u

theorem activateInitialBank_sound (u : Part) : u.Sound u.activateInitialBank.1 := by
  unfold Part.activateInitialBank
  split
  · exact startActivation_sound _ u
  · exact .refl u

theorem relayTest_sound (b : List Byte) (u : Part) : u.Sound (u.relayTest b).1 := by
  unfold Part.relayTest
  split
  · exact .refl u
  · split
    · exact .refl u
    · rename_i hop
      cases hr : u.supply.relay with
      | settled st => exact startOperation_sound hr _ _
      | operating op => simp [hr, Relay.isOperating] at hop

theorem enterService_sound (u : Part) : u.Sound u.enterService.1 := by
  unfold Part.enterService
  split
  · exact ((markDue_sound _).after (by rfl)).trans (requestCheckpoint_sound _ _)
  · exact .refl u

theorem readRegisters_part (b : List Byte) (u : Part) : (u.readRegisters b).1 = u := by
  unfold Part.readRegisters
  split <;> rfl

theorem tariffWrite_sound (b : List Byte) (u : Part) : u.Sound (u.tariffWrite b).1 := by
  unfold Part.tariffWrite
  split
  · exact writePending_sound _ _ u
  · exact .refl u

theorem effect_sound (k : ReqKind) (p : Port) (b : List Byte) (u : Part) : u.Sound (k.effect p b u).1 := by
  cases k with
  | energyReport => exact energyReport_sound b u
  | switchReady => exact switchReady_sound p u
  | submitCode => exact submitCode_sound p b u
  | takeEc => exact takeEc_sound u
  | confirmReconnect => exact confirmReconnect_sound u
  | readDisplay => exact .of_eq (by rfl)
  | readState => exact .refl u
  | readRegisters => exact (readRegisters_part b u).symm ▸ .refl u
  | tariffWrite => exact tariffWrite_sound b u
  | tariffFinish => exact tariffFinish_sound u
  | tariffDiscard => exact emptyPending_sound u
  | tariffRead =>
    show u.Sound (u.tariffRead b).1
    rw [tariffRead_eq]
    exact .refl u
  | setTime => exact setTime_sound b u
  | readJournal => exact .refl u
  | fetchNotice => exact fetchNotice_sound p u
  | noticeDone => exact putNotices_sound _ _ u
  | configWrite => exact configWrite_sound b u
  | loadKey => exact loadKey_sound b u
  | activateInitialBank => exact activateInitialBank_sound u
  | relayTest => exact relayTest_sound b u
  | enterService => exact enterService_sound u

theorem perform_sound (kind : Byte) (p : Port) (b : List Byte) (u : Part) : u.Sound (u.perform kind p b).1 := by
  unfold Part.perform
  split
  · exact .refl u
  · split
    · split
      · exact effect_sound _ p b u
      · exact .refl u
    · exact .refl u

/-! ### Ports -/

theorem setReceive_sound (p : Port) (st : Receive) (u : Part) : u.Sound (u.setReceive p st) := .of_eq (by rfl)

theorem hear_sound (p : Port) (st : Receive) (u : Part) : u.Sound (u.hear p st) := .of_eq (by rfl)

theorem linkUp_sound (p : Port) (u : Part) : u.Sound (u.linkUp p) := by
  cases p with
  | s => exact .refl u
  | m => exact .of_eq (by rfl)
  | k =>
    exact .trans (v := u.restartLink .k) (.of_eq (by rfl)) (.ite (fun _ => setCondition_sound (by decide) _ _) fun _ => .refl _)

theorem takeFrame_sound (p : Port) (kind : Byte) (b : List Byte) (u : Part) : u.Sound (u.takeFrame p kind b) :=
  (((setReceive_sound p _ u).trans (linkUp_sound p _)).trans (perform_sound kind p b _)).trans (setReceive_sound _ _ _)

theorem frameError_sound (p : Port) (u : Part) : u.Sound (u.frameError p) := setReceive_sound _ _ _

theorem takeChecked_sound (p : Port) (kind : Byte) (b : List Byte) (u : Part) : u.Sound (u.takeChecked p kind b) :=
  .ite (fun _ => frameError_sound p u) fun _ => takeFrame_sound p kind b u

theorem judgeFrame_sound (p : Port) (length : Byte) (kept : List Byte) (first second : Byte) (u : Part) :
    u.Sound (u.judgeFrame p length kept first second) := by
  unfold Part.judgeFrame
  split
  · exact frameError_sound p u
  · exact .ite (fun _ => takeChecked_sound _ _ _ u) fun _ => frameError_sound p u

theorem receiveGood_sound (p : Port) (c : Byte) (u : Part) : u.Sound (u.receiveGood p c) := by
  unfold Part.receiveGood
  split
  case h_1 => exact .refl u
  case h_2 => exact .refl u
  case h_7 => exact (hear_sound _ _ u).trans (judgeFrame_sound _ _ _ _ _ _)
  all_goals exact hear_sound _ _ u

theorem receiveBad_sound (p : Port) (u : Part) : u.Sound (u.receiveBad p) := by
  unfold Part.receiveBad
  split
  case h_1 => exact .refl u
  case h_2 => exact .refl u
  all_goals exact hear_sound _ _ u

theorem receive_sound (p : Port) (c : Byte) (b : Bool) (u : Part) : u.Sound (u.receive p c b) :=
  .ite (fun _ => receiveBad_sound p u) fun _ => receiveGood_sound p c u

theorem receiveSilence_sound (p : Port) (u : Part) : u.Sound (u.receiveSilence p) := by
  unfold Part.receiveSilence
  split
  all_goals first
    | exact .refl u
    | exact setReceive_sound _ _ u

theorem endResponse_sound (p : Port) (u : Part) : u.Sound (u.endResponse p) := by
  unfold Part.endResponse
  split
  · exact setReceive_sound _ _ u
  all_goals exact .refl u

theorem receiveAll_sound (p : Port) (l : List Byte) (u : Part) : u.Sound (u.receiveAll p l) :=
  foldl_sound (fun v c => receiveGood_sound p c v) l u

theorem frameArrives_sound (p : Port) (kind : Byte) (b : List Byte) (u : Part) : u.Sound (u.frameArrives p kind b) := by
  unfold Part.frameArrives
  split
  · exact .ite (fun _ => (hear_sound _ _ u).trans (takeChecked_sound _ _ _ _)) fun _ => receiveAll_sound _ _ u
  all_goals first
    | exact .refl u
    | exact receiveAll_sound _ _ u

theorem suspectLink_sound (l : Link) (u : Part) : u.Sound (u.suspectLink l) :=
  .ite (fun _ => putLinkState_sound _ _ u) fun _ => .refl u

theorem linkExpires_sound (l : Link) (u : Part) : u.Sound (u.linkExpires l) :=
  .ite (fun _ => loseLink_sound _ u) fun _ => .refl u

theorem assertReset_sound (p : Port) (u : Part) : u.Sound (u.assertReset p) :=
  .trans (v := u.setResetInput p true) (.of_eq (by rfl))
    (.ite (fun _ => (setReceive_sound _ _ _).trans (putNotices_sound _ _ _)) fun _ => .refl _)

theorem releaseReset_sound (p : Port) (u : Part) : u.Sound (u.releaseReset p) := by
  have released : u.Sound (u.setResetInput p false) := .of_eq (by rfl)
  unfold Part.releaseReset
  dsimp only
  split
  · exact released.trans (setReceive_sound _ _ _)
  all_goals exact released

/-! ### Store controller -/

/-- The record being written, if any, keeps the identity. -/
def FlightIdentity (a : Option Attempt) : Prop :=
  ∀ c : CheckpointAttempt, a = some (.checkpoint c) → c.record.account.Identity

/-- The attempt in flight takes a value whose record keeps the identity. -/
theorem putInFlight_sound {u : Part} {a : Option Attempt} (h : u.Ledger → FlightIdentity a) : u.Sound (u.putInFlight a) where
  supplied := rfl
  ledger := fun l => ⟨l.1, l.2.1, h l⟩
  coils := id
  attack := id
  lines := fun _ => id

theorem endAttempt_sound (u : Part) : u.Sound u.endAttempt :=
  (putInFlight_sound (a := none) fun _ _ h => by cases h).trans (startNext_sound _)

theorem setFailureRun_sound (n : Nat) (u : Part) : u.Sound (u.setFailureRun n) := .of_eq (by rfl)

theorem noteFailure_sound (u : Part) : u.Sound u.noteFailure :=
  (setFailureRun_sound _ u).trans (.ite (fun _ => setCondition_sound (by decide) _ _) fun _ => .refl _)

theorem reportCheckpoint_sound (c : CheckpointAttempt) (b : Bool) (u : Part) : u.Sound (u.reportCheckpoint c b) :=
  .trans (.ite (fun _ => endCommit_sound b u) fun _ => .refl u)
    (.ite (fun _ => completeActivation_sound _ _) fun _ => .refl _)

/-- A slot of the log takes a record that keeps the identity. -/
theorem putLog_sound {u : Part} {slot : Nat} {x : Slot CheckpointRecord}
    (h : u.Ledger → ∀ r, x = .valid r → r.account.Identity) (due : Bool) :
    u.Sound { u with array := u.array.setLog slot x, checkpointDue := due } where
  supplied := rfl
  ledger := by
    intro l
    refine ⟨l.1, fun r hr => ?_, l.2.2⟩
    cases x with
    | blank =>
      have hr' : Slot.valid r ∈ (u.array.log.setIfInBounds slot .blank).toList := hr
      rw [Vector.toList_setIfInBounds] at hr'
      rcases List.mem_or_eq_of_mem_set hr' with k | k
      · exact l.2.1 r k
      · cases k
    | invalid => exact l.2.1 r (mem_setLog_invalid hr)
    | valid y =>
      rcases mem_setLog_valid hr with k | rfl
      · exact l.2.1 r k
      · exact h l r rfl
  coils := id
  attack := id
  lines := fun _ => id

theorem noteCarried_sound (named : Option Area) (u : Part) : u.Sound (u.noteCarried named) := .of_eq rfl

theorem checkpointStored_sound {u : Part} {c : CheckpointAttempt} (h : u.store.inFlight = some (.checkpoint c)) :
    u.Sound (u.checkpointStored c) := by
  have stored := putLog_sound (u := u) (slot := c.slot) (x := .valid c.record)
    (fun l r hr => by cases hr; exact l.2.2 c h) c.changedSince
  exact ((((stored.trans (setFailureRun_sound 0 _)).trans (setCondition_sound (c := .storeFault) (by decide) _ _)).trans
    (noteCarried_sound _ _)).trans (reportCheckpoint_sound _ _ _)).trans
    (endAttempt_sound _)

theorem retryCheckpoint_sound {u : Part} {c : CheckpointAttempt} (h : u.store.inFlight = some (.checkpoint c)) :
    u.Sound (u.retryCheckpoint c) where
  supplied := rfl
  ledger := by
    rintro ⟨live, log, flight⟩
    refine ⟨live, fun r hr => log r ?_, fun d hd => ?_⟩
    · unfold Part.retryCheckpoint at hr
      dsimp only at hr
      split at hr
      · exact hr
      · exact mem_setLog_invalid hr
    · cases hd
      exact flight c h
  coils := id
  attack := id
  lines := fun _ => id

theorem checkpointLost_sound (c : CheckpointAttempt) (u : Part) : u.Sound (u.checkpointLost c) :=
  (((journal_sound _ u).trans (noteFailure_sound _)).trans (reportCheckpoint_sound _ _ _)).trans (endAttempt_sound _)

theorem checkpointEnds_sound (b : Bool) (u : Part) : u.Sound (u.checkpointEnds b) := by
  unfold Part.checkpointEnds
  split
  · rename_i c hc
    refine .ite (fun _ => checkpointStored_sound hc) fun _ => ?_
    exact .ite (fun _ => checkpointLost_sound c u) fun _ => (retryCheckpoint_sound hc).trans (noteFailure_sound _)
  all_goals exact .refl u

theorem putArea_sound (a : Area) (x : AreaContents) (u : Part) : u.Sound (u.putArea a x) := by
  cases a
  · exact .of_eq (by rfl)
  · exact .of_eq (by rfl)

theorem faultEntry_sound (a b : Nat) (u : Part) : u.Sound (u.faultEntry a b) := journal_sound _ u

theorem endBankWrite_sound (a : Area) (i : Image) (retry readBack : Bool) (u : Part) :
    u.Sound (u.endBankWrite a i retry readBack) := by
  refine .ite (fun _ => ?_) fun _ => (putArea_sound a .damaged u).trans (.ite (fun _ => ?_) fun _ => ?_)
  · exact (((putArea_sound a _ u).trans (setFailureRun_sound _ _)).trans ((requestCheckpoint_sound _ _).after (by rfl))).trans
      (endAttempt_sound _)
  · exact (((faultEntry_sound _ _ _).trans (noteFailure_sound _)).trans
      (.ite (fun _ => failActivation_sound _) fun _ => .refl _)).trans (endAttempt_sound _)
  · exact .ite (fun _ => (putInFlight_sound fun _ _ h => by cases h).trans (noteFailure_sound _)) fun _ =>
      (noteFailure_sound _).trans (endAttempt_sound _)

theorem bankEnds_sound (b : Bool) (u : Part) : u.Sound (u.bankEnds b) := by
  unfold Part.bankEnds
  split
  · exact endBankWrite_sound _ _ _ _ u
  all_goals exact .refl u

theorem itemStored_sound (item : ConfigItem) (value : ConfigValue) (u : Part) : u.Sound (u.itemStored item value) := .of_eq (by rfl)

theorem configEnds_sound (b : Bool) (u : Part) : u.Sound (u.configEnds b) := by
  unfold Part.configEnds
  split
  · refine .ite (fun _ => ?_) fun _ => .ite (fun _ => ?_) fun _ => ?_
    · exact ((itemStored_sound _ _ u).trans (setFailureRun_sound _ _)).trans (endAttempt_sound _)
    · exact ((faultEntry_sound _ _ u).trans (noteFailure_sound _)).trans (endAttempt_sound _)
    · exact (putInFlight_sound fun _ _ h => by cases h).trans (noteFailure_sound _)
  all_goals exact .refl u

theorem entryStored_sound (e : JournalEntry) (slot : Nat) (u : Part) : u.Sound (u.entryStored e slot) :=
  .trans (v := Part.setFailureRun 0 { u with array := u.array.setJournal slot (.valid e) }) (.of_eq (by rfl))
    (.trans (.ite (fun _ => .refl _) fun _ => place_sound _ _) (endAttempt_sound _))

theorem journalEnds_sound (b : Bool) (u : Part) : u.Sound (u.journalEnds b) := by
  unfold Part.journalEnds
  split
  · refine .ite (fun _ => entryStored_sound _ _ u) fun _ => .ite (fun _ => ?_) fun _ => ?_
    · exact ((faultEntry_sound _ _ u).trans (noteFailure_sound _)).trans (endAttempt_sound _)
    · exact (putInFlight_sound fun _ _ h => by cases h).trans (noteFailure_sound _)
  all_goals exact .refl u

theorem requestIfDue_sound (r : CheckpointReason) (u : Part) : u.Sound (u.requestIfDue r) :=
  .ite (fun _ => requestCheckpoint_sound r u) fun _ => .refl u

theorem startHourly_sound (u : Part) : u.Sound u.startHourly := .of_eq (by rfl)

theorem hourly_sound (u : Part) : u.Sound u.hourly :=
  .ite (fun _ => (startHourly_sound u).trans (requestIfDue_sound _ _)) fun _ => .refl u

/-! ### Inputs, pulses and timers -/

theorem epRises_sound (u : Part) : u.Sound u.epRises :=
  .trans (v := u.setEp true) (.of_eq (by rfl)) (.ite (fun _ => .of_eq (by rfl)) fun _ => .refl _)

theorem epFalls_sound (u : Part) : u.Sound u.epFalls := by
  have fallen : u.Sound (u.setEp false) := .of_eq (by rfl)
  unfold Part.epFalls
  dsimp only
  split
  · exact fallen.trans (.ite (fun _ => judgePulse_sound _ _) fun _ => .refl _)
  · exact fallen

theorem wrapCounter_sound (u : Part) : u.Sound u.wrapCounter := .ite (fun _ => .of_eq (by rfl)) fun _ => .refl u

theorem windowExpires_sound (u : Part) : u.Sound u.windowExpires :=
  .ite (fun _ => judgedClose_sound u) fun _ => .refl u

theorem minuteDue_sound (u : Part) : u.Sound u.minuteDue := .ite (fun _ => minuteBoundary_sound u) fun _ => .refl u

theorem screeningDue_sound (u : Part) : u.Sound u.screeningDue := .ite (fun _ => screenHead_sound u) fun _ => .refl u

theorem evaluationDue_sound (u : Part) : u.Sound u.evaluationDue :=
  .ite (fun _ => evaluateLoad_sound u) fun _ => .refl u

theorem lockoutExpires_sound (u : Part) : u.Sound u.lockoutExpires := .ite (fun _ => putLoad_sound _ u) fun _ => .refl u

theorem tripAges_sound (u : Part) : u.Sound u.tripAges := .of_eq (by rfl)

theorem coverCause_ne_attack (k : Cover) : coverCause k ≠ .codeAttack := by cases k <;> decide

theorem coverChanges_sound (k : Cover) (b : Bool) (u : Part) : u.Sound (u.coverChanges k b) :=
  (setCondition_sound (coverCause_ne_attack k) b _).after (by rfl)

theorem magnetChanges_sound (b : Bool) (u : Part) : u.Sound (u.magnetChanges b) :=
  .trans (v := { u with inputs := { u.inputs with magneticField := b } }) (.of_eq (by rfl))
    (.ite (fun _ => setCondition_sound (by decide) _ _) fun _ => .refl _)

/-- CODE_ATTACK without debounce is never PENDING between two events; were it so, its condition would stand. -/
theorem becomePresent_shared (c : TamperCause) (u : Part) : u.Shared (u.becomePresent c) := by
  refine ⟨becomePresent_keeps c u, becomePresent_lines c u, becomePresent_coils c u, by simp, ?_⟩
  by_cases hc : c = .codeAttack
  · subst hc
    unfold Part.condition
    rw [becomePresent_self (by decide)]
    rfl
  · exact condition_of_record (becomePresent_other (by decide) (Ne.symm hc) u)

theorem becomeAbsent_shared (c : TamperCause) (u : Part) : u.Shared (u.becomeAbsent c) := by
  refine ⟨becomeAbsent_keeps c u, becomeAbsent_lines c u, .of_core (by simp) (.inl ?_), by simp, ?_⟩
  · simp [Part.becomeAbsent]
  · by_cases hc : c = .codeAttack
    · subst hc
      unfold Part.condition
      rw [becomeAbsent_self]
    · exact condition_of_record (becomeAbsent_other (Ne.symm hc) u)

theorem debounceExpires_sound (c : TamperCause) (u : Part) : u.Sound (u.debounceExpires c) := by
  unfold Part.debounceExpires
  dsimp only
  split
  · exact .ite (fun _ => (becomePresent_shared c u).sound) fun _ => .refl u
  all_goals exact .refl u

theorem releaseExpires_sound (c : TamperCause) (u : Part) : u.Sound (u.releaseExpires c) := by
  unfold Part.releaseExpires
  dsimp only
  split
  · exact .ite (fun _ => (becomeAbsent_shared c u).sound) fun _ => .refl u
  all_goals exact .refl u

/-! ### PFW -/

theorem stopReceiving_sound (u : Part) : u.Sound u.stopReceiving := .of_eq (by rfl)

theorem dropPending_sound (u : Part) (c : TamperCause) : u.Sound (u.dropPending c) := by
  unfold Part.dropPending
  split
  · exact putRecord_sound_of_condition rfl
  all_goals exact .refl u

theorem powerFails_sound (u : Part) : u.Sound u.powerFails := by
  refine .ite (fun hr => ?_) fun _ => .refl u
  have on : u.mainOn = true := by
    rw [running_iff] at hr
    simp [hr]
  have failing : u.Sound { u with power := .failing, tariff := u.tariff.losePending } := .of_eq (by simp only [stake, on]; rfl)
  have discarded := (failing.trans (stopReceiving_sound _)).trans (discardCodes_sound _)
  have stored : u.Sound (Part.storeAtPfw _) := discarded.trans (.of_eq (by rfl))
  have closed := stored.trans (unjudgedClose_sound _)
  have dropped : u.Sound (Part.dropCapture _) := closed.trans (.of_eq (by rfl))
  exact (dropped.trans (foldl_sound dropPending_sound _ _)).trans (requestCheckpoint_sound _ _)


/-! ### Main start -/

theorem mem_of_greatestBy {α : Type} {key : α → Nat} {l : List (Nat × α)} {x : Nat × α}
    (h : greatestBy key l = some x) : x ∈ l := by
  induction l generalizing x with
  | nil => cases h
  | cons y rest ih =>
    unfold greatestBy at h
    split at h
    · cases h
      exact List.mem_cons_self
    · rename_i z hz
      split at h
      · cases h
        exact List.mem_cons_of_mem _ (ih hz)
      · cases h
        exact List.mem_cons_self

theorem mem_of_validSlots {α : Type} {l : List (Slot α)} {k n : Nat} {x : α} (h : (n, x) ∈ validSlots k l) :
    Slot.valid x ∈ l := by
  induction l generalizing k with
  | nil => cases h
  | cons y rest ih =>
    cases y with
    | valid z =>
      rcases List.mem_cons.mp h with e | e
      · cases e
        exact List.mem_cons_self
      · exact List.mem_cons_of_mem _ (ih e)
    | blank => exact List.mem_cons_of_mem _ (ih h)
    | invalid => exact List.mem_cons_of_mem _ (ih h)

/-- The newest valid checkpoint stands in the log. -/
theorem mem_of_newestCheckpoint {v : NvArray} {n : Nat} {r : CheckpointRecord} (h : v.newestCheckpoint = some (n, r)) :
    Slot.valid r ∈ v.log.toList :=
  mem_of_validSlots (mem_of_greatestBy h)

theorem newPart_identity : Account.newPart.Identity := by
  simp [Account.Identity, Account.newPart]

theorem newRetention_sound (u : Part) (mark : Bool) : u.Sound { u.newRetention with lostMark := mark } where
  supplied := rfl
  ledger := fun ⟨_, log, flight⟩ => ⟨newPart_identity, log, flight⟩
  coils := id
  attack := fun _ => rfl
  lines := fun _ => id

/-- A restored record has no condition, and new retention items no lockout (R146, R163). -/
theorem restore_sound {u : Part} {n : Nat} {r : CheckpointRecord} (h : u.array.newestCheckpoint = some (n, r)) (mark : Bool) :
    u.Sound (Part.restore r { u.newRetention with lostMark := mark }) where
  supplied := rfl
  ledger := fun ⟨_, log, flight⟩ => ⟨log r (mem_of_newestCheckpoint h), log, flight⟩
  coils := id
  attack := fun _ => by
    show (Vector.get (r.tamper.map CarriedTamper.restored) _).condition = false
    simp [Vector.get, CarriedTamper.restored]
  lines := fun _ => id

theorem recoveryEvidence_sound (r : Option CheckpointRecord) (u : Part) : u.Sound (u.recoveryEvidence r) :=
  ((journal_sound _ u).trans (setCondition_sound (by decide) _ _)).trans (setCondition_sound (by decide) _ _)

theorem readSwitches_sound (u : Part) : u.Sound u.readSwitches :=
  ((setCondition_sound (by decide) _ u).trans (setCondition_sound (by decide) _ _)).trans
    (setCondition_sound (by decide) _ _)

theorem recover_sound (u : Part) : u.Sound u.recover := by
  refine .trans (.ite (fun _ => newRetention_sound u false) fun _ => ?_) (readSwitches_sound _)
  split
  · rename_i n r hr
    exact (restore_sound (u := u) hr false).trans (recoveryEvidence_sound _ _)
  · exact (newRetention_sound u false).trans (recoveryEvidence_sound _ _)

theorem journal_coils (d : JournalDetail) (u : Part) : u.KeepsCoils (u.journal d) := ⟨by simp, by simp, .inl (by simp)⟩

theorem retentionLost_coils (u : Part) : u.KeepsCoils u.retentionLost :=
  (setCondition_coils _ _ u).trans (setCondition_coils _ _ _)

theorem recoveryEvidence_coils (r : Option CheckpointRecord) (u : Part) : u.KeepsCoils (u.recoveryEvidence r) := by
  unfold Part.recoveryEvidence
  exact (journal_coils _ u).trans (retentionLost_coils _)

theorem recover_coils (u : Part) : u.KeepsCoils u.recover := by
  have renewed : u.KeepsCoils { u.newRetention with lostMark := false } := ⟨rfl, rfl, .inl rfl⟩
  have restored : ∀ r, u.KeepsCoils (Part.restore r { u.newRetention with lostMark := false }) := fun _ =>
    ⟨rfl, rfl, .inl rfl⟩
  have switches : ∀ v : Part, v.KeepsCoils v.readSwitches := fun v =>
    ((setCondition_coils _ _ v).trans (setCondition_coils _ _ _)).trans (setCondition_coils _ _ _)
  unfold Part.recover
  dsimp only
  split
  · exact renewed.trans (switches _)
  · split
    · exact ((restored _).trans (recoveryEvidence_coils _ _)).trans (switches _)
    · exact (renewed.trans (recoveryEvidence_coils _ _)).trans (switches _)

theorem readConfig_sound (u : Part) : u.Sound u.readConfig := .of_eq (by rfl)

theorem scanLog_sound (u : Part) : u.Sound u.scanLog := by
  unfold Part.scanLog
  split <;> exact .of_eq (by rfl)

theorem scanLog_coils (u : Part) : u.KeepsCoils u.scanLog := by
  unfold Part.scanLog
  split <;> exact ⟨rfl, rfl, .inl rfl⟩

theorem scanJournal_sound (u : Part) : u.Sound u.scanJournal := by
  unfold Part.scanJournal
  split <;> exact .of_eq (by rfl)

theorem scanJournal_coils (u : Part) : u.KeepsCoils u.scanJournal := by
  unfold Part.scanJournal
  split <;> exact ⟨rfl, rfl, .inl rfl⟩

theorem resolveRelay_sound {u : Part} (h : u.CoilsOff) : u.Sound u.resolveRelay :=
  (settleRelay_sound (.inr h) _).trans (.of_eq (by rfl))

theorem flushBuffer_sound (u : Part) : u.Sound u.flushBuffer :=
  .trans (foldl_sound (fun v _ => submitJournal_sound _ v) _ u) (.of_eq (by rfl))

theorem startPorts_sound (u : Part) : u.Sound u.startPorts where
  supplied := rfl
  ledger := id
  coils := id
  attack := id
  lines := fun _ _ p => by cases p <;> exact (Bool.and_false _).symm

theorem loseSchedule_sound (u : Part) : u.Sound u.loseSchedule := by
  unfold Part.loseSchedule
  split
  · exact (clearMarker_sound u).trans (place_sound _ _)
  · exact .refl u

theorem startTariff_sound (u : Part) : u.Sound u.startTariff :=
  .trans (v := { u.loseSchedule.walkQuietly with tariff := { u.loseSchedule.walkQuietly.tariff with
    dayBefore := dayOf u.loseSchedule.walkQuietly.clock.count } })
    ((loseSchedule_sound u).trans (.of_eq (by rfl))) (catchUp_sound _)

theorem raiseFromBattery_sound (u : Part) (c : TamperCause) : u.Sound (u.raiseFromBattery c) :=
  .ite (fun _ => (putRecord_sound_of_condition (r := { u.tamperRecord c with raisedOnBattery := false }) rfl).trans
    (placeUnless_sound _ _ _)) fun _ => .refl u

theorem readMagnetic_sound (u : Part) : u.Sound u.readMagnetic :=
  .ite (fun _ => conditionArises_sound (by decide) u) fun _ => conditionEnds_sound (by decide) u

theorem tamperAtMainStart_sound (u : Part) : u.Sound u.tamperAtMainStart := by
  have notAttack : ∀ c ∈ mainDomainCauses, c ≠ .codeAttack := by decide
  exact ((foldl_sound_mem (fun v c hc => setCondition_sound (notAttack c hc) false v) u).trans (readMagnetic_sound _)).trans
    (foldl_sound raiseFromBattery_sound _ _)

theorem startBlocks_sound (u : Part) : u.Sound u.startBlocks :=
  ((((startPorts_sound u).trans (openWindow_sound _)).trans (startTariff_sound _)).trans (deriveQuietly_sound _)).trans
    (tamperAtMainStart_sound _)

theorem decideAtStart_sound {u : Part} (h : u.mainOn = true) : u.Sound u.decideAtStart :=
  (recompute_sound _).after (by simp only [stake, h]; rfl)

theorem startSequence_sound {u : Part} (h : u.CoilsOff) (on : u.mainOn = true) : u.Sound u.startSequence := by
  have before := (((resolveRelay_sound h).trans (flushBuffer_sound _)).trans (requestIfDue_sound .mainStart _)).trans
    (startBlocks_sound _)
  exact ((before.trans (decideAtStart_sound (before.supplied.trans on))).trans (requestIfDue_sound _ _)).trans
    (startHourly_sound _)

/-- The main domain as its supply is established, from whatever a stop has left: no coil is driven, no notice stands. -/
theorem mainValues_coilsOff (u : Part) : u.mainValues.CoilsOff := ⟨rfl, rfl⟩

theorem mainValues_on (u : Part) : u.mainValues.mainOn = true := rfl

theorem mainValues_lines (u : Part) : u.mainValues.LinesFollowNotices := fun p => by
  cases p <;> exact (Bool.and_false _).symm

theorem mainValues_ledger {u : Part} (h : u.Ledger) : u.mainValues.Ledger :=
  ⟨h.1, h.2.1, fun _ hc => by cases hc⟩

/-- The recovery of a part that carries the lost mark, and nothing of one that does not (R163). -/
theorem recoverIfLost_sound (u : Part) : u.Sound (if u.lostMark then u.recover else u) :=
  .ite (fun _ => recover_sound u) fun _ => .refl u

theorem recoverIfLost_coils (u : Part) : u.KeepsCoils (if u.lostMark then u.recover else u) := by
  split
  · exact recover_coils u
  · exact ⟨rfl, rfl, .inl rfl⟩

/-- The main start from its values on is sound. -/
theorem startMain_sound (u : Part) : (u.stopMain false).mainValues.Sound u.startMain := by
  have off := mainValues_coilsOff (u.stopMain false)
  have on := mainValues_on (u.stopMain false)
  have unfolded : u.startMain = Part.startSequence (Part.readConfig
      (if (u.stopMain false).mainValues.scanLog.scanJournal.lostMark then
        (u.stopMain false).mainValues.scanLog.scanJournal.recover
      else (u.stopMain false).mainValues.scanLog.scanJournal)) := rfl
  rw [unfolded]
  generalize (u.stopMain false).mainValues = w at off on ⊢
  have read := (((scanLog_sound w).trans (scanJournal_sound _)).trans (recoverIfLost_sound _)).trans (readConfig_sound _)
  have readOff := (((scanLog_coils w).trans (scanJournal_coils _)).trans (recoverIfLost_coils _)).off off
  exact read.trans (startSequence_sound readOff (read.supplied.trans on))

/-! ### The stop of the main domain -/

theorem cutWrite_ledger {u : Part} (h : u.Ledger) (whole : Bool) : (u.cutWrite whole).Ledger := by
  unfold Part.cutWrite
  split
  case h_2 c hc =>
    split
    · have stored := putLog_sound (u := u) (slot := c.slot) (x := .valid c.record)
        (fun l r hr => by cases hr; exact l.2.2 c hc) u.checkpointDue
      exact stored.ledger h
    · exact h
  case h_3 => exact (putArea_sound _ _ u).ledger h
  case h_4 => split <;> exact h
  case h_5 => split <;> exact h
  case h_1 => exact h

/-- A cut write leaves everything but the array. -/
theorem cutWrite_array (u : Part) (whole : Bool) : ∃ v : NvArray, u.cutWrite whole = { u with array := v } := by
  unfold Part.cutWrite
  split
  case h_3 a i _ _ => cases a <;> exact ⟨_, rfl⟩
  case h_1 => exact ⟨_, rfl⟩
  all_goals split <;> exact ⟨_, rfl⟩

theorem stopMain_ledger {u : Part} (h : u.Ledger) (whole : Bool) : (u.stopMain whole).Ledger := by
  unfold Part.stopMain
  split
  · obtain ⟨live, log, -⟩ := cutWrite_ledger h whole
    exact (putRecord_keeps _ _ _).ledger ⟨live, log, fun _ hc => by cases hc⟩
  · exact h

/-- What a stopped main domain holds of frames, codes and writes, and its lines (R149, R176, R183). -/
def AtRest (u : Part) : Prop :=
  u.power = .stopped ∧ u.outputs.attention = ⟨false, false, false⟩ ∧ (∀ p : Port, (u.receivers.get p).state = .stopped) ∧
    u.store.inFlight = none ∧ u.codes.queue = []

theorem AtRest.attending {u : Part} (h : u.AtRest) (a : u.AttackNoted) : u.Attending := by
  obtain ⟨power, attention, receivers, inFlight, queue⟩ := h
  refine ⟨fun p => ?_, a, fun _ => ⟨receivers, inFlight, queue⟩⟩
  cases p <;> simp [attention, PerPort.get, Part.mainOn, power]

theorem Attending.atRest {u : Part} (h : u.Attending) (power : u.power = .stopped) : u.AtRest := by
  obtain ⟨lines, -, rest⟩ := h
  obtain ⟨receivers, inFlight, queue⟩ := rest power
  refine ⟨power, ?_, receivers, inFlight, queue⟩
  have m := lines .m
  have k := lines .k
  have s := lines .s
  simp only [PerPort.get, Part.mainOn, power, bne_self_eq_false, Bool.false_and] at m k s
  exact congr (congrArg₂ PerPort.mk m k) s

/-- With its supply, the main domain attends when its lines follow its notices and CODE_ATTACK its lockouts. -/
theorem attending_of_on {u : Part} (on : u.mainOn = true) (lines : u.LinesFollowNotices) (a : u.AttackNoted) : u.Attending :=
  ⟨lines, a, fun stopped => absurd stopped ((mainOn_iff u).mp on)⟩

theorem stopMain_atRest {u : Part} (on : u.mainOn = true) (whole : Bool) : (u.stopMain whole).AtRest := by
  rw [Part.stopMain, if_pos on]
  refine ⟨by simp [Part.tamperAtStop], by simp [Part.tamperAtStop], fun p => ?_, ?_, by simp [Part.tamperAtStop]⟩
  · cases p <;> simp [Part.tamperAtStop, PerPort.get]
  · simp [Part.tamperAtStop, Part.putRecord, Part.markDueIf, Part.markDue]
    split <;> rfl

theorem stopMain_off (u : Part) (h : u.mainOn = false) (whole : Bool) : u.stopMain whole = u := by
  simp [Part.stopMain, h]

theorem stopMain_attack {u : Part} (h : u.AttackNoted) (whole : Bool) : (u.stopMain whole).AttackNoted := by
  obtain ⟨v, hv⟩ := cutWrite_array u whole
  unfold Part.stopMain
  dsimp only
  split
  · rw [hv]
    exact Sound.attack (putRecord_sound (.inl (by decide))) h
  · exact h

theorem stopMain_coils {u : Part} (h : u.CoilsFollowPulse) (whole : Bool) : (u.stopMain whole).CoilsFollowPulse := by
  unfold Part.stopMain
  dsimp only
  split
  · exact ((putRecord_coils _ _ _).off ⟨rfl, rfl⟩).follow
  · exact h

end Part
end Sys2Proof.Machine
end

section
/-! The three invariants of the whole part. Settles O18, O57 and O58: a command's effect is sound, or it is one of the power
events, which set up anew what the invariants speak of; and in a stopped main domain no command moves what rests. -/

namespace Sys2Proof.Machine

namespace Part

/-! ### A resting part -/

/-- What rests in a stopped main domain. -/
def resting (u : Part) : Power × PerPort Bool × PerPort Receiver × Option Attempt × List CodeEntry :=
  (u.power, u.outputs.attention, u.receivers, u.store.inFlight, u.codes.queue)

/-- `v` follows from `u` by operations that leave what rests alone. -/
structure KeepsRest (u v : Part) : Prop where
  power : v.power = u.power
  attention : v.outputs.attention = u.outputs.attention
  receivers : v.receivers = u.receivers
  inFlight : u.store.inFlight = none → v.store.inFlight = none
  queue : v.codes.queue = u.codes.queue

namespace KeepsRest

theorem refl (u : Part) : u.KeepsRest u := ⟨rfl, rfl, rfl, id, rfl⟩

theorem trans {u v w : Part} (a : u.KeepsRest v) (b : v.KeepsRest w) : u.KeepsRest w :=
  ⟨b.power.trans a.power, b.attention.trans a.attention, b.receivers.trans a.receivers, b.inFlight ∘ a.inFlight,
    b.queue.trans a.queue⟩

theorem of_eq {u v : Part} (h : v.resting = u.resting) : u.KeepsRest v := by
  simp only [resting, Prod.mk.injEq] at h
  obtain ⟨power, attention, receivers, inFlight, queue⟩ := h
  exact ⟨power, attention, receivers, fun h => inFlight.trans h, queue⟩

theorem atRest {u v : Part} (h : u.KeepsRest v) (r : u.AtRest) : v.AtRest := by
  obtain ⟨power, attention, receivers, inFlight, queue⟩ := r
  exact ⟨h.power.trans power, h.attention.trans attention, fun p => h.receivers ▸ receivers p, h.inFlight inFlight,
    h.queue.trans queue⟩

end KeepsRest

theorem markDue_rest (u : Part) : u.KeepsRest u.markDue :=
  ⟨rfl, rfl, rfl, fun h => by show u.store.inFlight.map Attempt.noteChange = none; rw [h]; rfl, rfl⟩

theorem markDueIf_rest (b : Bool) (u : Part) : u.KeepsRest (Part.markDueIf b u) := by
  cases b
  · exact .refl u
  · exact markDue_rest u

theorem putRecord_rest (c : TamperCause) (r : TamperRecord) (u : Part) : u.KeepsRest (u.putRecord c r) :=
  .trans (v := { u with tamper := { u.tamper with
    records := u.tamper.records.set (causeIndex c).val r (causeIndex c).isLt } }) (.of_eq (by rfl)) (markDueIf_rest _ _)

theorem bufferEvent_rest (k : Cover) (b : Bool) (u : Part) : u.KeepsRest (u.bufferEvent k b) := by
  unfold Part.bufferEvent
  split
  · exact .refl u
  · exact .of_eq (by rfl)

/-- In a stopped main domain the evidence of an absence goes to the buffer or to the flag (R142). -/
theorem absentEvidence_rest {u : Part} (h : u.power = .stopped) (c : TamperCause) : u.KeepsRest (u.absentEvidence c) := by
  unfold Part.absentEvidence
  dsimp only
  split
  · rw [if_pos (by simp [Part.onBattery, h])]
    exact (bufferEvent_rest _ _ u).trans (markDue_rest _)
  · rw [if_neg (by simp [h])]
    exact markDue_rest u

theorem becomeAbsent_rest {u : Part} (h : u.power = .stopped) (c : TamperCause) : u.KeepsRest (u.becomeAbsent c) :=
  (putRecord_rest _ _ u).trans (absentEvidence_rest (by simpa using h) c)

theorem conditionEnds_rest {u : Part} (h : u.power = .stopped) (c : TamperCause) : u.KeepsRest (u.conditionEnds c) := by
  unfold Part.conditionEnds
  dsimp only
  split
  case h_4 =>
    split
    · exact putRecord_rest _ _ u
    · exact (putRecord_rest _ _ u).trans (becomeAbsent_rest (by simpa using h) c)
  all_goals exact putRecord_rest _ _ u

/-- A cover becomes present on battery with its buffer event alone (R142, R143). -/
theorem becomePresent_rest {u : Part} (h : u.power = .stopped) {c : TamperCause} {k : Cover} (hc : causeCover c = some k) :
    u.KeepsRest (u.becomePresent c) := by
  refine (putRecord_rest c ((u.tamperRecord c).presented u.stamp) u).trans ?_
  unfold Part.becomePresent
  dsimp only
  rw [hc]
  dsimp only
  rw [if_pos (by simp [Part.onBattery, h])]
  unfold Part.presentOnBattery
  dsimp only
  have off : (Part.markDue (Part.bufferEvent k true (Part.putRecord (coverCause k)
      { (u.putRecord c ((u.tamperRecord c).presented u.stamp)).tamperRecord (coverCause k) with raisedOnBattery := true }
      (u.putRecord c ((u.tamperRecord c).presented u.stamp))))).power = .stopped :=
    (((putRecord_rest _ _ _).trans (bufferEvent_rest _ _ _)).trans (markDue_rest _)).power.trans (by simpa using h)
  rw [if_neg (by simp [off])]
  exact ((putRecord_rest _ _ _).trans (bufferEvent_rest _ _ _)).trans (markDue_rest _)

/-- In a stopped main domain a cover's condition arises into PENDING (R135, R142). -/
theorem conditionArises_rest (k : Cover) (u : Part) : u.KeepsRest (u.conditionArises (coverCause k)) := by
  have debounced : (coverCause k).hasDebounce = true := by cases k <;> rfl
  have arising := putRecord_rest (coverCause k) { u.tamperRecord (coverCause k) with condition := true } u
  have enters : ∀ (b : Bool) (v : Part), v.KeepsRest (v.enterPending (coverCause k) b) := fun b v => by
    unfold Part.enterPending
    dsimp only
    rw [if_pos debounced]
    exact putRecord_rest _ _ v
  unfold Part.conditionArises
  dsimp only
  split
  · exact arising
  · split
    · exact arising.trans (enters _ _)
    · exact arising.trans (enters _ _)
    · exact arising
    · exact arising.trans (putRecord_rest _ _ _)

/-- In a stopped main domain a condition ends with no decision (R139). -/
theorem setCondition_false_rest {u : Part} (h : u.power = .stopped) (c : TamperCause) :
    u.KeepsRest (u.setCondition c false) := by
  unfold Part.setCondition
  split
  · exact .refl u
  · dsimp only
    rw [if_neg (by decide), if_neg (by simp [Part.mainOn, h])]
    exact conditionEnds_rest h c

theorem coverChanges_rest {u : Part} (h : u.power = .stopped) (k : Cover) (b : Bool) : u.KeepsRest (u.coverChanges k b) := by
  refine .trans (v := { u with inputs := u.inputs.setCover k b }) (.of_eq (by rfl)) ?_
  cases b with
  | false => exact setCondition_false_rest (u := { u with inputs := u.inputs.setCover k false }) h _
  | true =>
    unfold Part.coverChanges Part.setCondition
    split
    · exact .refl _
    · exact conditionArises_rest k _

/-- Where CODE_ATTACK stands for every lockout that is left, bringing it up to date raises nothing. -/
theorem handAttack_rest {u : Part} (h : u.power = .stopped) (a : u.codes.attacked = true → u.condition .codeAttack = true) :
    u.KeepsRest u.handAttack := by
  unfold Part.handAttack
  cases hb : u.codes.attacked with
  | false => exact setCondition_false_rest h _
  | true =>
    unfold Part.setCondition
    rw [if_pos (a hb)]
    exact .refl u

/-- The end of a lockout raises no CODE_ATTACK. -/
theorem expireLockout_rest {u : Part} (h : u.power = .stopped) (a : u.AttackNoted) (p : Port) :
    u.KeepsRest (u.expireLockout p) := by
  have queue : (u.codes.setPort p { u.codes.portCodes p with lockedUntil := none }).queue = u.codes.queue := by
    cases p <;> rfl
  have fewer : (u.codes.setPort p { u.codes.portCodes p with lockedUntil := none }).attacked = true →
      u.codes.attacked = true := by
    cases p <;> simp +contextual [Codes.setPort, Codes.attacked]
  exact .trans (v := { u with codes := u.codes.setPort p { u.codes.portCodes p with lockedUntil := none } })
    (.of_eq (by simp only [resting, queue])) (handAttack_rest h fun ha => a.trans (fewer ha))

theorem debounceExpires_rest {u : Part} (h : u.power = .stopped) (c : TamperCause) : u.KeepsRest (u.debounceExpires c) := by
  unfold Part.debounceExpires
  dsimp only
  split
  · split
    · rename_i hc
      have covered : (causeCover c).isSome = true := by simp only [Part.timesCause, Part.mainOn, h, bne_self_eq_false, Bool.or_false, Bool.and_eq_true] at hc; exact hc.2
      obtain ⟨k, hk⟩ := Option.isSome_iff_exists.mp covered
      exact becomePresent_rest h hk
    · exact .refl u
  all_goals exact .refl u

theorem releaseExpires_rest {u : Part} (h : u.power = .stopped) (c : TamperCause) : u.KeepsRest (u.releaseExpires c) := by
  unfold Part.releaseExpires
  dsimp only
  split
  · split
    · exact becomeAbsent_rest h c
    · exact .refl u
  all_goals exact .refl u

theorem unlessOvertaken_rest {u : Part} {f : Part → Part} (h : u.KeepsRest (f u)) (i : Instr) :
    u.KeepsRest (Part.unlessOvertaken i f u) := by
  unfold Part.unlessOvertaken
  split
  · exact .of_eq (by rfl)
  · exact h

/-- A resting part takes no frame. -/
theorem AtRest.frameArrives {u : Part} (h : u.AtRest) (p : Port) (kind : Byte) (b : List Byte) :
    u.frameArrives p kind b = u := by
  unfold Part.frameArrives
  rw [h.2.2.1 p]

theorem AtRest.receive {u : Part} (h : u.AtRest) (p : Port) (c : Byte) (b : Bool) : u.receive p c b = u := by
  unfold Part.receive Part.receiveBad Part.receiveGood
  rw [h.2.2.1 p]
  split <;> rfl

theorem AtRest.inactive {u : Part} (h : u.AtRest) : u.active = false := by simp [Part.active, h.1]

theorem AtRest.notRunning {u : Part} (h : u.AtRest) : u.running = false := by simp [Part.running, h.1]

theorem AtRest.off {u : Part} (h : u.AtRest) : u.mainOn = false := by simp [Part.mainOn, h.1]

/-- An event of the running main domain does nothing in a resting part. -/
theorem AtRest.whileActive {u : Part} (h : u.AtRest) (f : Part → Part) : Part.whileActive f u = u := by
  simp [Part.whileActive, h.inactive]

end Part

/-! ### Effects -/

theorem Part.senseChanges_sound (sense : PhaseSet) (u : Part) : u.Sound (u.senseChanges sense) := .of_eq (by rfl)

theorem Part.senseChanges_rest (sense : PhaseSet) (u : Part) : u.KeepsRest (u.senseChanges sense) := .of_eq (by rfl)

theorem Part.tripAges_rest (u : Part) : u.KeepsRest u.tripAges := .of_eq (by rfl)

/-- The events that set the power of the main domain up anew. -/
def resetsPower : Instr → Bool
  | .mainDomainStop _ | .mainStart | .retentionReset => true
  | _ => false

/-- Every command but a stop, a main start and a retention reset is sound. -/
theorem effectOf_sound {i : Instr} (h : resetsPower i = false) (u : Part) : u.Sound (effectOf i u) := by
  cases i with
  | characterReceived p c b => exact Part.receive_sound p c b u
  | receiveSilenceTimeout p => exact Part.unlessOvertaken_sound (Part.receiveSilence_sound p) _ u
  | responseSent p => exact Part.endResponse_sound p u
  | portResetAssert p => exact Part.assertReset_sound p u
  | portResetRelease p => exact Part.releaseReset_sound p u
  | linkSuspect l => exact Part.unlessOvertaken_sound (Part.suspectLink_sound l) _ u
  | linkLost l => exact Part.unlessOvertaken_sound (Part.linkExpires_sound l) _ u
  | epRisingEdge => exact Part.epRises_sound u
  | epFallingEdge => exact Part.epFalls_sound u
  | intervalCounterWrap => exact Part.unlessOvertaken_sound Part.wrapCounter_sound _ u
  | windowTimeClose => exact Part.unlessOvertaken_sound Part.windowExpires_sound _ u
  | minuteBoundary => exact Part.minuteDue_sound u
  | clockWrap => exact Part.unlessOvertaken_sound Part.wrapClock_sound _ u
  | codeScreening => exact Part.screeningDue_sound u
  | codeLockoutExpiry p => exact Part.unlessOvertaken_sound (Part.expireLockout_sound p) _ u
  | checkpointAttemptEnd b => exact Part.checkpointEnds_sound b u
  | bankWriteAttemptEnd b => exact Part.bankEnds_sound b u
  | configWriteAttemptEnd b => exact Part.configEnds_sound b u
  | journalWriteAttemptEnd b => exact Part.journalEnds_sound b u
  | hourlyTimerExpiry => exact Part.unlessOvertaken_sound Part.hourly_sound _ u
  | loadEvaluation => exact Part.unlessOvertaken_sound Part.evaluationDue_sound _ u
  | loadLockoutExpiry => exact Part.unlessOvertaken_sound Part.lockoutExpires_sound _ u
  | tripAgeOut => exact Part.unlessOvertaken_sound Part.tripAges_sound _ u
  | coverSwitchChange k b => exact Part.coverChanges_sound k b u
  | magneticSensorChange b => exact Part.magnetChanges_sound b u
  | tamperDebounceExpiry c => exact Part.unlessOvertaken_sound (Part.debounceExpires_sound c) _ u
  | tamperReleaseExpiry c => exact Part.unlessOvertaken_sound (Part.releaseExpires_sound c) _ u
  | handshakeTimeout => exact Part.unlessOvertaken_sound Part.endHandshake_sound _ u
  | zxEdge => exact Part.endZxWait_sound true u
  | zxTimeout => exact Part.unlessOvertaken_sound (Part.endZxWait_sound false) _ u
  | relayDelayEnd => exact Part.unlessOvertaken_sound Part.endDelay_sound _ u
  | coilPulseEnd => exact Part.unlessOvertaken_sound (Part.whileActive_sound Part.endPulse_sound) _ u
  | settleEnd => exact Part.unlessOvertaken_sound (Part.whileActive_sound Part.endSettle_sound) _ u
  | blankingEnd => exact Part.unlessOvertaken_sound Part.endBlanking_sound _ u
  | contactSenseChange sense => exact Part.senseChanges_sound sense u
  | bypassAriseTimerExpiry => exact Part.unlessOvertaken_sound (Part.whileActive_sound Part.bypassArises_sound) _ u
  | bypassEndTimerExpiry => exact Part.unlessOvertaken_sound (Part.whileActive_sound Part.bypassEnds_sound) _ u
  | jumpTimerExpiry => exact Part.unlessOvertaken_sound (Part.whileActive_sound Part.jump_sound) _ u
  | retryTimerExpiry => exact Part.unlessOvertaken_sound (Part.whileActive_sound Part.retry_sound) _ u
  | powerFailWarning => exact Part.powerFails_sound u
  | mainDomainStop | mainStart | retentionReset => cases h
  | unknownRequestKind p kind b => exact Part.frameArrives_sound p kind b u
  | _ p b => exact Part.frameArrives_sound p _ b u

/-- In a resting part every command but a stop, a main start and a retention reset leaves what rests. -/
theorem effectOf_rest {i : Instr} (h : resetsPower i = false) {u : Part} (r : u.AtRest) (a : u.AttackNoted) :
    u.KeepsRest (effectOf i u) := by
  have inactive := r.inactive
  have notRunning := r.notRunning
  have off := r.off
  have same : ∀ {v : Part}, v = u → u.KeepsRest v := fun hv => hv ▸ .refl u
  cases i with
  | characterReceived p c b => exact same (r.receive p c b)
  | receiveSilenceTimeout p =>
    exact Part.unlessOvertaken_rest (same (by unfold Part.receiveSilence; rw [r.2.2.1 p])) _
  | responseSent p => exact same (by show u.endResponse p = u; unfold Part.endResponse; rw [r.2.2.1 p])
  | portResetAssert p =>
    refine .trans (v := u.setResetInput p true) (.of_eq (by rfl)) ?_
    show Part.KeepsRest _ (u.assertReset p)
    unfold Part.assertReset
    rw [if_neg (by simp [Part.setResetInput, Part.mainOn, r.1])]
    exact .refl _
  | portResetRelease p =>
    refine .trans (v := u.setResetInput p false) (.of_eq (by rfl)) ?_
    show Part.KeepsRest _ (u.releaseReset p)
    unfold Part.releaseReset
    dsimp only
    rw [show ((u.setResetInput p false).receivers.get p).state = .stopped from r.2.2.1 p]
    exact .refl _
  | linkSuspect l => exact Part.unlessOvertaken_rest (same (by simp [Part.suspectLink, notRunning])) _
  | linkLost l => exact Part.unlessOvertaken_rest (same (by simp [Part.linkExpires, notRunning])) _
  | epRisingEdge =>
    refine .trans (v := u.setEp true) (.of_eq (by rfl)) ?_
    show Part.KeepsRest _ u.epRises
    unfold Part.epRises
    rw [if_neg (by simp [Part.setEp, r.1])]
    exact .refl _
  | epFallingEdge =>
    refine .trans (v := u.setEp false) (.of_eq (by rfl)) ?_
    show Part.KeepsRest _ u.epFalls
    unfold Part.epFalls
    dsimp only
    split
    · rw [if_neg (by simp [Part.setEp, r.1])]
      exact .refl _
    · exact .refl _
  | intervalCounterWrap => exact Part.unlessOvertaken_rest (same (by simp [Part.wrapCounter, notRunning])) _
  | windowTimeClose => exact Part.unlessOvertaken_rest (same (by simp [Part.windowExpires, notRunning])) _
  | minuteBoundary => exact same (by simp [effectOf, Part.minuteDue, inactive])
  | clockWrap =>
    refine Part.unlessOvertaken_rest ?_ _
    unfold Part.wrapClock
    dsimp only
    rw [if_neg (by simp [Part.active, r.1])]
    exact .of_eq (by rfl)
  | codeScreening => exact same (by simp [effectOf, Part.screeningDue, inactive])
  | codeLockoutExpiry p => exact Part.unlessOvertaken_rest (Part.expireLockout_rest r.1 a p) _
  | checkpointAttemptEnd b => exact same (by simp [effectOf, Part.checkpointEnds, r.2.2.2.1])
  | bankWriteAttemptEnd b => exact same (by simp [effectOf, Part.bankEnds, r.2.2.2.1])
  | configWriteAttemptEnd b => exact same (by simp [effectOf, Part.configEnds, r.2.2.2.1])
  | journalWriteAttemptEnd b => exact same (by simp [effectOf, Part.journalEnds, r.2.2.2.1])
  | hourlyTimerExpiry => exact Part.unlessOvertaken_rest (same (by simp [Part.hourly, notRunning])) _
  | loadEvaluation => exact Part.unlessOvertaken_rest (same (by simp [Part.evaluationDue, notRunning])) _
  | loadLockoutExpiry => exact Part.unlessOvertaken_rest (same (by simp [Part.lockoutExpires, inactive])) _
  | tripAgeOut => exact Part.unlessOvertaken_rest (Part.tripAges_rest u) _
  | coverSwitchChange k b => exact Part.coverChanges_rest r.1 k b
  | magneticSensorChange b =>
    refine .trans (v := { u with inputs := { u.inputs with magneticField := b } }) (.of_eq (by rfl)) ?_
    show Part.KeepsRest _ (u.magnetChanges b)
    unfold Part.magnetChanges
    rw [if_neg (by simp [Part.mainOn, r.1])]
    exact .refl _
  | tamperDebounceExpiry c => exact Part.unlessOvertaken_rest (Part.debounceExpires_rest r.1 c) _
  | tamperReleaseExpiry c => exact Part.unlessOvertaken_rest (Part.releaseExpires_rest r.1 c) _
  | handshakeTimeout =>
    exact Part.unlessOvertaken_rest (same (by unfold Part.endHandshake; split <;> simp [notRunning])) _
  | zxEdge => exact same (by show u.endZxWait true = u; unfold Part.endZxWait; split <;> simp [notRunning])
  | zxTimeout => exact Part.unlessOvertaken_rest (same (by unfold Part.endZxWait; split <;> simp [notRunning])) _
  | relayDelayEnd => exact Part.unlessOvertaken_rest (same (by unfold Part.endDelay; split <;> simp [notRunning])) _
  | coilPulseEnd | settleEnd | bypassAriseTimerExpiry | bypassEndTimerExpiry | jumpTimerExpiry | retryTimerExpiry =>
    exact Part.unlessOvertaken_rest (same (r.whileActive _)) _
  | blankingEnd => exact Part.unlessOvertaken_rest (same (by simp [Part.endBlanking, notRunning])) _
  | contactSenseChange sense => exact Part.senseChanges_rest sense u
  | powerFailWarning => exact same (by simp [effectOf, Part.powerFails, notRunning])
  | mainDomainStop | mainStart | retentionReset => cases h
  | unknownRequestKind p kind b => exact same (r.frameArrives p kind b)
  | _ p b => exact same (r.frameArrives p _ b)

/-! ### The power events -/

theorem Part.loseRetention_ledger {u : Part} (h : u.Ledger) : u.loseRetention.Ledger :=
  ⟨Part.newPart_identity, (Part.stopMain_ledger h false).2.1, fun _ hc => by cases hc⟩

theorem Part.loseRetention_atRest (u : Part) : u.loseRetention.AtRest :=
  ⟨rfl, rfl, fun p => by cases p <;> rfl, rfl, rfl⟩

/-! ### The invariants -/

theorem effectOf_ledger (i : Instr) {u : Part} (h : u.Ledger) : (effectOf i u).Ledger := by
  cases hi : resetsPower i with
  | false => exact (effectOf_sound hi u).ledger h
  | true =>
    cases i with
    | mainDomainStop whole => exact Part.stopMain_ledger h whole
    | mainStart => exact (Part.startMain_sound u).ledger (Part.mainValues_ledger (Part.stopMain_ledger h false))
    | retentionReset => exact Part.loseRetention_ledger h
    | _ => cases hi

theorem effectOf_coils (i : Instr) {u : Part} (h : u.CoilsFollowPulse) : (effectOf i u).CoilsFollowPulse := by
  cases hi : resetsPower i with
  | false => exact (effectOf_sound hi u).coils h
  | true =>
    cases i with
    | mainDomainStop whole => exact Part.stopMain_coils h whole
    | mainStart => exact (Part.startMain_sound u).coils (Part.mainValues_coilsOff _).follow
    | retentionReset => exact Part.CoilsOff.follow ⟨rfl, rfl⟩
    | _ => cases hi

theorem effectOf_attending (i : Instr) {u : Part} (h : u.Attending) : (effectOf i u).Attending := by
  have attack : u.AttackNoted := h.2.1
  cases hi : resetsPower i with
  | false =>
    have sound := effectOf_sound hi u
    cases on : u.mainOn with
    | true => exact Part.attending_of_on (sound.supplied.trans on) (sound.lines on h.1) (sound.attack attack)
    | false =>
      have rest := Part.Attending.atRest h (by simpa [Part.mainOn] using on)
      exact ((effectOf_rest hi rest attack).atRest rest).attending (sound.attack attack)
  | true =>
    cases i with
    | mainDomainStop whole =>
      cases on : u.mainOn with
      | true => exact (Part.stopMain_atRest on whole).attending (Part.stopMain_attack attack whole)
      | false =>
        show (u.stopMain whole).Attending
        rwa [Part.stopMain_off u on whole]
    | mainStart =>
      have sound := Part.startMain_sound u
      have on := Part.mainValues_on (u.stopMain false)
      exact Part.attending_of_on (sound.supplied.trans on) (sound.lines on (Part.mainValues_lines _))
        (sound.attack (Part.stopMain_attack attack false))
    | retentionReset => exact u.loseRetention_atRest.attending rfl
    | _ => cases hi

/-- What is kept by every effect, by the update of the contact watch and by a tick is kept by every step. -/
theorem kept_by_step {I : Part → Prop} (effect : ∀ (i : Instr) (u : Part), I u → I (effectOf i u))
    (updated : ∀ (u v : Part) (w : List Instr), I v → I (u.overtaking w v.watchContacts))
    (ticked : ∀ u : Part, I u → I u.ticked) {s t : State} (h : I s.part) (hstep : step s = .next t) : I t.part := by
  rcases step_cases hstep with rfl | ⟨i, rest, ht⟩
  · exact ticked s.part h
  · rw [ht]
    exact updated _ _ rest (effect i s.part h)

/-- Settles O18: charges, credits and grants keep the identity, and a snapshot carries it. -/
theorem balanceIdentityIsKept : Obligations.BalanceIdentityIsKept := fun _ _ h hstep =>
  kept_by_step (fun i _ => effectOf_ledger i) (fun _ _ _ h => h) (fun _ h => h) h hstep

/-- Settles O57: a coil is driven where PULSE begins, and the drive ends where PULSE is left. -/
theorem coilsFollowPulseKept : Obligations.CoilsFollowPulseKept := by
  refine ⟨fun s t h hstep => kept_by_step (fun i _ => effectOf_coils i) (fun _ _ _ h => h) (fun _ h => h) h hstep, ?_⟩
  rintro u ⟨opening, closing⟩ ⟨ho, hc⟩
  obtain ⟨op, hop, -, hdir⟩ := opening ho
  obtain ⟨op', hop', -, hdir'⟩ := closing hc
  rw [hop] at hop'
  cases hop'
  rw [hdir] at hdir'
  cases hdir'

/-- Settles O58: a line is re-evaluated where its port's sets change, CODE_ATTACK where a lockout does. -/
theorem attentionLinesKept : Obligations.AttentionLinesKept := fun _ _ h hstep =>
  kept_by_step (fun i _ => effectOf_attending i) (fun _ _ _ h => h) (fun _ h => h) h hstep

end Sys2Proof.Machine
end

section
/-! Time: what one tick moves, when an expiry's time has come and what overtakes it (logs 4, 5, 53). Settles O3 and O4. -/

namespace Sys2Proof.Machine

/-! ### A tick -/

theorem Pulse.ticked_eq (p : Pulse) : p.ticked = { p with counter := p.ticked.counter } := by
  unfold Pulse.ticked
  split <;> rfl

theorem Clock.ticked_eq (c : Clock) : c.ticked = { c with count := c.ticked.count } := by
  unfold Clock.ticked
  split <;> rfl

theorem Pulse.ticked_counter {p : Pulse} (h : p.counter < 16777215) : p.ticked.counter = p.counter + 1 := by
  unfold Pulse.ticked Pulse.atWrap
  rw [if_neg (by simpa using h.ne)]

theorem Clock.ticked_count {c : Clock} (h : c.count < 4294967295) : c.ticked.count = c.count + 1 := by
  unfold Clock.ticked Clock.atWrap
  rw [if_neg (by simpa using h.ne)]

@[simp] theorem Part.secondEnds_iff (u : Part) : u.secondEnds = true ↔ (u.timeBase + 1) % 32768 = 0 := by
  simp [Part.secondEnds]

/-- A tick moves the time base and two counts. -/
theorem Part.ticked_eq (u : Part) :
    u.ticked = { u with
      timeBase := u.timeBase + 1, clock := { u.clock with count := u.ticked.clock.count },
      pulse := { u.pulse with counter := u.ticked.pulse.counter } } := by
  have clock : u.ticked.clock = { u.clock with count := u.ticked.clock.count } := by
    change (if u.secondEnds then u.clock.ticked else u.clock) = { u.clock with
      count := (if u.secondEnds then u.clock.ticked else u.clock).count }
    split
    · exact u.clock.ticked_eq
    · rfl
  have pulse : u.ticked.pulse = { u.pulse with counter := u.ticked.pulse.counter } := by
    change (if u.running then u.pulse.ticked else u.pulse) = { u.pulse with
      counter := (if u.running then u.pulse.ticked else u.pulse).counter }
    split
    · exact u.pulse.ticked_eq
    · rfl
  rw [← clock, ← pulse]
  rfl

theorem Part.ticked_clock_of_second {u : Part} (h : (u.timeBase + 1) % 32768 = 0) : u.ticked.clock = u.clock.ticked :=
  if_pos (u.secondEnds_iff.mpr h)

theorem Part.ticked_clock_of_not_second {u : Part} (h : (u.timeBase + 1) % 32768 ≠ 0) : u.ticked.clock = u.clock :=
  if_neg (fun c => h (u.secondEnds_iff.mp c))

theorem Part.ticked_pulse_of_running {u : Part} (h : u.power = .running) : u.ticked.pulse = u.pulse.ticked :=
  if_pos (u.running_iff.mpr h)

theorem Part.ticked_pulse_of_not_running {u : Part} (h : u.power ≠ .running) : u.ticked.pulse = u.pulse :=
  if_neg (fun c => h (u.running_iff.mp c))

/-- Settles O3: an idle step is the tick, and each count moves as its own law says. -/
theorem idleStepIsOneTick : Obligations.IdleStepIsOneTick := by
  intro s h
  refine ⟨s.part.ticked.clock.count, s.part.ticked.pulse.counter, ?_, ?_, ?_, ?_, ?_⟩
  · rw [step_idle h, tick, h, ← Part.ticked_eq]
    rfl
  · exact fun second below => by rw [Part.ticked_clock_of_second second, Clock.ticked_count below]
  · exact fun second => by rw [Part.ticked_clock_of_not_second second]
  · exact fun running below => by rw [Part.ticked_pulse_of_running running, Pulse.ticked_counter below]
  · exact fun running => by rw [Part.ticked_pulse_of_not_running running]

/-! ### When an expiry's time has come -/

/-- The operation in progress stands in this stage, and its time has passed. -/
def Part.StagePassed (u : Part) (stage : Stage) (ticks : Operation → Nat) : Prop :=
  ∃ op, u.supply.relay = .operating op ∧ op.stage = stage ∧ op.stageAt + ticks op ≤ u.timeBase

theorem Part.stageDue_iff (u : Part) (stage : Stage) (ticks : Operation → Nat) :
    u.stageDue stage ticks = true ↔
      (u.power = .running ∨ u.active = true ∧ stage.outlastsPfw = true) ∧ u.StagePassed stage ticks := by
  unfold Part.stageDue Part.StagePassed
  cases u.supply.relay with
  | settled x => simp
  | operating op =>
    simp [Part.passed]
    tauto

/-- A stage that PFW stops falls due while the main domain runs. -/
theorem Part.stageDue_stopped {stage : Stage} (h : stage.outlastsPfw = false) (u : Part) (ticks : Operation → Nat) :
    u.stageDue stage ticks = true ↔ u.power = .running ∧ u.StagePassed stage ticks := by
  simp [Part.stageDue_iff, h]

/-- A stage that PFW lets go on falls due until the main domain stops. -/
theorem Part.stageDue_outlasting {stage : Stage} (h : stage.outlastsPfw = true) (u : Part) (ticks : Operation → Nat) :
    u.stageDue stage ticks = true ↔ (u.power = .running ∨ u.power = .failing) ∧ u.StagePassed stage ticks := by
  simp only [Part.stageDue_iff, h, Part.active_iff, and_true]
  tauto

theorem Part.timesCause_iff (u : Part) (c : TamperCause) :
    u.timesCause c = true ↔ c = .terminalCover ∨ c = .mainCover ∨ u.power ≠ .stopped := by
  cases c <;> simp [Part.timesCause, causeCover]

theorem Part.debounceDue_iff (u : Part) (c : TamperCause) :
    u.debounceDue c = true ↔
      u.timesCause c = true ∧ u.reached (u.tamperRecord c).timer = true ∧ (u.tamperRecord c).condition = true ∧
        ((u.tamperRecord c).state = .pending true ∨ (u.tamperRecord c).state = .pending false) := by
  unfold Part.debounceDue
  cases hs : (u.tamperRecord c).state with
  | pending prior => cases prior <;> simp [hs, and_assoc]
  | quiet => simp [hs]
  | present => simp [hs]
  | latchedAbsent => simp [hs]

theorem Part.releaseDue_iff (u : Part) (c : TamperCause) :
    u.releaseDue c = true ↔
      u.timesCause c = true ∧ u.reached (u.tamperRecord c).timer = true ∧ (u.tamperRecord c).condition = false ∧
        (u.tamperRecord c).state = .present := by
  unfold Part.releaseDue
  cases hs : (u.tamperRecord c).state with
  | present => simp [hs, and_assoc]
  | pending prior => simp [hs]
  | quiet => simp [hs]
  | latchedAbsent => simp [hs]

theorem Part.silenceDue_iff (u : Part) (p : Port) :
    u.silenceDue p = true ↔
      (u.receivers.get p).lastCharacter + Config.milliseconds 20 ≤ u.timeBase ∧
        (u.receivers.get p).state.measuresSilence = true := by
  simp [Part.silenceDue, Part.passed, and_comm]

theorem Receive.measuresSilence_iff (st : Receive) :
    st.measuresSilence = true ↔
      match st with
      | .length | .body _ _ _ | .check _ _ _ | .drain _ => True
      | .stopped | .held | .hunt | .busy _ => False := by
  cases st <;> simp [Receive.measuresSilence]

theorem Part.suspectDue_iff (u : Part) (l : Link) :
    u.suspectDue l = true ↔ (u.links.get l).state = .up ∧ u.linkPeriod l ≤ u.silence l := by
  simp [Part.suspectDue]

theorem Part.lostDue_iff (u : Part) (l : Link) :
    u.lostDue l = true ↔ (u.links.get l).state = .suspect ∧ 4 * u.linkPeriod l ≤ u.silence l := by
  simp [Part.lostDue]

@[simp] theorem Pulse.atWrap_iff (p : Pulse) : p.atWrap = true ↔ p.counter = 16777215 := by simp [Pulse.atWrap]

@[simp] theorem Clock.atWrap_iff (c : Clock) : c.atWrap = true ↔ c.count = 4294967295 := by simp [Clock.atWrap]

@[simp] theorem Part.atSecond_iff (u : Part) : u.atSecond = true ↔ 0 < u.timeBase ∧ u.timeBase % 32768 = 0 := by
  simp [Part.atSecond]

theorem Part.window_passed_iff (u : Part) (ticks : Nat) :
    u.passed (u.recon.window.map Window.openedAt) ticks = true ↔
      ∃ x, u.recon.window = some x ∧ x.openedAt + ticks ≤ u.timeBase := by
  cases u.recon.window <;> simp [Part.passed]

/-! ### What falls due -/

theorem Part.mem_due_wrap (u : Part) :
    .intervalCounterWrap ∈ u.due ↔ u.power = .running ∧ u.pulse.counter = 16777215 := by
  simp [Part.due, Part.dueCounters, timers, allCauses]

theorem Part.mem_due_clockWrap (u : Part) :
    .clockWrap ∈ u.due ↔ (u.timeBase + 1) % 32768 = 0 ∧ u.clock.count = 4294967295 := by
  simp [Part.due, Part.dueCounters, timers, allCauses]

theorem Part.mem_due_minute (u : Part) :
    .minuteBoundary ∈ u.due ↔
      (u.timeBase + 1) % 32768 = 0 ∧ (u.power = .running ∨ u.power = .failing) ∧ u.clock.count ≠ 4294967295 ∧
        (u.clock.count + 1) % 60 = 0 := by
  simp [Part.due, Part.dueCounters, timers, allCauses, and_assoc, Clock.atWrap]

theorem Part.mem_due_screening (u : Part) :
    .codeScreening ∈ u.due ↔ u.power = .running ∧ ∃ slots mid, u.codes.head = some (.screening slots mid) := by
  simp [Part.due, Part.dueCounters, timers, allCauses, Codes.screening_iff]

/-! ### What an event overtakes -/

theorem State.mem_becomes_overtaken (s : State) (v : Part) (i : Instr) :
    i ∈ (s.becomes v).part.overtaken ↔
      i ∈ v.overtaken ∨
        (i ∈ s.pending ∧ s.part.hasCome i = true ∧ ¬ v.watchContacts.hasCome i = true) := by
  have kept : (s.becomes v).part.overtaken = v.overtaken ++ s.pending.filter
      (fun i => s.part.hasCome i && !v.watchContacts.hasCome i && !v.overtaken.contains i) := rfl
  rw [kept, List.mem_append, List.mem_filter]
  simp only [Bool.and_eq_true, Bool.not_eq_true', Bool.not_eq_true, List.contains_eq_mem, decide_eq_false_iff_not]
  tauto

/-- Every expiry that can be overtaken answers `expire`: an overtaken one leaves the list and does nothing else. -/
theorem exec_of_overtaken {i : Instr} {s : State} {f : Part → Part} (h : i ∈ s.part.overtaken)
    (hf : effectOf i = Part.unlessOvertaken i f) :
    exec i s = .next (s.becomes { s.part with overtaken := s.part.overtaken.erase i }) := by
  rw [exec_eq, hf, Part.unlessOvertaken_of_mem h]

/-- No timer but those of the counters looks at a counter. -/
theorem Part.hasCome_ticked (u : Part) {i : Instr} (h : i ∈ timers) :
    u.ticked.hasCome i = ({ u with timeBase := u.timeBase + 1 } : Part).hasCome i := by
  cases i with
  | intervalCounterWrap => simp [timers, allCauses] at h
  | clockWrap => simp [timers, allCauses] at h
  | codeLockoutExpiry p => cases p <;> rfl
  | _ => rfl

/-- Settles O4: the time of each expiry by the lemma of its timer, then membership in what falls due and in what an event
overtakes. -/
theorem timersFallDue : Obligations.TimersFallDue := by
  unfold Obligations.TimersFallDue
  intro milliseconds past period silence stage on timed come timers'
  have hcome : ∀ (u : Part) (i : Instr), u.hasCome i = true ↔ come u i := by
    intro u i
    have active : u.active = true ↔ on u := u.active_iff
    have passes : ∀ t n, u.passed t n = true ↔ past t n u := u.passed_iff
    have reaches : ∀ t, u.reached t = true ↔ past t 0 u := u.reached_iff
    have times : ∀ c, u.timesCause c = true ↔ timed u c := u.timesCause_iff
    cases i with
    | codeLockoutExpiry p =>
      cases p with
      | m => exact ⟨Bool.noConfusion, False.elim⟩
      | k => exact reaches _
      | s => exact reaches _
    | tripAgeOut => exact passes _ _
    | loadLockoutExpiry => exact (Bool.and_eq_true _ _).to_iff.trans (and_congr active (reaches _))
    | tamperDebounceExpiry c => exact (u.debounceDue_iff c).trans (and_congr (times c) (and_congr (reaches _) .rfl))
    | tamperReleaseExpiry c => exact (u.releaseDue_iff c).trans (and_congr (times c) (and_congr (reaches _) .rfl))
    | handshakeTimeout => exact Part.stageDue_stopped rfl u _
    | zxTimeout => exact Part.stageDue_stopped rfl u _
    | relayDelayEnd => exact Part.stageDue_stopped rfl u _
    | coilPulseEnd => exact Part.stageDue_outlasting rfl u _
    | settleEnd => exact Part.stageDue_outlasting rfl u _
    | blankingEnd => exact (Bool.and_eq_true _ _).to_iff.trans (and_congr u.running_iff (reaches _))
    | bypassAriseTimerExpiry => exact (Bool.and_eq_true _ _).to_iff.trans (and_congr active (passes _ _))
    | bypassEndTimerExpiry => exact (Bool.and_eq_true _ _).to_iff.trans (and_congr active (passes _ _))
    | jumpTimerExpiry => exact (Bool.and_eq_true _ _).to_iff.trans (and_congr u.running_iff (passes _ _))
    | retryTimerExpiry => exact (Bool.and_eq_true _ _).to_iff.trans (and_congr u.running_iff (reaches _))
    | receiveSilenceTimeout p =>
      exact (Bool.and_eq_true _ _).to_iff.trans (and_congr u.running_iff
        ((u.silenceDue_iff p).trans (and_congr .rfl (Receive.measuresSilence_iff _))))
    | linkSuspect l =>
      refine (Bool.and_eq_true _ _).to_iff.trans (and_congr u.running_iff ((u.suspectDue_iff l).trans ?_))
      cases l <;> exact .rfl
    | linkLost l =>
      refine (Bool.and_eq_true _ _).to_iff.trans (and_congr u.running_iff ((u.lostDue_iff l).trans ?_))
      cases l <;> exact .rfl
    | windowTimeClose =>
      exact (Bool.and_eq_true _ _).to_iff.trans (and_congr u.running_iff (u.window_passed_iff _))
    | hourlyTimerExpiry => exact (Bool.and_eq_true _ _).to_iff.trans (and_congr u.running_iff (reaches _))
    | loadEvaluation =>
      exact (Bool.and_eq_true _ _).to_iff.trans (and_congr u.running_iff (by simp))
    | intervalCounterWrap => exact (Bool.and_eq_true _ _).to_iff.trans (and_congr u.running_iff u.pulse.atWrap_iff)
    | clockWrap =>
      exact (Bool.and_eq_true _ _).to_iff.trans ((and_congr u.atSecond_iff u.clock.atWrap_iff).trans and_assoc)
    | _ => exact ⟨Bool.noConfusion, False.elim⟩
  have due : ∀ (u : Part) (i : Instr), i ∈ timers → (i ∈ u.due ↔ come { u with timeBase := u.timeBase + 1 } i) :=
    fun u i hi => by rw [Part.mem_due_timer hi, Part.hasCome_ticked u hi, hcome]
  refine ⟨fun u => ⟨fun i hi => due u i ?_, fun c => ⟨due u _ (debounce_mem_timers c), due u _ (release_mem_timers c)⟩,
    fun p => due u _ (silence_mem_timers p), fun l => ⟨due u _ (suspect_mem_timers l), due u _ (lost_mem_timers l)⟩,
    u.mem_due_wrap, u.mem_due_clockWrap, u.mem_due_minute, u.mem_due_screening⟩, fun s v => ⟨rfl, fun i => ?_⟩,
    fun s i hi hexpiry => ?_⟩
  · have sub : timers' ⊆ timers := by simp [timers', timers, allCauses]
    exact sub hi
  · rw [← hcome, ← hcome]
    exact s.mem_becomes_overtaken v i
  · rcases hexpiry with htimer | rfl | rfl | ⟨c, rfl | rfl⟩ | ⟨p, rfl⟩ | ⟨l, rfl | rfl⟩
    · simp only [timers', List.mem_cons, List.not_mem_nil, or_false] at htimer
      rcases htimer with rfl | rfl | rfl | rfl | rfl | rfl | rfl | rfl | rfl | rfl | rfl | rfl | rfl | rfl | rfl | rfl |
        rfl <;> exact exec_of_overtaken hi rfl
    all_goals exact exec_of_overtaken hi rfl

end Sys2Proof.Machine
end

section
/-! The port controller and its requests: how a frame finds the part, what a request answers, and how a receiver moves
(chapter 9). Settles O5 to O8 and O10 to O14. -/

namespace Sys2Proof.Machine

/-! ### Taking a frame (R170, R173, R174) -/

theorem Part.taking_eq (u : Part) (p : Port) (kind : Byte) :
    u.taking p kind = (u.hear p (.busy (frameBytes (kind + 0x80) []))).linkUp p := by
  rw [Part.taking, Part.beginTaking, Part.hear_setReceive]

theorem Part.linkUp_k_of_lost {u : Part} (h : u.links.k.state = .lost) :
    u.linkUp .k = (u.restartLink .k).setCondition .interfaceLinkLost false := by
  simp [Part.linkUp, h]

theorem Part.linkUp_k_of_not_lost {u : Part} (h : u.links.k.state ≠ .lost) : u.linkUp .k = u.restartLink .k := by
  simp [Part.linkUp, h]

/-- The links after a valid frame on a port. -/
def linksAfter (p : Port) (now : Nat) (l : PerLink LinkMonitor) : PerLink LinkMonitor :=
  match p with
  | .m => { l with m := ⟨.up, now⟩ }
  | .k => { l with k := ⟨.up, now⟩ }
  | .s => l

theorem Part.linkUp_links (p : Port) (u : Part) : (u.linkUp p).links = linksAfter p u.timeBase u.links := by
  cases p with
  | m => rfl
  | s => rfl
  | k =>
    by_cases h : u.links.k.state = .lost
    · rw [Part.linkUp_k_of_lost h, Part.setCondition_links]
      rfl
    · rw [Part.linkUp_k_of_not_lost h]
      rfl

theorem Part.linkUp_receivers (p : Port) (u : Part) : (u.linkUp p).receivers = u.receivers := by
  cases p with
  | m => rfl
  | s => rfl
  | k =>
    by_cases h : u.links.k.state = .lost
    · rw [Part.linkUp_k_of_lost h, Part.setCondition_receivers]
      rfl
    · rw [Part.linkUp_k_of_not_lost h]
      rfl

/-- Only the K-link's leaving LOST reaches beyond the links. -/
theorem Part.linkUp_eq {p : Port} {u : Part} (h : p = .k → u.links.k.state ≠ .lost) :
    u.linkUp p = { u with links := linksAfter p u.timeBase u.links } := by
  cases p with
  | m => rfl
  | s => rfl
  | k => rw [Part.linkUp_k_of_not_lost (h rfl)]; rfl

/-- Settles O5: hearing moves the receiver, and the link comes up as `linkUp` says. -/
theorem takenFrame : Obligations.TakenFrame := by
  intro u p kind
  rw [Part.taking_eq]
  refine ⟨?receivers, ?links, ?lost, ?other⟩
  case receivers => rw [Part.linkUp_receivers]; rfl
  case links => rw [Part.linkUp_links]; cases p <;> rfl
  case lost =>
    rintro rfl hlost
    rw [Part.linkUp_k_of_lost (by exact hlost)]
    refine ⟨Part.setCondition_condition (by decide) _ _, ?_, fun d hd hb => Part.setCondition_other hb hd _ _⟩
    rw [Part.setCondition_core, Part.setCondition_receivers, Part.setCondition_links]
    rfl
  case other =>
    intro h
    rw [Part.linkUp_eq (by exact h)]
    rfl

/-! ### Requests and their responses (R167, R170 to R172) -/

theorem lengthByte_of_length_le {payload : List Byte} (h : payload.length ≤ 200) :
    lengthByte payload = BitVec.ofNat 8 (payload.length + 1) := by
  rw [lengthByte, Nat.min_eq_right (by omega)]

theorem toBytes_two (n : Nat) : toBytes 2 n = [BitVec.ofNat 8 (n / 256), BitVec.ofNat 8 n] := by
  simp [toBytes]

theorem ofNat_mod_byte (n : Nat) : BitVec.ofNat 8 (n % 256) = BitVec.ofNat 8 n :=
  BitVec.eq_of_toNat_eq (by simp)

/-- Settles O6: the three answers of `perform`, the response formed by `owing`, and the CRC read byte by byte. -/
theorem requestsAreTakenAndAnswered : Obligations.RequestsAreTakenAndAnswered := by
  refine ⟨fun k p b s hunting hlen => ?answer, fun s p kind r v => ?formed, fun kind payload hlen => ?frame, rfl,
    fun bytes b => ?crc⟩
  case answer =>
    rw [exec_command_hunt hunting hlen]
    split
    next permitted =>
      have permitted : k.permitted p (s.part.taking p k.byte).lifecycle = true := by simpa using permitted
      split
      next admitted => rw [Part.perform_permitted permitted admitted]
      next unadmitted =>
        rw [Part.perform_unadmitted permitted (by simpa using unadmitted)]
        rfl
    next refused =>
      rw [Part.perform_notPermitted (by simpa using refused)]
      rfl
  case formed => exact Part.setReceive_state p _ v
  case frame =>
    rw [frameBytes, lengthByte_of_length_le hlen, toBytes_two, ← ofNat_mod_byte (frameCheck _ _)]
    rfl
  case crc =>
    rw [crc16, crc_append_singleton, crcByte, crcShift_eq_iterate]
    rfl

/-- A kind that names no request is not one of the table's. -/
theorem reqKindOf_of_unknown {kind : Byte} (h : kindIsUnknown kind = true) : reqKindOf kind = none := by
  simp only [kindIsUnknown, Bool.or_eq_true, Bool.and_eq_true, decide_eq_true_eq] at h
  unfold reqKindOf
  split
  case h_22 => rfl
  all_goals omega

/-- The payload lengths that each request but SUBMIT_CODE admits (R190). -/
theorem ReqKind.admits_iff (k : ReqKind) (n : Nat) :
    k.admits n = true ↔
      match k with
      | .energyReport => n = 6
      | .submitCode => True
      | .readRegisters | .relayTest => n = 1
      | .tariffWrite => 3 ≤ n ∧ n ≤ 66
      | .tariffRead | .setTime | .readJournal => n = 4
      | .configWrite => n = 5
      | .loadKey => n = 17
      | .switchReady | .takeEc | .confirmReconnect | .readDisplay | .readState | .tariffFinish | .tariffDiscard
      | .fetchNotice | .noticeDone | .activateInitialBank | .enterService => n = 0 := by
  cases k <;> simp [ReqKind.admits, within]

/-- Settles O7: the table row by row. -/
theorem permissionTable : Obligations.PermissionTable := by
  refine ⟨⟨fun k => ?_, fun k byte low high hrow => ?_, fun kind hlow hhigh => ?_⟩, fun k p l => ?_⟩
  · cases k <;> simp
  · cases k <;>
      (simp at hrow
       obtain ⟨rfl, rfl, rfl⟩ := hrow
       exact ⟨rfl, rfl, fun hk n => (ReqKind.admits_iff _ n).trans (by simp at hk ⊢ <;> omega),
        fun hk n => (ReqKind.admits_iff _ n).mpr (by simp at hk ⊢)⟩)
  · have unknown : kindIsUnknown kind = true := by simp [kindIsUnknown, hlow, hhigh]
    exact ⟨unknown, reqKindOf_of_unknown unknown⟩
  · cases k <;> simp [ReqKind.permitted, ReqKind.onPort, ReqKind.provisioningOnly]

/-- Settles O8: the kinds that name no request are NOT_PERMITTED, and they are below 0x80. -/
theorem unknownKindIsNotPermitted : Obligations.UnknownKindIsNotPermitted := by
  intro p kind b s hunting unknown hlen
  have below : ¬ (0x80 ≤ kind.toNat) := by
    simp only [kindIsUnknown, Bool.or_eq_true, Bool.and_eq_true, decide_eq_true_eq] at unknown
    omega
  have answered : (s.part.taking p kind).perform kind p b = (s.part.taking p kind, justStatus Status.notPermitted) := by
    simp [Part.perform, reqKindOf_of_unknown unknown]
  rw [exec_eq]
  change Host.Outcome.next (s.becomes (s.part.frameArrives p kind b)) = _
  rw [Part.frameArrives_hunt hunting hlen below, answered]
  rfl

/-! ### The receiver (R168 to R170, R176) -/

/-- Settles O10: the receiver's table, state by state. -/
theorem characterMovesTheReceiver : Obligations.CharacterMovesTheReceiver := by
  intro p c s st h
  have effect : s.part.receiveGood p c = s.part.hear p st := by
    rw [Part.receiveGood]
    cases hs : (s.part.receivers.get p).state with
    | stopped => simp [hs] at h
    | held => simp [hs] at h
    | hunt =>
      simp only [hs] at h
      rw [h]
      rfl
    | length =>
      simp only [hs] at h
      rw [h]
      simp [afterLength]
    | body length due kept =>
      simp only [hs] at h
      obtain ⟨last, notLast, pos⟩ := h
      dsimp only
      rw [afterBody]
      split
      next hle => rw [last (by omega)]
      next hgt => rw [notLast (by omega)]
    | check length kept first =>
      cases first with
      | none => simp only [hs] at h; rw [h]
      | some x => simp [hs] at h
    | drain owed => simp only [hs] at h; rw [h]
    | busy frame => simp only [hs] at h; rw [h]
  rw [exec_eq]
  change Host.Outcome.next (s.becomes (s.part.receiveGood p c)) = _
  rw [effect]
  rfl

/-- Settles O11: each way out of a frame, receive state by receive state. -/
theorem receiverLeavesAFrame : Obligations.ReceiverLeavesAFrame := by
  refine ⟨fun p c s => ⟨fun ignored low => ?ignored, fun st h => ?error⟩, fun p s st timely h => ?silence,
    fun p frame s busy => ?sent⟩
  case ignored =>
    have good : s.part.receiveGood p c = s.part := by
      rw [Part.receiveGood]
      rcases ignored with hs | hs <;> rw [hs]
    have bad : s.part.receiveBad p = s.part := by
      rw [Part.receiveBad]
      rcases ignored with hs | hs <;> rw [hs]
    rw [exec_eq]
    cases low with
    | false => exact congrArg (fun v => Host.Outcome.next (s.becomes v)) good
    | true => exact congrArg (fun v => Host.Outcome.next (s.becomes v)) bad
  case error =>
    have effect : s.part.receiveBad p = s.part.hear p st := by
      rw [Part.receiveBad]
      cases hs : (s.part.receivers.get p).state <;> simp only [hs] at h <;> rw [h]
    rw [exec_eq]
    exact congrArg (fun v => Host.Outcome.next (s.becomes v)) effect
  case silence =>
    have effect : s.part.receiveSilence p = s.part.setReceive p st := by
      rw [Part.receiveSilence]
      cases hs : (s.part.receivers.get p).state with
      | drain owed =>
        cases owed with
        | false => simp only [hs] at h; rw [h]
        | true => simp only [hs] at h; rw [h]; rfl
      | _ => simp only [hs] at h <;> rw [h]
    exact (expire_of_not_mem timely _).trans (congrArg (fun v => Host.Outcome.next (s.becomes v)) effect)
  case sent =>
    have effect : s.part.endResponse p =
        s.part.setReceive p (if s.part.power = .running then .hunt else .stopped) := by
      rw [Part.endResponse, busy]
      simp [Part.running]
    rw [exec_eq]
    exact congrArg (fun v => Host.Outcome.next (s.becomes v)) effect

theorem beNat_two (first second : Byte) : beNat [first, second] = 256 * first.toNat + second.toNat := by
  simp [beNat]
  omega

/-- Settles O12: a frame that does not match, or that no request can be, is judged a frame error. -/
theorem damagedFrameIsFrameError : Obligations.DamagedFrameIsFrameError := by
  intro p length kind first second b s hs damaged
  have effect : s.part.receiveGood p second = s.part.hear p (.busy (frameBytes 0xFF [0x03])) := by
    rw [Part.receiveGood, hs]
    dsimp only
    rw [Part.judgeFrame, beNat_two, frameCheck, Part.takeChecked]
    split
    next matching =>
      rw [if_pos (damaged.resolve_left (not_not.mpr matching)), Part.frameError, Part.hear_setReceive]
      rfl
    next => rw [Part.frameError, Part.hear_setReceive]; rfl
  rw [exec_eq]
  exact congrArg (fun v => Host.Outcome.next (s.becomes v)) effect

/-! ### Port reset and link silence (R173 to R175) -/

/-- Settles O13: the reset input, the receiver and the levels in service of the port. -/
theorem portResetHoldsOnePort : Obligations.PortResetHoldsOnePort := by
  refine fun p s => ⟨fun supplied started => ?assert, fun running held => ?release⟩
  case assert =>
    have inReset : (s.part.receivers.get p).state.inReset = .held := by
      cases hs : (s.part.receivers.get p).state with
      | stopped => exact absurd hs started
      | _ => rfl
    have effect : s.part.assertReset p =
        (((s.part.setResetInput p true).setReceive p .held).clearLevels p) := by
      rw [Part.assertReset]
      rw [if_pos (by exact s.part.mainOn_iff.mpr supplied), ← inReset]
      rfl
    rw [exec_eq]
    exact congrArg (fun v => Host.Outcome.next (s.becomes v)) (effect.trans rfl)
  case release =>
    have effect : s.part.releaseReset p = ((s.part.setResetInput p false).setReceive p .hunt) := by
      rw [Part.releaseReset]
      rw [show ((s.part.setResetInput p false).receivers.get p).state = .held from held]
      dsimp only
      rw [if_pos (by exact s.part.running_iff.mpr running)]
    rw [exec_eq]
    exact congrArg (fun v => Host.Outcome.next (s.becomes v)) effect

/-- Settles O14: each expiry while the main domain runs, link by link. -/
theorem silentLinkIsSuspectThenLost : Obligations.SilentLinkIsSuspectThenLost := by
  intro s running
  have running : s.part.running = true := s.part.running_iff.mpr running
  refine ⟨fun l up timely => ?suspect, fun suspect timely => ?meter, fun suspect timely => ?keypad⟩
  case suspect =>
    refine (expire_of_not_mem timely _).trans ?_
    rw [Part.suspectLink, running, up]
    rfl
  case meter =>
    refine (expire_of_not_mem timely _).trans ?_
    rw [Part.linkExpires, running, show (s.part.links.get .m).state = .suspect from suspect]
    rfl
  case keypad =>
    refine (expire_of_not_mem timely _).trans ?_
    rw [Part.linkExpires, running, show (s.part.links.get .k).state = .suspect from suspect]
    rfl

end Sys2Proof.Machine
end

section
/-! A frame's characters are its request (R167, R168, R170; log 12). Until the last character they move the port's receiver
alone, and no expiry of the moment is overtaken by that. Settles O9. -/

namespace Sys2Proof.Machine

/-! ### Hearing a character moves the receiver alone -/

/-- The state whose port has just heard a character. -/
def State.heard (s : State) (p : Port) (st : Receive) : State := { s with part := s.part.hear p st }

theorem Part.silenceDue_hear_self (u : Part) (p : Port) (st : Receive) : (u.hear p st).silenceDue p = false := by
  have fresh : ¬ (u.timeBase + Config.milliseconds 20 ≤ u.timeBase) := by simp [Config.milliseconds]
  rw [Bool.eq_false_iff]
  intro due
  obtain ⟨late, -⟩ := ((u.hear p st).silenceDue_iff p).mp due
  rw [Part.hear, PerPort.get_set_self] at late
  exact fresh late

theorem Part.silenceDue_hear_of_ne {p q : Port} (h : q ≠ p) (u : Part) (st : Receive) :
    (u.hear p st).silenceDue q = u.silenceDue q := by
  rw [Part.silenceDue, Part.hear, PerPort.get_set_of_ne _ _ h]
  rfl

/-- A character takes no expiry's time away, when the port's silence was not due. -/
theorem Part.hasCome_hear {u : Part} {p : Port} (h : u.silenceDue p = false) (st : Receive) (i : Instr) :
    (u.hear p st).hasCome i = u.hasCome i := by
  cases i with
  | receiveSilenceTimeout q =>
    change (u.running && (u.hear p st).silenceDue q) = (u.running && u.silenceDue q)
    by_cases hq : q = p
    · rw [hq, Part.silenceDue_hear_self, h]
    · rw [Part.silenceDue_hear_of_ne hq]
  | codeLockoutExpiry q => cases q <;> rfl
  | _ => rfl

/-- Nothing is overtaken when every time that had come still has. -/
theorem Part.overtaking_of_hasCome_eq {u v : Part} (h : ∀ i, v.hasCome i = u.hasCome i) (w : List Instr) :
    u.overtaking w v = v := by
  have none_lost : w.filter (fun i => u.hasCome i && !v.hasCome i && !v.overtaken.contains i) = [] := by
    simp [h]
  rw [Part.overtaking, none_lost, List.append_nil]

theorem State.becomes_hear {s : State} {p : Port} (watched : s.part.Watched) (h : s.part.silenceDue p = false)
    (st : Receive) : s.becomes (s.part.hear p st) = s.heard p st := by
  rw [State.becomes, Part.watchContacts_hear, show s.part.watchContacts = s.part from watched,
    Part.overtaking_of_hasCome_eq (Part.hasCome_hear h st)]
  rfl

/-- What a port that has just heard a character does next is seen alike from before it. -/
theorem State.heard_becomes {s : State} {p : Port} (h : s.part.silenceDue p = false) (st : Receive) (v : Part) :
    (s.heard p st).becomes v = s.becomes v := by
  simp only [State.becomes, State.heard, Part.overtaking, Part.hasCome_hear h]

theorem State.heard_heard (s : State) (p : Port) (a b : Receive) : (s.heard p a).heard p b = s.heard p b := by
  simp [State.heard]

/-! ### Character after character -/

/-- One character of a frame that is not its last. -/
theorem execAll_character {s : State} {p : Port} {c : Byte} {a b : Receive} {rest : List Instr}
    (watched : s.part.Watched) (hears : (s.part.hear p a).receiveGood p c = s.part.hear p b) :
    execAll (.characterReceived p c false :: rest) (s.heard p a) = execAll rest (s.heard p b) := by
  have quiet := s.part.silenceDue_hear_self p a
  have step : exec (.characterReceived p c false) (s.heard p a) = .next (s.heard p b) := by
    have reached : (s.heard p a).part.receiveGood p c = (s.heard p a).part.hear p b :=
      hears.trans (Part.hear_hear _ _ _ _).symm
    rw [exec_eq]
    change Host.Outcome.next ((s.heard p a).becomes ((s.heard p a).part.receiveGood p c)) = _
    rw [reached, State.becomes_hear (by exact congrArg (Part.hear p a) watched) quiet, State.heard_heard]
  rw [execAll, step]

theorem Part.receiveGood_hear (u : Part) (p : Port) (a : Receive) (c : Byte) :
    (u.hear p a).receiveGood p c =
      match a with
      | .stopped => u.hear p a
      | .held => u.hear p a
      | .hunt => u.hear p (if c = startByte then .length else .hunt)
      | .length => u.hear p (afterLength c)
      | .body length due kept => u.hear p (afterBody length due kept c)
      | .check length kept none => u.hear p (.check length kept (some c))
      | .check length kept (some first) => Part.judgeFrame p length kept first c (u.hear p a)
      | .drain owed => u.hear p (.drain owed)
      | .busy frame => u.hear p (.busy frame) := by
  rw [Part.receiveGood, Part.hear_state]
  split <;> simp

/-- The bytes of the body lead to CHECK with all of them kept (R168). -/
theorem execAll_body {s : State} {p : Port} (watched : s.part.Watched) (length : Byte) (rest : List Instr)
    (bytes kept : List Byte) (h : bytes ≠ []) :
    execAll (characters p bytes ++ rest) (s.heard p (.body length bytes.length kept)) =
      execAll rest (s.heard p (.check length (kept ++ bytes) none)) := by
  induction bytes generalizing kept with
  | nil => exact absurd rfl h
  | cons c bytes ih =>
    have hears := s.part.receiveGood_hear p (.body length (c :: bytes).length kept) c
    change execAll (.characterReceived p c false :: (characters p bytes ++ rest)) _ = _
    rw [execAll_character watched hears]
    cases bytes with
    | nil => rfl
    | cons d bytes =>
      have more : afterBody length (c :: d :: bytes).length kept c =
          .body length (d :: bytes).length (kept ++ [c]) := by simp [afterBody]
      rw [more, ih _ (by simp)]
      simp

theorem afterLength_of_length_le {payload : List Byte} (h : payload.length ≤ 200) :
    afterLength (lengthByte payload) = .body (lengthByte payload) (payload.length + 1) [] := by
  have value : (lengthByte payload).toNat = payload.length + 1 := by
    rw [lengthByte_of_length_le h, BitVec.toNat_ofNat]
    omega
  rw [afterLength, value, if_pos (by simp; omega)]

/-- The check bytes of a frame spell its check. -/
theorem beNat_toBytes_two {n : Nat} (h : n < 65536) :
    beNat [BitVec.ofNat 8 (n / 256), BitVec.ofNat 8 n] = n := by
  rw [beNat_two, BitVec.toNat_ofNat, BitVec.toNat_ofNat]
  omega

/-- The frame is taken at its last character, as if it had been heard at once. -/
theorem Part.receiveGood_last (u : Part) (p : Port) (kind : Byte) (payload : List Byte) :
    (u.hear p (.check (lengthByte payload) (kind :: payload)
        (some (BitVec.ofNat 8 (frameCheck (lengthByte payload) (kind :: payload) / 256))))).receiveGood p
      (BitVec.ofNat 8 (frameCheck (lengthByte payload) (kind :: payload))) = u.hearFrame p kind payload := by
  rw [Part.receiveGood_hear]
  dsimp only
  rw [Part.judgeFrame, beNat_toBytes_two (BitVec.isLt _), if_pos rfl, Part.hearFrame]
  exact u.takeChecked_hear p _ _ kind payload

theorem Part.silenceDue_of_hunting {u : Part} {p : Port} (h : u.hunting p) : u.silenceDue p = false := by
  rw [Part.silenceDue, show (u.receivers.get p).state = .hunt from h]
  rfl

/-- The start byte of a frame that a port in HUNT hears. -/
theorem execAll_startByte {s : State} {p : Port} (hunting : s.part.hunting p) (watched : s.part.Watched)
    (rest : List Instr) :
    execAll (.characterReceived p startByte false :: rest) s = execAll rest (s.heard p .length) := by
  have hears : s.part.receiveGood p startByte = s.part.hear p .length := by
    rw [Part.receiveGood, show (s.part.receivers.get p).state = .hunt from hunting]
    rfl
  have step : exec (.characterReceived p startByte false) s = .next (s.heard p .length) := by
    rw [exec_eq]
    change Host.Outcome.next (s.becomes (s.part.receiveGood p startByte)) = _
    rw [hears, State.becomes_hear watched (Part.silenceDue_of_hunting hunting)]
  rw [execAll, step]

/-- The last character of a frame. -/
theorem execAll_last {s : State} {p : Port} {a : Receive} {c : Byte} {v : Part} (quiet : s.part.silenceDue p = false)
    (hears : (s.part.hear p a).receiveGood p c = v) :
    execAll [.characterReceived p c false] (s.heard p a) = .next (s.becomes v) := by
  have step : exec (.characterReceived p c false) (s.heard p a) = .next (s.becomes v) := by
    rw [exec_eq, ← State.heard_becomes quiet a, ← hears]
    rfl
  rw [execAll, step]
  rfl

/-- The characters of a whole frame that a port in HUNT hears. -/
theorem execAll_frame {s : State} {p : Port} {kind : Byte} {b : List Byte} (hunting : s.part.hunting p)
    (watched : s.part.Watched) (hlen : b.length ≤ 200) :
    execAll (characters p (frameBytes kind b)) s = .next (s.becomes (s.part.hearFrame p kind b)) := by
  have spelled : characters p (frameBytes kind b) =
      .characterReceived p startByte false :: .characterReceived p (lengthByte b) false ::
        (characters p (kind :: b) ++
          [.characterReceived p (BitVec.ofNat 8 (frameCheck (lengthByte b) (kind :: b) / 256)) false,
            .characterReceived p (BitVec.ofNat 8 (frameCheck (lengthByte b) (kind :: b))) false]) := by
    rw [frameBytes, toBytes_two]
    simp [characters]
  rw [spelled, execAll_startByte hunting watched, execAll_character watched (s.part.receiveGood_hear p _ _),
    afterLength_of_length_le hlen]
  refine (execAll_body watched _ _ (kind :: b) [] (by simp)).trans ?_
  rw [List.nil_append, execAll_character watched (s.part.receiveGood_hear p _ _)]
  exact execAll_last (Part.silenceDue_of_hunting hunting) (s.part.receiveGood_last p kind b)

theorem Part.frameArrives_of_hunting {u : Part} {p : Port} {b : List Byte} (hunting : u.hunting p)
    (hlen : b.length ≤ 200) (kind : Byte) : u.frameArrives p kind b = u.hearFrame p kind b := by
  rw [Part.frameArrives, show (u.receivers.get p).state = .hunt from hunting]
  exact if_pos hlen

/-- Settles O9: character after character up to the last, at which the frame is taken. -/
theorem frameCharactersAreTheRequest : Obligations.FrameCharactersAreTheRequest := by
  intro p kind b s hunting watched hlen
  have arrives := Part.frameArrives_of_hunting hunting hlen kind
  refine ⟨?unknown, ?known⟩
  case unknown =>
    rw [execAll_frame hunting watched hlen, exec_eq, ← arrives]
    rfl
  case known =>
    rintro k rfl
    rw [execAll_frame hunting watched hlen, exec_command, answer_eq, arrives]

end Sys2Proof.Machine
end

section
/-! What an event leaves of the pending notices: which kinds each shared operation places, so that a notice placed before it
is pending behind it (R178, R179). -/

namespace Sys2Proof.Machine

theorem kindIndex_injective : Function.Injective kindIndex := by
  intro a b h
  cases a <;> cases b <;> first | rfl | exact absurd h (by decide)

/-- Between `u` and `v` no notice of this kind has been placed, and the routing is the same. -/
structure Part.KeepsKind (k : NoticeKind) (u v : Part) : Prop where
  config : v.config = u.config
  none : u.PlacesNone k v

namespace Part.KeepsKind

theorem refl (k : NoticeKind) (u : Part) : u.KeepsKind k u := ⟨rfl, fun _ => rfl⟩

theorem trans {k : NoticeKind} {u v w : Part} (a : u.KeepsKind k v) (b : v.KeepsKind k w) : u.KeepsKind k w :=
  ⟨b.config.trans a.config, fun p => (b.none p).trans (a.none p)⟩

theorem of_eq (k : NoticeKind) {u v : Part} (c : v.config = u.config) (n : v.notices = u.notices) : u.KeepsKind k v :=
  ⟨c, fun p => by rw [n]⟩

theorem of_sansStore (k : NoticeKind) {u v : Part} (h : v.sansStore = u.sansStore) : u.KeepsKind k v := by
  have config := congrArg Part.config h
  have notices := congrArg Part.notices h
  exact of_eq k config notices

theorem ite {k : NoticeKind} {u v w : Part} {b : Prop} [Decidable b] (h : b → u.KeepsKind k v)
    (h' : ¬ b → u.KeepsKind k w) : u.KeepsKind k (if b then v else w) := by
  split
  next hb => exact h hb
  next hb => exact h' hb

theorem after {k : NoticeKind} {u v w : Part} (h : v.KeepsKind k w) (c : v.config = u.config)
    (n : v.notices = u.notices) : u.KeepsKind k w := (of_eq k c n).trans h

/-- A notice pending before is pending behind. -/
theorem placed {x : Notice} {u v : Part} (h : u.KeepsKind x.kind v) (placed : u.Placed x) : v.Placed x := by
  intro p routed
  rw [h.config] at routed
  obtain ⟨y, held, same⟩ := placed p routed
  exact ⟨y, (h.none p).trans held, same⟩

end Part.KeepsKind

namespace Part

open Part.KeepsKind (refl of_eq of_sansStore ite)

/-! ### Placing -/

theorem placeOn_kind {k : NoticeKind} {x : Notice} (h : x.kind ≠ k) (p : Port) (u : Part) :
    u.KeepsKind k (u.placeOn p x) := by
  refine ⟨by simp, fun q => ?_⟩
  by_cases hq : q = p
  · have distinct : (kindIndex x.kind).val ≠ (kindIndex k).val :=
      fun e => h (kindIndex_injective (Fin.ext e))
    simp [hq, Part.placeOn, Part.putNotices, NoticePort.place, Vector.getElem_set_ne, distinct, Vector.get_eq_getElem]
  · simp only [Part.placeOn, Part.putNotices]
    rw [PerPort.get_set_of_ne _ _ hq]

theorem placeIf_kind {k : NoticeKind} {x : Notice} (h : x.kind ≠ k) (b : Bool) (p : Port) (u : Part) :
    u.KeepsKind k (u.placeIf b p x) := ite (fun _ => placeOn_kind h p u) (fun _ => refl k u)

theorem place_kind {k : NoticeKind} {x : Notice} (h : x.kind ≠ k) (u : Part) : u.KeepsKind k (u.place x) :=
  ((placeIf_kind h _ .m u).trans (placeIf_kind h _ .k _)).trans (placeIf_kind h _ .s _)

/-! ### Operations that place none -/

theorem journal_kind (k : NoticeKind) (d : JournalDetail) (u : Part) : u.KeepsKind k (u.journal d) :=
  of_sansStore k (u.journal_sansStore d)

theorem markDueIf_kind (k : NoticeKind) (b : Bool) (u : Part) : u.KeepsKind k (Part.markDueIf b u) :=
  of_sansStore k (u.markDueIf_sansStore b)

theorem requestCheckpoint_kind (k : NoticeKind) (r : CheckpointReason) (u : Part) :
    u.KeepsKind k (u.requestCheckpoint r) := of_sansStore k (u.requestCheckpoint_sansStore r)

theorem putRecord_kind (k : NoticeKind) (c : TamperCause) (r : TamperRecord) (u : Part) :
    u.KeepsKind k (u.putRecord c r) := (markDueIf_kind k _ _).after (by rfl) (by rfl)

theorem absentEvidence_kind (k : NoticeKind) (c : TamperCause) (u : Part) : u.KeepsKind k (u.absentEvidence c) := by
  unfold Part.absentEvidence Part.bufferEvent
  cases causeCover c with
  | none => exact ite (fun _ => journal_kind k _ u) (fun _ => of_eq k rfl rfl)
  | some cover =>
    refine ite (fun _ => KeepsKind.trans (v := if 4 ≤ u.tamper.buffer.length then u else _)
      (ite (fun _ => refl k u) fun _ => ?_) (of_eq k rfl rfl)) (fun _ => journal_kind k _ u)
    exact of_eq k rfl rfl

theorem conditionEnds_kind (k : NoticeKind) (c : TamperCause) (u : Part) : u.KeepsKind k (u.conditionEnds c) := by
  unfold Part.conditionEnds
  dsimp only
  split
  · exact putRecord_kind k _ _ _
  · exact putRecord_kind k _ _ _
  · exact putRecord_kind k _ _ _
  · refine ite (fun _ => putRecord_kind k _ _ _) (fun _ => ?_)
    exact ((putRecord_kind k _ _ _).trans (putRecord_kind k _ _ _)).trans (absentEvidence_kind k _ _)

/-! ### The supply decision (R100, R103, R105) -/

theorem putLogical_kind (k : NoticeKind) (l : Logical) (u : Part) : u.KeepsKind k (u.putLogical l) :=
  (markDueIf_kind k _ _).after (by rfl) (by rfl)

theorem putOpeningRecord_kind (k : NoticeKind) (r : OpeningRecord) (u : Part) : u.KeepsKind k (u.putOpeningRecord r) :=
  (markDueIf_kind k _ _).after (by rfl) (by rfl)

theorem settleRelay_kind (k : NoticeKind) (st : Settled) (u : Part) : u.KeepsKind k (u.settleRelay st) :=
  (putLogical_kind k _ _).after (by rfl) (by rfl)

theorem leaveBypassWatch_kind (k : NoticeKind) (d : Direction) (u : Part) : u.KeepsKind k (u.leaveBypassWatch d) := by
  unfold Part.leaveBypassWatch
  split
  · exact ite (fun _ => conditionEnds_kind k _ u) (fun _ => refl k u)
  · exact ite (fun _ => conditionEnds_kind k _ u) (fun _ => refl k u)
  · exact refl k u

/-- The start of an operation places SUPPLY_PENDING alone (R106). -/
theorem startOperation_kind {k : NoticeKind} (h : k ≠ .supplyPending) (d : Direction) (r : Reason) (u : Part) :
    u.KeepsKind k (u.startOperation d r) := by
  refine ite (fun _ => ?_) (fun _ => refl k u)
  have unplaced := ((leaveBypassWatch_kind k d u).trans (putOpeningRecord_kind k (u.recordAtStart d r) _)).trans
    (putLogical_kind k .inProgress _)
  have placed (a b : Bool) (v : Part) :
      v.KeepsKind k ((v.placeIf a .m (.supplyPending d r)).placeIf b .k (.supplyPending d r)) :=
    (placeIf_kind (by exact h.symm) a .m v).trans (placeIf_kind (by exact h.symm) b .k _)
  exact unplaced.trans ((placed _ _ _).after (by rfl) (by rfl))

theorem leaveOpen_kind {k : NoticeKind} (h : k ≠ .supplyPending) (h' : k ≠ .awaitingConfirm) (u : Part) :
    u.KeepsKind k u.leaveOpen :=
  ite (fun _ => (settleRelay_kind k _ u).trans (place_kind (by exact h'.symm) _)) (fun _ => startOperation_kind h _ _ u)

/-- The decision places SUPPLY_PENDING and AWAITING_CONFIRM alone (R103, R106). -/
theorem actOn_kind {k : NoticeKind} (h : k ≠ .supplyPending) (h' : k ≠ .awaitingConfirm) (st : Settled) (c : CauseSet)
    (u : Part) : u.KeepsKind k (u.actOn st c) := by
  cases st with
  | closed => exact ite (fun _ => startOperation_kind h _ _ u) (fun _ => refl k u)
  | opened =>
    exact ite (fun _ => putOpeningRecord_kind k _ u)
      (fun _ => (putOpeningRecord_kind k _ u).trans (leaveOpen_kind h h' _))
  | awaitingConfirm =>
    exact ite (fun _ => (putOpeningRecord_kind k _ u).trans (settleRelay_kind k _ _)) (fun _ => refl k u)
  | stuckClosed => exact putOpeningRecord_kind k _ u
  | stuckOpen => exact refl k u

theorem recompute_kind {k : NoticeKind} (h : k ≠ .supplyPending) (h' : k ≠ .awaitingConfirm) (u : Part) :
    u.KeepsKind k u.recompute := by
  refine ite (fun _ => ?_) (fun _ => refl k u)
  cases u.supply.relay with
  | operating op => exact refl k u
  | settled st => exact (actOn_kind h h' st _ _).after (by rfl) (by rfl)

theorem handCauses_kind {k : NoticeKind} (h : k ≠ .supplyPending) (h' : k ≠ .awaitingConfirm) (c : CauseSet) (u : Part) :
    u.KeepsKind k (u.handCauses c) :=
  ite (fun _ => refl k u) (fun _ => (recompute_kind h h' _).after (by rfl) (by rfl))

end Part

end Sys2Proof.Machine
end

section
/-! The account (chapter 1): what a derivation gives and which notices it places, and what charges request. Settles O15,
O16 and O17. -/

namespace Sys2Proof.Machine

/-! ### The credit state, EC availability and the causes (R13, R19, R20) -/

section CreditState

variable (balance : Int) (ecOwed low limit amount threshold : Nat) (friendly : Bool)

theorem creditStateOf_normal :
    creditStateOf balance ecOwed low limit friendly = .normal ↔ balance > 1000 * low ∧ ecOwed = 0 := by
  unfold creditStateOf
  split_ifs with pos owed rich held <;> simp <;> omega

theorem creditStateOf_low :
    creditStateOf balance ecOwed low limit friendly = .low ↔ 0 < balance ∧ balance ≤ 1000 * low ∧ ecOwed = 0 := by
  unfold creditStateOf
  split_ifs with pos owed rich held <;> simp <;> omega

theorem creditStateOf_emergency :
    creditStateOf balance ecOwed low limit friendly = .emergency ↔ balance > 0 ∧ ecOwed > 0 := by
  unfold creditStateOf
  split_ifs with pos owed rich held <;> simp <;> omega

theorem creditStateOf_friendlyHold :
    creditStateOf balance ecOwed low limit friendly = .friendlyHold ↔
      balance ≤ 0 ∧ friendly = true ∧ balance > -(1000 * limit) := by
  unfold creditStateOf
  split_ifs with pos owed rich held <;> simp_all

theorem creditStateOf_exhausted :
    creditStateOf balance ecOwed low limit friendly = .exhausted ↔
      balance ≤ 0 ∧ ¬ (friendly = true ∧ balance > -(1000 * limit)) := by
  unfold creditStateOf
  split_ifs with pos owed rich held <;> simp_all

theorem ecAvailableOf_iff :
    ecAvailableOf balance ecOwed amount threshold = true ↔ amount > 0 ∧ ecOwed = 0 ∧ balance < 1000 * threshold := by
  simp [ecAvailableOf, and_assoc]

theorem noCreditOf_iff : noCreditOf balance = true ↔ balance ≤ 0 := by simp [noCreditOf]

theorem debtLimitOf_iff : debtLimitOf balance limit = true ↔ balance ≤ -(1000 * limit) := by simp [debtLimitOf]

end CreditState

/-! ### The notices of a derivation (R21) -/

/-- `v` holds the notice when `b`, and otherwise no notice of its kind has been placed since `u`. -/
def Part.PlacesJust (b : Prop) (x : Notice) (u v : Part) : Prop := (b → v.Placed x) ∧ (¬ b → u.PlacesNone x.kind v)

theorem Part.PlacesJust.before {b : Prop} {x : Notice} {u v w : Part} (h : Part.PlacesJust b x v w)
    (k : u.KeepsKind x.kind v) : Part.PlacesJust b x u w :=
  ⟨h.1, fun hb p => (h.2 hb p).trans (k.none p)⟩

theorem Part.PlacesJust.behind {b : Prop} {x : Notice} {u v w : Part} (h : Part.PlacesJust b x u v)
    (k : v.KeepsKind x.kind w) : Part.PlacesJust b x u w :=
  ⟨fun hb => k.placed (h.1 hb), fun hb p => (k.none p).trans (h.2 hb p)⟩

/-- A notice that a condition places. -/
def Part.placeWhen (b : Prop) [Decidable b] (x : Notice) (u : Part) : Part := if b then u.place x else u

theorem Part.placeWhen_just (b : Prop) [Decidable b] (x : Notice) (u : Part) :
    Part.PlacesJust b x u (u.placeWhen b x) := by
  unfold Part.placeWhen
  refine ⟨fun h => ?_, fun h => ?_⟩
  · rw [if_pos h]
    exact u.place_placed x
  · rw [if_neg h]
    exact fun _ => rfl

theorem Part.placeWhen_kind {k : NoticeKind} {x : Notice} (h : x.kind ≠ k) (b : Prop) [Decidable b] (u : Part) :
    u.KeepsKind k (u.placeWhen b x) := .ite (fun _ => Part.place_kind h u) (fun _ => .refl k u)

/-- The four notices of a derivation, each under its own condition. -/
theorem Part.creditNotices_eq (before : Account) (u : Part) :
    u.creditNotices before =
      (((u.placeWhen (u.account.ecAvailable = true ∧ before.ecAvailable = false)
            (.ecAvailable (u.bankValue bankEcAmount 0) u.account.balance)).placeWhen
          (u.account.creditState = .low ∧ before.creditState ≠ .low)
            (.creditLow u.account.creditState u.account.balance)).placeWhen
        (u.account.creditState = .exhausted ∧ before.creditState ≠ .exhausted)
          (.creditExhausted u.account.creditState u.account.balance)).placeWhen
        (¬ (u.account.creditState = .friendlyHold ↔ before.creditState = .friendlyHold))
          (.friendlyChanged u.account.creditState u.account.balance) := by
  by_cases same : u.account.creditState = .friendlyHold ↔ before.creditState = .friendlyHold
  · simp [Part.creditNotices, Part.placeWhen, same]
  · simp [Part.creditNotices, Part.placeWhen, same]

/-- Each notice of a derivation is placed under its own condition, whatever the others are. -/
theorem Part.creditNotices_just (before : Account) (u : Part) :
    Part.PlacesJust (u.account.ecAvailable = true ∧ before.ecAvailable = false)
      (.ecAvailable (u.bankValue bankEcAmount 0) u.account.balance) u (u.creditNotices before) ∧
    Part.PlacesJust (u.account.creditState = .low ∧ before.creditState ≠ .low)
      (.creditLow u.account.creditState u.account.balance) u (u.creditNotices before) ∧
    Part.PlacesJust (u.account.creditState = .exhausted ∧ before.creditState ≠ .exhausted)
      (.creditExhausted u.account.creditState u.account.balance) u (u.creditNotices before) ∧
    Part.PlacesJust (¬ (u.account.creditState = .friendlyHold ↔ before.creditState = .friendlyHold))
      (.friendlyChanged u.account.creditState u.account.balance) u (u.creditNotices before) := by
  rw [Part.creditNotices_eq]
  have other {k : NoticeKind} {x : Notice} (h : x.kind ≠ k) (b : Prop) [Decidable b] (v : Part) :=
    Part.placeWhen_kind h b v
  refine ⟨?ec, ?low, ?exhausted, ?friendly⟩
  case ec =>
    exact (Part.placeWhen_just _ _ u).behind (((other (by simp [Notice.kind]) _ _).trans
      (other (by simp [Notice.kind]) _ _)).trans (other (by simp [Notice.kind]) _ _))
  case low =>
    exact ((Part.placeWhen_just _ _ _).before (other (by simp [Notice.kind]) _ u)).behind
      ((other (by simp [Notice.kind]) _ _).trans (other (by simp [Notice.kind]) _ _))
  case exhausted =>
    exact ((Part.placeWhen_just _ _ _).before ((other (by simp [Notice.kind]) _ u).trans
      (other (by simp [Notice.kind]) _ _))).behind (other (by simp [Notice.kind]) _ _)
  case friendly =>
    exact (Part.placeWhen_just _ _ _).before (((other (by simp [Notice.kind]) _ u).trans
      (other (by simp [Notice.kind]) _ _)).trans (other (by simp [Notice.kind]) _ _))

/-- The part whose account and causes have been derived, its notices not yet placed. -/
def Part.unannounced (u : Part) : Part :=
  { u.putAccount u.derivedAccount with
    accountCauses :=
      { noCredit := noCreditOf u.account.balance,
        debtLimit := debtLimitOf u.account.balance (u.bankValue bankFriendlyDebtLimit 0) },
    supply := { u.supply with causes := { u.supply.causes with
      noCredit := noCreditOf u.account.balance,
      debtLimit := debtLimitOf u.account.balance (u.bankValue bankFriendlyDebtLimit 0) } } }

theorem Part.deriveQuietly_eq (u : Part) : u.deriveQuietly = u.unannounced.creditNotices u.account := by
  simp [Part.deriveQuietly, Part.unannounced]

theorem Part.unannounced_account (u : Part) : u.unannounced.account = u.derivedAccount := u.putAccount_account _

theorem Part.putAccount_kind (k : NoticeKind) (a : Account) (u : Part) : u.KeepsKind k (u.putAccount a) :=
  .ite (fun _ => .refl k u) (fun _ => .of_eq k rfl rfl)

theorem Part.unannounced_kind (k : NoticeKind) (u : Part) : u.KeepsKind k u.unannounced :=
  (u.putAccount_kind k _).trans (.of_eq k rfl rfl)

theorem Part.unannounced_bankValue {α : Type} (f : Image → α) (x : α) (u : Part) :
    u.unannounced.bankValue f x = u.bankValue f x := by
  have keeps : u.unannounced.activeBank = u.activeBank := by
    unfold Part.unannounced Part.putAccount
    split <;> rfl
  unfold Part.bankValue
  rw [keeps]

/-- Settles O15: the rows by their own lemmas, then the derivation with its notices and its hand-over. -/
theorem derivationTable : Obligations.DerivationTable := by
  refine ⟨fun balance ecOwed low limit amount threshold friendly =>
    ⟨creditStateOf_normal .., creditStateOf_low .., creditStateOf_emergency .., creditStateOf_friendlyHold ..,
      creditStateOf_exhausted .., ecAvailableOf_iff .., noCreditOf_iff .., debtLimitOf_iff ..⟩, fun u => ?_⟩
  intro v amount debtLimit before balance after available placesJust
  obtain ⟨ec, low, exhausted, friendly⟩ := u.unannounced.creditNotices_just u.account
  rw [← Part.deriveQuietly_eq, Part.unannounced_account] at ec low exhausted friendly
  refine ⟨u.deriveQuietly_derived, u.deriveQuietly_account, u.deriveQuietly_accountCauses, ?supply,
    ?ec, ?low, ?exhausted, ?friendly, fun h => if_pos h, fun h => if_neg h⟩
  case supply =>
    rw [show v = _ from u.deriveQuietly_eq, Part.creditNotices_supply]
    rfl
  case ec =>
    rw [Part.unannounced_bankValue] at ec
    exact ec.before (u.unannounced_kind _)
  case low => exact low.before (u.unannounced_kind _)
  case exhausted => exact exhausted.before (u.unannounced_kind _)
  case friendly => exact friendly.before (u.unannounced_kind _)

/-! ### What a charge requests (R23) -/

/-- No checkpoint that waits could start: a write is in flight, or none waits. -/
def Part.Unready (u : Part) : Prop := u.store.inFlight.isSome = true ∨ u.store.waiting = none

/-- From a store in which no checkpoint can start, `v` is `u` with no checkpoint requested or started. -/
def Part.AsksNothing (u v : Part) : Prop :=
  u.Unready → v.Unready ∧ v.store.waiting = u.store.waiting ∧
    v.account.chargesSinceCheckpoint = u.account.chargesSinceCheckpoint ∧ ∀ r, v.Requested r → u.Requested r

namespace Part.AsksNothing

theorem refl (u : Part) : u.AsksNothing u := fun h => ⟨h, rfl, rfl, fun _ k => k⟩

theorem trans {u v w : Part} (a : u.AsksNothing v) (b : v.AsksNothing w) : u.AsksNothing w := by
  intro h
  obtain ⟨unready, waits, charges, asked⟩ := a h
  obtain ⟨unready', waits', charges', asked'⟩ := b unready
  exact ⟨unready', waits'.trans waits, charges'.trans charges, fun r k => asked r (asked' r k)⟩

theorem of_eq {u v : Part} (w : v.store.waiting = u.store.waiting) (i : v.store.inFlight = u.store.inFlight)
    (c : v.account.chargesSinceCheckpoint = u.account.chargesSinceCheckpoint) : u.AsksNothing v := by
  intro h
  unfold Part.Unready Part.Requested
  rw [w, i]
  exact ⟨h, rfl, c, fun _ k => k⟩

theorem after {u v w : Part} (h : v.AsksNothing w) (a : v.store.waiting = u.store.waiting)
    (i : v.store.inFlight = u.store.inFlight)
    (c : v.account.chargesSinceCheckpoint = u.account.chargesSinceCheckpoint) : u.AsksNothing w := (of_eq a i c).trans h

/-- A write that is no checkpoint's has started. -/
theorem of_write {u v : Part} (a : u.store.waiting = none) (b : v.store.waiting = none)
    (i : ∀ x, v.store.inFlight ≠ some (.checkpoint x))
    (c : v.account.chargesSinceCheckpoint = u.account.chargesSinceCheckpoint) : u.AsksNothing v := by
  refine fun _ => ⟨.inr b, b.trans a.symm, c, fun r k => ?_⟩
  rcases k with ⟨_, waits, -⟩ | ⟨x, writes, -⟩
  · rw [b] at waits
    cases waits
  · exact absurd writes (i x)

theorem ite {u v w : Part} {b : Prop} [Decidable b] (h : b → u.AsksNothing v) (h' : ¬ b → u.AsksNothing w) :
    u.AsksNothing (if b then v else w) := by
  split
  next hb => exact h hb
  next hb => exact h' hb

end Part.AsksNothing

namespace Part

open Part.AsksNothing (refl of_eq ite)

theorem markDue_asks (u : Part) : u.AsksNothing u.markDue := by
  intro h
  refine ⟨?_, rfl, rfl, fun r k => ?_⟩
  · rcases h with h | h
    · exact .inl (by simpa [Part.markDue] using h)
    · exact .inr h
  · rcases k with k | ⟨x, k, named⟩
    · exact .inl k
    · cases i : u.store.inFlight with
      | none => simp [Part.markDue, i] at k
      | some a =>
        cases a with
        | checkpoint c =>
          simp only [Part.markDue, i, Option.map_some, Attempt.noteChange, Option.some.injEq, Attempt.checkpoint.injEq] at k
          exact .inr ⟨c, i, by rw [← k] at named; exact named⟩
        | bank area image retry => simp [Part.markDue, i, Attempt.noteChange] at k
        | config item value retry => simp [Part.markDue, i, Attempt.noteChange] at k
        | journal e slot retry nothing => simp [Part.markDue, i, Attempt.noteChange] at k

theorem markDueIf_asks (b : Bool) (u : Part) : u.AsksNothing (Part.markDueIf b u) :=
  ite (fun _ => u.markDue_asks) (fun _ => refl u)

theorem startClass2_asks {u : Part} (h : u.store.waiting = none) (w : Class2Write) (rest : List Class2Write) :
    u.AsksNothing (u.startClass2 w rest) := by
  refine .of_write h h (fun x started => ?_) rfl
  cases w with
  | bank area image => cases started
  | config item value => cases started

theorem startJournal_asks {u : Part} (h : u.store.waiting = none) (r : JournalRequest) (rest : List JournalRequest) :
    u.AsksNothing (u.startJournal r rest) := by
  unfold Part.startJournal
  dsimp only
  refine ite (fun _ => .of_write h h (fun x => by simp) rfl) (fun _ => .trans ?_ (markDue_asks _))
  exact .of_write h h (fun x => by simp) rfl

/-- What starts when no checkpoint can is no checkpoint (R151). -/
theorem startNext_asks (u : Part) : u.AsksNothing u.startNext := by
  intro unready
  refine (?_ : u.AsksNothing u.startNext) unready
  unfold Part.startNext
  cases i : u.store.inFlight with
  | some a => exact refl u
  | none =>
    have waits : u.store.waiting = none := unready.resolve_left (by simp [i])
    refine ite (fun _ => refl u) (fun _ => ?_)
    rw [waits]
    dsimp only
    split
    · exact startClass2_asks waits _ _
    · exact startClass2_asks waits _ _
    · split
      · exact startJournal_asks waits _ _
      · exact refl u

theorem journal_asks (d : JournalDetail) (u : Part) : u.AsksNothing (u.journal d) :=
  ite (fun _ => refl u) (fun _ => (startNext_asks _).after (by rfl) (by rfl) (by rfl))

theorem placeOn_asks (p : Port) (x : Notice) (u : Part) : u.AsksNothing (u.placeOn p x) := of_eq rfl rfl rfl

theorem placeIf_asks (b : Bool) (p : Port) (x : Notice) (u : Part) : u.AsksNothing (u.placeIf b p x) :=
  ite (fun _ => placeOn_asks p x u) (fun _ => refl u)

theorem place_asks (x : Notice) (u : Part) : u.AsksNothing (u.place x) :=
  ((placeIf_asks _ .m x u).trans (placeIf_asks _ .k x _)).trans (placeIf_asks _ .s x _)

theorem putRecord_asks (c : TamperCause) (r : TamperRecord) (u : Part) : u.AsksNothing (u.putRecord c r) :=
  (markDueIf_asks _ _).after (by rfl) (by rfl) (by rfl)

theorem bufferEvent_asks (cover : Cover) (b : Bool) (u : Part) : u.AsksNothing (u.bufferEvent cover b) :=
  ite (fun _ => refl u) (fun _ => of_eq rfl rfl rfl)

theorem absentEvidence_asks (c : TamperCause) (u : Part) : u.AsksNothing (u.absentEvidence c) := by
  unfold Part.absentEvidence
  cases causeCover c with
  | none => exact ite (fun _ => journal_asks _ u) (fun _ => markDue_asks u)
  | some cover => exact ite (fun _ => (bufferEvent_asks _ _ u).trans (markDue_asks _)) (fun _ => journal_asks _ u)

theorem conditionEnds_asks (c : TamperCause) (u : Part) : u.AsksNothing (u.conditionEnds c) := by
  unfold Part.conditionEnds
  dsimp only
  split
  · exact putRecord_asks _ _ _
  · exact putRecord_asks _ _ _
  · exact putRecord_asks _ _ _
  · refine ite (fun _ => putRecord_asks _ _ _) (fun _ => ?_)
    exact ((putRecord_asks _ _ _).trans (putRecord_asks _ _ _)).trans (absentEvidence_asks _ _)

theorem putLogical_asks (l : Logical) (u : Part) : u.AsksNothing (u.putLogical l) :=
  (markDueIf_asks _ _).after (by rfl) (by rfl) (by rfl)

theorem putOpeningRecord_asks (r : OpeningRecord) (u : Part) : u.AsksNothing (u.putOpeningRecord r) :=
  (markDueIf_asks _ _).after (by rfl) (by rfl) (by rfl)

theorem settleRelay_asks (st : Settled) (u : Part) : u.AsksNothing (u.settleRelay st) :=
  (putLogical_asks _ _).after (by rfl) (by rfl) (by rfl)

theorem leaveBypassWatch_asks (d : Direction) (u : Part) : u.AsksNothing (u.leaveBypassWatch d) := by
  unfold Part.leaveBypassWatch
  split
  · exact ite (fun _ => conditionEnds_asks _ u) (fun _ => refl u)
  · exact ite (fun _ => conditionEnds_asks _ u) (fun _ => refl u)
  · exact refl u

theorem startOperation_asks (d : Direction) (r : Reason) (u : Part) : u.AsksNothing (u.startOperation d r) := by
  refine ite (fun _ => ?_) (fun _ => refl u)
  have unplaced := ((leaveBypassWatch_asks d u).trans (putOpeningRecord_asks (u.recordAtStart d r) _)).trans
    (putLogical_asks .inProgress _)
  have placed (a b : Bool) (x : Notice) (v : Part) : v.AsksNothing ((v.placeIf a .m x).placeIf b .k x) :=
    (placeIf_asks a .m x v).trans (placeIf_asks b .k x _)
  exact unplaced.trans ((placed _ _ _ _).after (by rfl) (by rfl) (by rfl))

theorem leaveOpen_asks (u : Part) : u.AsksNothing u.leaveOpen :=
  ite (fun _ => (settleRelay_asks _ u).trans (place_asks _ _)) (fun _ => startOperation_asks _ _ u)

theorem actOn_asks (st : Settled) (c : CauseSet) (u : Part) : u.AsksNothing (u.actOn st c) := by
  cases st with
  | closed => exact ite (fun _ => startOperation_asks _ _ u) (fun _ => refl u)
  | opened =>
    exact ite (fun _ => putOpeningRecord_asks _ u) (fun _ => (putOpeningRecord_asks _ u).trans (leaveOpen_asks _))
  | awaitingConfirm =>
    exact ite (fun _ => (putOpeningRecord_asks _ u).trans (settleRelay_asks _ _)) (fun _ => refl u)
  | stuckClosed => exact putOpeningRecord_asks _ u
  | stuckOpen => exact refl u

/-- A decision requests no checkpoint (R100, R103). -/
theorem recompute_asks (u : Part) : u.AsksNothing u.recompute := by
  refine ite (fun _ => ?_) (fun _ => refl u)
  cases u.supply.relay with
  | operating op => exact refl u
  | settled st => exact (actOn_asks st _ _).after (by rfl) (by rfl) (by rfl)

theorem putAccount_asks {a : Account} {u : Part}
    (h : a.chargesSinceCheckpoint = u.account.chargesSinceCheckpoint) : u.AsksNothing (u.putAccount a) :=
  ite (fun _ => refl u) (fun _ => (markDue_asks { u with account := a }).after rfl rfl h)

theorem placeWhen_asks (b : Prop) [Decidable b] (x : Notice) (u : Part) : u.AsksNothing (u.placeWhen b x) :=
  ite (fun _ => place_asks x u) (fun _ => refl u)

theorem deriveQuietly_asks (u : Part) : u.AsksNothing u.deriveQuietly := by
  rw [Part.deriveQuietly_eq, Part.creditNotices_eq]
  have derived : u.AsksNothing u.unannounced :=
    (putAccount_asks (a := u.derivedAccount) rfl).trans (of_eq rfl rfl rfl)
  exact (((derived.trans (placeWhen_asks _ _ _)).trans (placeWhen_asks _ _ _)).trans (placeWhen_asks _ _ _)).trans
    (placeWhen_asks _ _ _)

theorem derive_asks (u : Part) : u.AsksNothing u.derive :=
  ite (fun _ => deriveQuietly_asks u) (fun _ => (deriveQuietly_asks u).trans (recompute_asks _))

end Part

theorem Part.activeBank_putAccount (a : Account) (u : Part) : (u.putAccount a).activeBank = u.activeBank := by
  unfold Part.putAccount
  split <;> rfl

theorem Part.activeBank_derive (u : Part) : u.derive.activeBank = u.activeBank :=
  Part.activeBank_of_derived u.derive_derived

/-- A charge that reaches the checkpoint step requests a STEP checkpoint (R23). -/
theorem Part.afterCharge_requested {u : Part} {i : Image} {c : Nat} (unready : u.Unready) (active : u.activeBank = some i)
    (charged : c ≠ 0) (reached : 1000 * bankCheckpointStep i ≤ u.account.chargesSinceCheckpoint) :
    (u.afterCharge c).Requested .step := by
  obtain ⟨-, -, charges, -⟩ := u.derive_asks unready
  unfold Part.afterCharge
  simp only [Part.activeBank_derive, active, charges]
  rw [if_pos (by simp [charged, reached])]
  exact Part.requestCheckpoint_requested .step _

/-- Any other charge requests nothing. -/
theorem Part.afterCharge_asks {u : Part} {c : Nat}
    (short : c = 0 ∨ u.activeBank = none ∨
      ∃ i, u.activeBank = some i ∧ u.account.chargesSinceCheckpoint < 1000 * bankCheckpointStep i) :
    u.AsksNothing (u.afterCharge c) := by
  intro unready
  obtain ⟨-, -, charges, -⟩ := u.derive_asks unready
  refine (?_ : u.AsksNothing (u.afterCharge c)) unready
  unfold Part.afterCharge
  dsimp only
  rw [Part.activeBank_derive, charges]
  cases active : u.activeBank with
  | none => exact u.derive_asks
  | some i =>
    have below : ¬ ((c != 0 && decide (1000 * bankCheckpointStep i ≤ u.account.chargesSinceCheckpoint)) = true) := by
      rcases short with zero | absent | ⟨j, same, less⟩
      · simp [zero]
      · simp [active] at absent
      · obtain rfl : i = j := by simpa [active] using same
        simp [less]
    dsimp only
    rw [if_neg below]
    exact u.derive_asks

theorem Part.putAccount_unready {u : Part} (h : u.Unready) (a : Account) : (u.putAccount a).Unready := by
  unfold Part.putAccount
  split
  · exact h
  · exact (Part.markDue_asks { u with account := a } h).1

theorem Part.putAccount_requested {u : Part} {a : Account} {r : CheckpointReason} (h : u.Unready)
    (k : (u.putAccount a).Requested r) : u.Requested r := by
  unfold Part.putAccount at k
  split at k
  · exact k
  · exact (Part.markDue_asks { u with account := a } h).2.2.2 r k

theorem Part.putAccount_waiting (a : Account) (u : Part) : (u.putAccount a).store.waiting = u.store.waiting := by
  unfold Part.putAccount
  split <;> rfl

/-- Settles O16: the account of the charge, the derivation behind it, and what charges since checkpoint then requests. -/
theorem energyAndStandingCharge : Obligations.EnergyAndStandingCharge := by
  refine ⟨fun u e shortfall => ?energy, fun a c => ?standing⟩
  case standing => rw [Account.standing, chargedBalance_eq, notTaken_eq]
  case energy =>
    intro a n c v
    have account : (u.putAccount (u.chargedAccount e shortfall)).account = u.chargedAccount e shortfall :=
      u.putAccount_account _
    have keeps := Part.afterCharge_keeps (u.chargeFor e) (u.putAccount (u.chargedAccount e shortfall))
    have books : v.account.books = (u.chargedAccount e shortfall).books := keeps.books.trans (by rw [account])
    have charged : v.account.energyCharged = a.energyCharged + c := congrArg Account.energyCharged books
    have residue : v.account.residue = n % 1000000 := congrArg Account.residue books
    refine ⟨?derived, ?charges, u.energyCharge_ok e shortfall, ?exact, fun unready => ⟨?reached, ?short⟩⟩
    case derived =>
      rw [show v = _ from rfl, Part.energyCharge_derived, Part.chargedAccount, chargedBalance_eq, notTaken_eq]
      rfl
    case charges =>
      have charges := keeps.charges
      rw [account] at charges
      exact charges
    case exact =>
      have divided : 1000000 * c + n % 1000000 = n := Nat.div_add_mod n 1000000
      rw [charged, residue]
      omega
    case reached =>
      intro i active nonzero reached
      refine Part.afterCharge_requested (i := i) (Part.putAccount_unready unready _) ?_ nonzero ?_
      · exact (u.activeBank_putAccount _).trans active
      · rw [account]
        exact reached
    case short =>
      intro short
      have asks := Part.afterCharge_asks (u := u.putAccount (u.chargedAccount e shortfall)) (c := u.chargeFor e)
        (by rw [u.activeBank_putAccount, account]; exact short) (Part.putAccount_unready unready _)
      obtain ⟨-, waits, -, asked⟩ := asks
      exact ⟨waits.trans (u.putAccount_waiting _), fun none some => none (Part.putAccount_requested unready (asked _ some))⟩

/-- A permitted request of an admitted length whose effect and reply are known. -/
theorem exec_effect {s : State} {k : ReqKind} {p : Port} {b : List Byte} {v : Part} {r : Reply}
    (hunting : s.part.hunting p) (hlen : b.length ≤ 200) (hp : k.permitted p s.part.lifecycle = true)
    (ha : k.admits b.length = true) (effect : k.effect p b (s.part.taking p k.byte) = (v, r)) :
    exec (k.command p b) s = .next (s.replied p k.byte r v) := by
  rw [exec_permitted hunting hlen hp ha, effect]

/-- Settles O17: the grant and its derivation, or NOT_AVAILABLE without effect. -/
theorem takeEc : Obligations.TakeEc := by
  intro s hunting u a amount
  refine ⟨fun available => ⟨Part.derive (u.putAccount (a.granted amount)), ?_, ?_, Part.derive_ok _⟩,
    fun unavailable => ?_⟩
  · exact exec_effect (k := .takeEc) hunting (by simp) rfl rfl (if_pos available)
  · rw [Part.derive_derived, Part.putAccount_derived_eq]
    rfl
  · exact exec_effect (k := .takeEc) hunting (by simp) rfl rfl (if_neg (ne_true_of_eq_false unavailable))

end Sys2Proof.Machine
end

section
/-! Measurement and reconciliation (chapter 2): the interval counter, valid pulses, the closes of a window and the reports.
Settles O19 and O21 to O25. -/

namespace Sys2Proof.Machine

/-! ### What a condition's chain leaves of a derivation -/

/-- Of the cause set, `v` differs from `u` in TAMPER alone. -/
def Part.CausesButTamper (u v : Part) : Prop :=
  v.supply.causes = { u.supply.causes with tamper := v.supply.causes.tamper }

namespace Part.CausesButTamper

theorem of_eq {u v : Part} (h : v.supply.causes = u.supply.causes) : u.CausesButTamper v := by
  unfold Part.CausesButTamper
  rw [h]

theorem refl (u : Part) : u.CausesButTamper u := of_eq rfl

theorem trans {u v w : Part} (a : u.CausesButTamper v) (b : v.CausesButTamper w) : u.CausesButTamper w := by
  unfold Part.CausesButTamper at *
  rw [b, a]

theorem ite {u v w : Part} {b : Prop} [Decidable b] (h : b → u.CausesButTamper v) (h' : ¬ b → u.CausesButTamper w) :
    u.CausesButTamper (if b then v else w) := by
  split
  next hb => exact h hb
  next hb => exact h' hb

theorem noCredit {u v : Part} (h : u.CausesButTamper v) : v.supply.causes.noCredit = u.supply.causes.noCredit := by
  have k := congrArg CauseSet.noCredit h
  exact k

theorem debtLimit {u v : Part} (h : u.CausesButTamper v) : v.supply.causes.debtLimit = u.supply.causes.debtLimit := by
  have k := congrArg CauseSet.debtLimit h
  exact k

end Part.CausesButTamper

namespace Part

open Part.CausesButTamper (refl of_eq ite)

theorem evaluateTamper_causesBut (u : Part) : u.CausesButTamper u.evaluateTamper := by
  unfold Part.CausesButTamper
  simp

theorem presentEvidence_causesBut (c : TamperCause) (u : Part) : u.CausesButTamper (u.presentEvidence c) := by
  have entered (d : JournalDetail) : u.CausesButTamper (u.journal d) := of_eq (by simp)
  have noticed (b : Prop) [Decidable b] (x : Notice) (v : Part) : v.CausesButTamper (if b then v else v.place x) :=
    ite (fun _ => refl v) (fun _ => of_eq (by simp))
  have asked (v : Part) : v.CausesButTamper (v.requestCheckpoint .tamper) := of_eq (by simp)
  exact (((entered _).trans (noticed _ _ _)).trans (evaluateTamper_causesBut _)).trans (asked _)

theorem presentOnBattery_causesBut (k : Cover) (u : Part) : u.CausesButTamper (u.presentOnBattery k) := by
  have buffered (v : Part) : (v.bufferEvent k true).supply = v.supply := by
    unfold Part.bufferEvent
    split <;> rfl
  have before : u.CausesButTamper (((u.putRecord (coverCause k)
      { u.tamperRecord (coverCause k) with raisedOnBattery := true }).bufferEvent k true).markDue) := of_eq (by
    change (Part.bufferEvent k true _).supply.causes = _
    rw [buffered, Part.putRecord_supply])
  exact ite (fun _ => before.trans (evaluateTamper_causesBut _)) (fun _ => before)

theorem becomePresent_causesBut (c : TamperCause) (u : Part) : u.CausesButTamper (u.becomePresent c) := by
  have recorded (r : TamperRecord) : u.CausesButTamper (u.putRecord c r) := of_eq (by simp)
  unfold Part.becomePresent
  dsimp only
  cases causeCover c with
  | none => exact (recorded _).trans (presentEvidence_causesBut c _)
  | some k =>
    exact (recorded _).trans (ite (fun _ => presentOnBattery_causesBut k _) (fun _ => presentEvidence_causesBut c _))

theorem enterPending_causesBut (c : TamperCause) (b : Bool) (u : Part) : u.CausesButTamper (u.enterPending c b) :=
  ite (fun _ => of_eq (by simp)) (fun _ => becomePresent_causesBut c u)

theorem conditionArises_causesBut (c : TamperCause) (u : Part) : u.CausesButTamper (u.conditionArises c) := by
  have recorded : u.CausesButTamper (u.putRecord c { u.tamperRecord c with condition := true }) := of_eq (by simp)
  refine ite (fun _ => recorded) (fun _ => recorded.trans ?_)
  dsimp only
  split
  · exact enterPending_causesBut c _ _
  · exact enterPending_causesBut c _ _
  · exact refl _
  · exact of_eq (by simp)

theorem setCondition_causesBut (c : TamperCause) (b : Bool) (u : Part) : u.CausesButTamper (u.setCondition c b) := by
  have ended : u.CausesButTamper (u.conditionEnds c) := of_eq (by simp)
  exact ite (fun _ => refl u) fun _ => ite (fun _ => conditionArises_causesBut c u) fun _ =>
    ite (fun _ => ended.trans (evaluateTamper_causesBut _)) (fun _ => ended)

end Part

/-- What a condition's chain does not reach keeps a derivation up to date. -/
theorem Part.AccountDerived.of_core {u v : Part} (h : u.AccountDerived) (c : v.core = u.core)
    (s : u.CausesButTamper v) : v.AccountDerived := by
  have money : v.account.money = u.account.money := by
    have k := congrArg Part.account c
    exact k
  have tariff := congrArg Part.tariff c
  have causes := congrArg Part.accountCauses c
  have friendly : v.tariff.friendly = u.tariff.friendly := congrArg Tariff.friendly tariff
  exact h.congr money (Part.activeBank_of_derived (Part.derived_of_core c)) friendly causes s.noCredit s.debtLimit

theorem Part.AccountDerived.setCondition {u : Part} (h : u.AccountDerived) (c : TamperCause) (b : Bool) :
    (u.setCondition c b).AccountDerived := h.of_core (u.setCondition_core c b) (u.setCondition_causesBut c b)

/-! ### The pulse line (R29 to R33) -/

/-- The three kinds of wrap in one equation (R30). -/
theorem Pulse.wrapped_eq (p : Pulse) :
    p.wrapped = { p with
      counter := 0, overflow := p.overflow || !p.unmeasurable, unmeasurable := p.unmeasurable || p.overflow,
      estimate := if p.overflow && !p.unmeasurable then 0 else p.estimate } := by
  obtain ⟨counter, overflow, unmeasurable, capture, lastInterval, estimate, total⟩ := p
  cases unmeasurable <;> cases overflow <;> rfl

/-- Settles O19: the capture while the main domain runs, and the wrap by its three kinds. -/
theorem risingEdgeAndCounterWrap : Obligations.RisingEdgeAndCounterWrap := by
  refine ⟨fun s => ⟨fun running => ?taken, fun running => ?untaken⟩, fun s running timely => ?wrap⟩
  case taken =>
    have effect : s.part.epRises = (s.part.setEp true).takeCapture := if_pos (s.part.running_iff.mpr running)
    rw [exec_eq]
    exact congrArg (fun v => Host.Outcome.next (s.becomes v)) effect
  case untaken =>
    have effect : s.part.epRises = s.part.setEp true := if_neg (fun h => running (s.part.running_iff.mp h))
    rw [exec_eq]
    exact congrArg (fun v => Host.Outcome.next (s.becomes v)) effect
  case wrap =>
    have effect : s.part.wrapCounter = { s.part with pulse := s.part.pulse.wrapped } :=
      if_pos (s.part.running_iff.mpr running)
    rw [Pulse.wrapped_eq] at effect
    exact (expire_of_not_mem timely _).trans (congrArg (fun v => Host.Outcome.next (s.becomes v)) effect)

theorem RisingCapture.interval_of_unmeasurable {c : RisingCapture} (h : c.unmeasurable = true) : c.interval = none := by
  simp [RisingCapture.interval, h]

theorem powerOf_of_pos {t : Nat} (h : 0 < t) (w : Nat) : powerOf w t = w * 589824 / (5 * t) := if_neg h.ne'

theorem Part.judgePulse_eq_validPulse {u : Part} {c : RisingCapture} (long : 328 ≤ u.timeBase - c.edgeAt)
    (short : u.timeBase - c.edgeAt ≤ 8192) (plausible : u.plausible c.interval = true) :
    u.judgePulse c = u.validPulse (u.timeBase - c.edgeAt) c.interval :=
  if_pos (by simp [long, short, plausible])

theorem Part.validPulse_pulseOnly {u : Part} (mode : u.recon.mode = .pulseOnly) (closed : u.recon.window = none)
    (width : Nat) (interval : Option Nat) :
    u.validPulse width interval =
      Part.energyCharge u.config.live.pulseWeight false
        { u with pulse := u.pulse.afterValid u.config.live.pulseWeight width interval } := by
  simp [Part.validPulse, Part.countPulse, closed, mode]

theorem Part.validPulse_unwindowed {u : Part} (mode : u.recon.mode = .reported) (closed : u.recon.window = none)
    (width : Nat) (interval : Option Nat) :
    u.validPulse width interval =
      { u with pulse := u.pulse.afterValid u.config.live.pulseWeight width interval } := by
  simp [Part.validPulse, Part.countPulse, closed, mode]

theorem Part.countPulse_mode (u : Part) : u.countPulse.recon.mode = u.recon.mode := by
  unfold Part.countPulse
  split
  · rfl
  · dsimp only
    split
    · exact Part.judgedClose_mode _
    · rfl

theorem Part.validPulse_reported {u : Part} (mode : u.recon.mode = .reported) (width : Nat) (interval : Option Nat) :
    u.validPulse width interval =
      Part.countPulse { u with pulse := u.pulse.afterValid u.config.live.pulseWeight width interval } := by
  simp [Part.validPulse, Part.countPulse_mode, mode]

theorem Part.countPulse_windowed {u : Part} {x : Window} (opened : u.recon.window = some x) :
    u.countPulse =
      let v : Part := { u with
        recon := { u.recon with window := some { x with ep := x.ep + u.config.live.pulseWeight } } }
      if 1000 * u.bankValue bankWindowSize 100 ≤ x.ep + u.config.live.pulseWeight then v.judgedClose else v := by
  unfold Part.countPulse
  rw [opened]
  rfl

/-- What the capture unit holds behind a valid pulse, by the pulse's interval. -/
theorem Pulse.afterValid_eq {p : Pulse} {c : RisingCapture} {w width : Nat}
    (measured : c.unmeasurable = false → 0 < if c.overflow then 2 ^ 24 + c.count else c.count) :
    p.afterValid w width c.interval =
      { counter := width, overflow := false, unmeasurable := false, capture := none,
        lastInterval := if c.unmeasurable then none else some (if c.overflow then 2 ^ 24 + c.count else c.count),
        estimate := if c.unmeasurable then 0
          else w * 589824 / (5 * if c.overflow then 2 ^ 24 + c.count else c.count),
        energyTotal := p.energyTotal + w } := by
  cases h : c.unmeasurable with
  | true => simp [Pulse.afterValid, RisingCapture.interval_of_unmeasurable h]
  | false =>
    rw [RisingCapture.interval_of_measurable h]
    simp only [Pulse.afterValid, powerOf_of_pos (measured h)]
    simp

theorem Part.plausible_of_capture {u : Part} {c : RisingCapture}
    (h : c.unmeasurable = false → 0 < (if c.overflow then 2 ^ 24 + c.count else c.count) ∧
      4 * (u.config.live.pulseWeight * 589824 / (5 * if c.overflow then 2 ^ 24 + c.count else c.count)) ≤
        5 * u.config.live.pmax) : u.plausible c.interval = true := by
  cases hc : c.unmeasurable with
  | true => rw [RisingCapture.interval_of_unmeasurable hc]; rfl
  | false =>
    obtain ⟨pos, low⟩ := h hc
    rw [RisingCapture.interval_of_measurable hc, Part.plausible, powerOf_of_pos pos]
    exact decide_eq_true low

/-- Settles O21: the judgement finds the pulse valid, and its effect goes by the mode and the window. -/
theorem validPulse : Obligations.ValidPulse := by
  intro s c running capture w width t power long short plausible u
  have judged : s.part.epFalls = (s.part.setEp false).validPulse width c.interval := by
    rw [Part.epFalls_of_capture running capture]
    exact Part.judgePulse_eq_validPulse long short (Part.plausible_of_capture plausible)
  have after : (s.part.setEp false).pulse.afterValid w width c.interval = u.pulse :=
    Pulse.afterValid_eq (fun h => (plausible h).1)
  have answered : exec .epFallingEdge s = .next (s.becomes ((s.part.setEp false).validPulse width c.interval)) := by
    rw [exec_epFallingEdge, judged]
  refine ⟨fun mode closed => ?unwindowed, fun x mode opened => ?windowed, fun mode closed => ?pulseOnly⟩
  case unwindowed =>
    rw [answered, Part.validPulse_unwindowed (by exact mode) (by exact closed)]
    exact congrArg (fun p => Host.Outcome.next (s.becomes { s.part.setEp false with pulse := p })) after
  case windowed =>
    rw [answered, Part.validPulse_reported (by exact mode)]
    refine (congrArg (fun p => Host.Outcome.next (s.becomes
      (Part.countPulse { s.part.setEp false with pulse := p }))) after).trans ?_
    exact congrArg (fun v => Host.Outcome.next (s.becomes v)) (Part.countPulse_windowed (u := u) opened)
  case pulseOnly =>
    rw [answered, Part.validPulse_pulseOnly (by exact mode) (by exact closed)]
    exact congrArg (fun p => Host.Outcome.next (s.becomes
      (Part.energyCharge w false { s.part.setEp false with pulse := p }))) after

/-! ### The closes of a window (R39 to R43) -/

theorem Part.windowShortfall_of_lt {u : Part} {x : Window} (h : x.er + u.windowTolerance x < x.ep) :
    u.windowShortfall x = some (min 1000000 (x.ep - x.er)) := if_pos h

theorem Part.windowShortfall_of_not_lt {u : Part} {x : Window} (h : ¬ x.er + u.windowTolerance x < x.ep) :
    u.windowShortfall x = none := if_neg h

theorem Part.shortfallAccount_eq (u : Part) (x : Window) :
    u.shortfallAccount x =
      if x.er + u.windowTolerance x < x.ep then u.chargedAccount (min 1000000 (x.ep - x.er)) true else u.account := by
  unfold Part.shortfallAccount
  split_ifs with h
  · rw [Part.windowShortfall_of_lt h]
  · rw [Part.windowShortfall_of_not_lt h]

theorem Part.chargeShortfall_ok {u : Part} {x : Window} (h : x.er + u.windowTolerance x < x.ep) :
    (u.chargeShortfall x).AccountDerived := by
  rw [Part.chargeShortfall, Part.windowShortfall_of_lt h]
  exact Part.energyCharge_ok _ _ u

theorem Part.AccountDerived.windowConditions {u : Part} (h : u.AccountDerived) (x : Window) :
    (u.windowConditions x).AccountDerived := (h.setCondition _ _).setCondition _ _

theorem Part.AccountDerived.putRecon {u : Part} (h : u.AccountDerived) (r : Recon) :
    ({ u with recon := r } : Part).AccountDerived := h

theorem Part.judgedClose_ok {u : Part} {x : Window} (opened : u.recon.window = some x)
    (h : x.er + u.windowTolerance x < x.ep) : u.judgedClose.AccountDerived := by
  have counted (n : Nat) : ((u.chargeShortfall x).setDivergence n).AccountDerived :=
    ((Part.chargeShortfall_ok h).putRecon _).setCondition _ _
  rw [Part.judgedClose, opened]
  dsimp only
  exact ((counted _).windowConditions x).putRecon _

/-- Settles O22: the judged close with its shortfall, its count and its conditions. -/
theorem judgedClose : Obligations.JudgedClose := by
  intro s x running opened timely u tol count charged
  have divergent : (if u.windowDivergent x then min 65535 (u.recon.divergence + 1) else 0) = count := by
    simp only [Part.windowDivergent, Bool.or_eq_true, decide_eq_true_eq]
    rfl
  obtain ⟨divergence, integrity, reverse⟩ := Part.judgedClose_conditions opened
  refine ⟨u.judgedClose, ?_, ?_, fun h => Part.judgedClose_ok opened h, ?_, integrity, reverse⟩
  · have effect : u.windowExpires = u.judgedClose := if_pos (u.running_iff.mpr running)
    exact (expire_of_not_mem timely _).trans (congrArg (fun v => Host.Outcome.next (s.becomes v)) effect)
  · rw [Part.judgedClose_derived opened, divergent, Part.shortfallAccount_eq]
    rfl
  · rw [divergence, divergent]

theorem Part.enterPulseOnly_of_pulseOnly {u : Part} (h : u.recon.mode = .pulseOnly) : u.enterPulseOnly = u := by
  rw [Part.enterPulseOnly, h]

theorem Part.enterPulseOnly_of_reported {u : Part} (h : u.recon.mode = .reported) :
    u.enterPulseOnly = Part.setCondition .metrologySilent true
      { u.unjudgedClose with recon := { u.unjudgedClose.recon with mode := .pulseOnly } } := by
  rw [Part.enterPulseOnly, h]

/-- The account behind an unjudged close (R43). -/
def Part.unjudgedAccount (u : Part) : Account :=
  match u.recon.window with
  | some x => u.shortfallAccount x
  | none => u.account

theorem Part.unjudgedAccount_eq (u : Part) :
    u.unjudgedAccount =
      match u.recon.window with
      | some x =>
        if x.er + u.windowTolerance x < x.ep then u.chargedAccount (min 1000000 (x.ep - x.er)) true else u.account
      | none => u.account := by
  unfold Part.unjudgedAccount
  cases u.recon.window with
  | none => rfl
  | some x => exact u.shortfallAccount_eq x

theorem Part.unjudgedClose_derived_eq (u : Part) :
    u.unjudgedClose.derived =
      ({ u with account := u.unjudgedAccount, recon := { u.recon with window := none } } : Part).derived := by
  unfold Part.unjudgedAccount
  cases h : u.recon.window with
  | none =>
    rw [Part.unjudgedClose_none h]
    change u.derived = ({ u with recon := { u.recon with window := none } } : Part).derived
    rw [← h]
  | some x => exact Part.unjudgedClose_derived h

theorem Part.unjudgedClose_ok {u : Part} {x : Window} (opened : u.recon.window = some x)
    (h : x.er + u.windowTolerance x < x.ep) : u.unjudgedClose.AccountDerived := by
  rw [Part.unjudgedClose, opened]
  exact (Part.chargeShortfall_ok (u := { u with recon := { u.recon with window := none } }) h).windowConditions x

theorem Part.unjudgedClose_conditions {u : Part} {x : Window} (opened : u.recon.window = some x) :
    u.unjudgedClose.condition .pulseIntegrity = decide (16 ≤ x.malformed) ∧
    u.unjudgedClose.condition .reverseEnergy = (u.config.live.importOnly && decide (10000 < x.exportTotal)) := by
  rw [Part.unjudgedClose, opened]
  have config := Part.config_of_derived
    (Part.chargeShortfall_derived x { u with recon := { u.recon with window := none } })
  have conditions := Part.windowConditions_conditions x
    (Part.chargeShortfall x { u with recon := { u.recon with window := none } })
  rw [config] at conditions
  exact conditions

/-- PULSE_ONLY is entered: the unjudged close's account, no window, the mode (R36, R43). -/
theorem Part.enterPulseOnly_derived {u : Part} (mode : u.recon.mode = .reported) :
    u.enterPulseOnly.derived =
      ({ u with
          account := u.unjudgedAccount, recon := { u.recon with window := none, mode := .pulseOnly } } : Part).derived := by
  rw [Part.enterPulseOnly_of_reported mode, Part.setCondition_derived]
  exact Part.derived_map (fun w => { w with recon := { w.recon with mode := .pulseOnly } }) (fun _ => rfl)
    u.unjudgedClose_derived_eq

theorem Part.enterPulseOnly_other {u : Part} (mode : u.recon.mode = .reported) {d : TamperCause} (h : d ≠ .bypass)
    (h' : d ≠ .metrologySilent) : u.enterPulseOnly.condition d = u.unjudgedClose.condition d := by
  rw [Part.enterPulseOnly_of_reported mode]
  exact congrArg TamperRecord.condition (Part.setCondition_other h h' _ _)

theorem Part.enterPulseOnly_ok {u : Part} {x : Window} (mode : u.recon.mode = .reported)
    (opened : u.recon.window = some x) (h : x.er + u.windowTolerance x < x.ep) : u.enterPulseOnly.AccountDerived := by
  rw [Part.enterPulseOnly_of_reported mode]
  exact ((Part.unjudgedClose_ok opened h).putRecon _).setCondition _ _

theorem Part.enterPulseOnly_silent {u : Part} (mode : u.recon.mode = .reported) :
    u.enterPulseOnly.condition .metrologySilent = true := by
  rw [Part.enterPulseOnly_of_reported mode]
  exact Part.setCondition_condition (by decide) _ _

/-- Settles O23: the unjudged close, the mode and METROLOGY_SILENT, or nothing in PULSE_ONLY. -/
theorem lostMeterLinkEntersPulseOnly : Obligations.LostMeterLinkEntersPulseOnly := by
  intro s running suspect timely u
  obtain ⟨-, handed, -⟩ := silentLinkIsSuspectThenLost s running
  have answered := handed suspect timely
  generalize hlost : ({ u with links := { u.links with m := { u.links.m with state := .lost } } } : Part) = lost
    at answered ⊢
  have recon : lost.recon = u.recon := by rw [← hlost]
  refine ⟨fun mode => ?pulseOnly, fun mode => ?reported⟩
  case pulseOnly => rw [answered, Part.enterPulseOnly_of_pulseOnly (by rw [recon, mode])]
  case reported =>
    have mode : lost.recon.mode = .reported := by rw [recon, mode]
    refine ⟨_, answered, ?derived, fun x opened => ?window, Part.enterPulseOnly_silent mode⟩
    case derived =>
      rw [Part.enterPulseOnly_derived mode, Part.unjudgedAccount_eq, ← hlost]
      rfl
    case window =>
      have opened : lost.recon.window = some x := by rw [recon, opened]
      obtain ⟨integrity, reverse⟩ := Part.unjudgedClose_conditions opened
      refine ⟨?_, ?_, fun short => ?_⟩
      · rw [Part.enterPulseOnly_other mode (by decide) (by decide), integrity]
      · rw [Part.enterPulseOnly_other mode (by decide) (by decide), reverse, ← hlost]
      · exact Part.enterPulseOnly_ok mode opened (by rw [← hlost]; exact short)

/-! ### Reports (R37, R38) -/

theorem Part.linkUp_recon (p : Port) (u : Part) : (u.linkUp p).recon = u.recon := by
  cases p with
  | m => rfl
  | s => rfl
  | k =>
    by_cases h : u.links.k.state = .lost
    · rw [Part.linkUp_k_of_lost h, Part.setCondition_recon]
      rfl
    · rw [Part.linkUp_k_of_not_lost h]
      rfl

theorem Part.taking_recon (u : Part) (p : Port) (kind : Byte) : (u.taking p kind).recon = u.recon := by
  rw [Part.taking_eq, Part.linkUp_recon]
  rfl

theorem reportNeutral_eq (b : List Byte) : reportNeutral b = decide ((b[5]?).getD 0 ≠ 0) := by
  rw [Bool.eq_iff_iff]
  simp [reportNeutral, byteAt]

/-- What an accepted report hands on (R38). -/
theorem Part.handPhases_derived (phases : PhaseSet) (neutral : Bool) (u : Part) :
    (u.handPhases phases neutral).derived =
      ({ u with supply := { u.supply with reportedPhases := some phases } } : Part).derived := by
  rw [Part.handPhases, Part.setCondition_derived]

theorem Part.handPhases_core (phases : PhaseSet) (neutral : Bool) (u : Part) :
    (u.handPhases phases neutral).core =
      ({ u with supply := { u.supply with reportedPhases := some phases } } : Part).core := by
  rw [Part.handPhases, Part.setCondition_core]

theorem Part.AccountDerived.putPhases {u : Part} (h : u.AccountDerived) (phases : Option PhaseSet) :
    ({ u with supply := { u.supply with reportedPhases := phases } } : Part).AccountDerived := h

theorem Part.handPhases_neutral (phases : PhaseSet) (neutral : Bool) (u : Part) :
    (u.handPhases phases neutral).condition .neutralMissing = !neutral :=
  Part.setCondition_condition (by decide) _ _

theorem Part.energyReport_refused {u : Part} {b : List Byte} (h : 60000 < reportImport b ∨ 60000 < reportExport b) :
    u.energyReport b = (u, justStatus Status.outOfRange) := if_pos (by simpa using h)

theorem Part.energyReport_accepted {u : Part} {b : List Byte} (hi : reportImport b ≤ 60000)
    (he : reportExport b ≤ 60000) {v : Part}
    (accepted : u.acceptReport (reportImport b) (reportExport b) (reportPhases b) (reportNeutral b) = v) :
    u.energyReport b = (v, okWith v.reportFields) := by
  rw [Part.energyReport, if_neg (by simp; omega), accepted]

theorem exec_energyReport {s : State} {b : List Byte} {v : Part} {r : Reply} (hunting : s.part.hunting .m)
    (hlen : b.length = 6) (effect : (s.part.taking .m 0x01).energyReport b = (v, r)) :
    exec (.energyReport .m b) s = .next (s.replied .m 0x01 r v) :=
  exec_effect (k := .energyReport) hunting (by omega) rfl (by simp [ReqKind.admits, hlen]) effect

/-- Settles O24: the charge, the count in the window, and what is handed on. -/
theorem chargedReport : Obligations.ChargedReport := by
  intro s b hunting hlen mode imported exported phases neutral u hi he
  let v := u.chargeReport imported exported phases (reportNeutral b)
  have accepted : u.acceptReport (reportImport b) (reportExport b) (reportPhases b) (reportNeutral b) = v := by
    rw [Part.acceptReport, show u.recon.mode = .reported by rw [Part.taking_recon, mode]]
    rfl
  refine ⟨v, exec_energyReport hunting hlen (Part.energyReport_accepted hi he accepted), ?derived,
    ?account, ?neutralMissing⟩
  case derived =>
    refine (Part.handPhases_derived phases (reportNeutral b) _).trans ?_
    exact Part.derived_map (fun w => { w.countReport imported exported with
      supply := { (w.countReport imported exported).supply with reportedPhases := some phases } }) (fun _ => rfl)
      (Part.energyCharge_derived imported false u)
  case account =>
    exact (((Part.energyCharge_ok imported false u).putRecon _).putPhases _).setCondition _ _
  case neutralMissing =>
    rw [show neutral = reportNeutral b from (reportNeutral_eq b).symm]
    exact Part.handPhases_neutral _ _ _

/-- A window opens unless a blanking interval runs (R37). -/
def Part.openUnlessBlanked (u : Part) : Part := if u.supply.blankingUntil.isSome then u else u.openWindow

theorem Part.openUnlessBlanked_eq (u : Part) :
    u.openUnlessBlanked = { u with recon := { u.recon with
      window := if u.supply.blankingUntil.isSome then u.recon.window else some ⟨0, 0, 0, 0, u.timeBase⟩ } } := by
  unfold Part.openUnlessBlanked
  split <;> rfl

theorem Part.openUnlessBlanked_condition (u : Part) (c : TamperCause) :
    u.openUnlessBlanked.condition c = u.condition c := by
  rw [Part.openUnlessBlanked_eq]
  rfl

theorem Part.resumeReport_eq (phases : PhaseSet) (neutral : Bool) (u : Part) :
    u.resumeReport phases neutral =
      (Part.handPhases phases neutral { u with recon := { u.recon with mode := .reported } }).openUnlessBlanked.setCondition
        .metrologySilent false := rfl

theorem Part.resumeReport_core (phases : PhaseSet) (neutral : Bool) (u : Part) :
    (u.resumeReport phases neutral).core =
      ({ u with
          recon := { u.recon with
            mode := .reported,
            window := if u.supply.blankingUntil.isSome then u.recon.window else some ⟨0, 0, 0, 0, u.timeBase⟩ },
          supply := { u.supply with reportedPhases := some phases } } : Part).core := by
  rw [Part.resumeReport_eq, Part.setCondition_core, Part.openUnlessBlanked_eq]
  have handed := Part.handPhases_core phases neutral { u with recon := { u.recon with mode := .reported } }
  exact Part.core_map
    (fun w => { w with recon := { w.recon with
      window := if w.supply.blankingUntil.isSome then w.recon.window else some ⟨0, 0, 0, 0, w.timeBase⟩ } })
    (fun _ => rfl) handed

theorem Part.resumeReport_neutral (phases : PhaseSet) (neutral : Bool) (u : Part) :
    (u.resumeReport phases neutral).condition .neutralMissing = !neutral := by
  rw [Part.resumeReport_eq]
  refine (congrArg TamperRecord.condition (Part.setCondition_other (by decide) (by decide) _ _)).trans ?_
  exact (Part.openUnlessBlanked_condition _ _).trans (Part.handPhases_neutral phases neutral _)

/-- Settles O25: a refused report changes nothing, and the resume report goes by its own steps. -/
theorem resumeAndRefusedReport : Obligations.ResumeAndRefusedReport := by
  intro s b hunting hlen imported exported phases neutral u
  refine ⟨fun out => ?refused, fun hi he mode => ?resumed⟩
  case refused => exact exec_energyReport hunting hlen (Part.energyReport_refused out)
  case resumed =>
    let v := u.resumeReport phases (reportNeutral b)
    have accepted : u.acceptReport (reportImport b) (reportExport b) (reportPhases b) (reportNeutral b) = v := by
      rw [Part.acceptReport, show u.recon.mode = .pulseOnly by rw [Part.taking_recon, mode]]
      rfl
    refine ⟨v, exec_energyReport hunting hlen (Part.energyReport_accepted hi he accepted), ?core,
      ?neutralMissing, ?silent⟩
    case core => exact Part.resumeReport_core phases (reportNeutral b) u
    case neutralMissing =>
      rw [show neutral = reportNeutral b from (reportNeutral_eq b).symm]
      exact Part.resumeReport_neutral phases (reportNeutral b) u
    case silent => exact Part.setCondition_condition (by decide) _ _

end Sys2Proof.Machine
end

section
/-! The tariff bank (R49, R51, R52, R57, R194): its fields, the two passes of its validation, the walk through its switch
records, and the calendar. Settles O26 and O27. -/

namespace Sys2Proof.Machine

/-! ### Numbers from bytes (R194) -/

theorem beNat_append_singleton (bytes : List Byte) (b : Byte) : beNat (bytes ++ [b]) = 256 * beNat bytes + b.toNat := by
  rw [beNat, List.foldl_append, Nat.mul_comm]
  rfl

theorem beNat_lt (bytes : List Byte) : beNat bytes < 256 ^ bytes.length := by
  induction bytes using List.reverseRecOn with
  | nil => exact Nat.one_pos
  | append_singleton bytes b ih =>
    have byte : b.toNat < 256 := b.isLt
    rw [beNat_append_singleton, List.length_append, List.length_singleton, pow_succ]
    omega

theorem field_lt (i : Image) (off n : Nat) : field i off n < 256 ^ n :=
  (beNat_lt _).trans_le (Nat.pow_le_pow_right (by decide) (List.length_take_le _ _))

/-! ### The first pass (R57) -/

theorem firstFailure_eq_none_iff (l : List (Nat × Bool)) : firstFailure l = none ↔ ∀ off, (off, false) ∉ l := by
  induction l with
  | nil => simp [firstFailure]
  | cons x rest ih =>
    obtain ⟨off, ok⟩ := x
    cases ok with
    | true => simp [firstFailure, ih]
    | false => exact ⟨nofun, fun h => absurd List.mem_cons_self (h off)⟩

/-- Of checks in the order of their offsets, the failing one at the lowest offset is the first failure. -/
theorem firstFailure_of_lowest {l : List (Nat × Bool)} (sorted : (l.map Prod.fst).Pairwise (· < ·)) {off : Nat}
    (fails : (off, false) ∈ l) (lowest : ∀ o, (o, false) ∈ l → off ≤ o) : firstFailure l = some off := by
  induction l with
  | nil => cases fails
  | cons x rest ih =>
    obtain ⟨first, ok⟩ := x
    obtain ⟨below, sortedRest⟩ := List.pairwise_cons.mp sorted
    cases ok with
    | true =>
      have fails : (off, false) ∈ rest := by simpa using fails
      exact ih sortedRest fails (fun o h => lowest o (List.mem_cons_of_mem _ h))
    | false =>
      rcases List.mem_cons.mp fails with same | later
      · exact congrArg some (Prod.mk.inj same).1.symm
      · have least := lowest first List.mem_cons_self
        have later := below off (List.mem_map.mpr ⟨_, later, rfl⟩)
        omega

/-- The offsets of the first pass. -/
def checkedOffsets : List Nat :=
  [0, 2, 30, 34, 38, 42, 46, 50, 51, 52, 53, 55] ++ (List.range 13).map (57 + ·) ++ [70, 74, 76]
    ++ (List.range 4).map (77 + ·) ++ (List.range 48).flatMap (fun r => [81 + 4 * r, 83 + 4 * r, 84 + 4 * r])
    ++ (List.range 16).map (273 + 2 * ·)

theorem firstPassChecks_offsets (i : Image) : (firstPassChecks i).map Prod.fst = checkedOffsets := by
  simp only [firstPassChecks, checkedOffsets, List.map_append, List.map_map, List.map_flatMap]
  rfl

theorem checkedOffsets_sorted : checkedOffsets.Pairwise (· < ·) := by decide +kernel

/-- A field is out of its range, with the offset of its first byte. -/
def OutOfRange (i : Image) (off : Nat) : Prop :=
  (off = 0 ∧ bankVersion i = 0) ∨ (off = 2 ∧ 100000000 < bankStandingCharge i) ∨
  (off = 30 ∧ 10000000 < bankLowCredit i) ∨ (off = 34 ∧ 1000000 < bankEcAmount i) ∨
  (off = 38 ∧ 10000000 < bankEcThreshold i) ∨ (off = 42 ∧ 1000000 < bankFriendlyDebtLimit i) ∨
  (off = 46 ∧ (bankCeiling i < 1000 ∨ 100000000 < bankCeiling i)) ∨ (off = 50 ∧ 31 < field i 50 1) ∨
  (off = 51 ∧ 31 < field i 51 1) ∨ (off = 52 ∧ 1 < field i 52 1) ∨
  (off = 53 ∧ (bankHoldTime i < 5 ∨ 300 < bankHoldTime i)) ∨
  (off = 55 ∧ (bankLockoutTime i < 30 ∨ 3600 < bankLockoutTime i)) ∨
  (∃ c, c < 13 ∧ off = 57 + c ∧ 2 < field i (57 + c) 1) ∨
  (off = 70 ∧ (bankCheckpointStep i < 100 ∨ 100000 < bankCheckpointStep i)) ∨
  (off = 74 ∧ (bankWindowSize i < 50 ∨ 1000 < bankWindowSize i)) ∨
  (off = 76 ∧ (bankTolerance i < 1 ∨ 10 < bankTolerance i)) ∨
  (∃ d, d < 4 ∧ off = 77 + d ∧ 47 < bankStart i d) ∨
  (∃ n, n < 48 ∧
    ((off = 81 + 4 * n ∧ 1439 < recordMinute i n ∧ recordMinute i n ≠ 65535) ∨
      (off = 83 + 4 * n ∧ 7 < recordBand i n) ∨
      (off = 84 + 4 * n ∧ 47 < recordNext i n ∧ recordNext i n ≠ 255))) ∨
  (∃ n, n < 16 ∧ off = 273 + 2 * n ∧ ¬ (specialMonth i n = 0 ∧ specialDay i n = 0) ∧
    ¬ (1 ≤ specialMonth i n ∧ specialMonth i n ≤ 12 ∧ 1 ≤ specialDay i n ∧ specialDay i n ≤ 31))

theorem within_eq_false_iff (lo hi v : Nat) : within lo hi v = false ↔ v < lo ∨ hi < v := by
  simp [within]
  omega

theorem mem_recordChecks (i : Image) (r off : Nat) :
    (off, false) ∈ recordChecks i r ↔
      (off = 81 + 4 * r ∧ 1439 < recordMinute i r ∧ recordMinute i r ≠ 65535) ∨
      (off = 83 + 4 * r ∧ 7 < recordBand i r) ∨
      (off = 84 + 4 * r ∧ 47 < recordNext i r ∧ recordNext i r ≠ 255) := by
  simp [recordChecks, eq_comm (a := false)]

theorem specialCheck_eq (i : Image) (n off : Nat) :
    specialCheck i n = (off, false) ↔
      off = 273 + 2 * n ∧ ¬ (specialMonth i n = 0 ∧ specialDay i n = 0) ∧
        ¬ (1 ≤ specialMonth i n ∧ specialMonth i n ≤ 12 ∧ 1 ≤ specialDay i n ∧ specialDay i n ≤ 31) := by
  simp only [specialCheck, Prod.mk.injEq, Bool.or_eq_false_iff, Bool.and_eq_false_iff, within_eq_false_iff,
    decide_eq_false_iff_not]
  omega

/-- A check of the first pass fails exactly where a field is out of its range. -/
theorem mem_firstPassChecks (i : Image) (off : Nat) : (off, false) ∈ firstPassChecks i ↔ OutOfRange i off := by
  have version : bankVersion i < 1 ∨ 65535 < bankVersion i ↔ bankVersion i = 0 := by
    have := field_lt i 0 2
    simp only [bankVersion]
    omega
  simp only [firstPassChecks, OutOfRange, List.mem_append, List.mem_cons, List.not_mem_nil, Prod.mk.injEq, or_false,
    List.mem_map, List.mem_flatMap, List.mem_range, mem_recordChecks, specialCheck_eq, eq_comm (a := false),
    within_eq_false_iff, version, Nat.not_lt_zero, false_or, or_assoc, eq_comm (a := (_ : Nat)) (b := off)]

theorem bankFault_of_lowest {i : Image} {off : Nat} (bad : OutOfRange i off) (lowest : ∀ o, OutOfRange i o → off ≤ o) :
    bankFault i = some off := by
  have first : firstFailure (firstPassChecks i) = some off :=
    firstFailure_of_lowest (by rw [firstPassChecks_offsets]; exact checkedOffsets_sorted)
      ((mem_firstPassChecks i off).mpr bad) (fun o h => lowest o ((mem_firstPassChecks i o).mp h))
  rw [bankFault, first]

theorem bankFault_of_inRange {i : Image} (good : ∀ off, ¬ OutOfRange i off) :
    bankFault i = chainsFailure i [0, 1, 2, 3] := by
  have none : firstFailure (firstPassChecks i) = none :=
    (firstFailure_eq_none_iff _).mpr (fun off h => good off ((mem_firstPassChecks i off).mp h))
  rw [bankFault, none]

theorem inRange_of_bankFault {i : Image} (h : bankFault i = none) (off : Nat) : ¬ OutOfRange i off := by
  have none : firstFailure (firstPassChecks i) = none := by
    rw [bankFault] at h
    split at h
    · cases h
    · assumption
  exact fun bad => (firstFailure_eq_none_iff _).mp none off ((mem_firstPassChecks i off).mpr bad)

/-! ### The second pass (R57) -/

/-- The `n`-th record of the chain from a start record. -/
def chainRecord (i : Image) (start n : Nat) : Nat := Nat.iterate (recordNext i) n start

theorem chainRecord_succ (i : Image) (start n : Nat) :
    chainRecord i start (n + 1) = recordNext i (chainRecord i start n) := Function.iterate_succ_apply' _ _ _

/-- The chain goes on to its `n`-th record. -/
def ChainReaches (i : Image) (start n : Nat) : Prop := n ≤ 47 ∧ ∀ m, m < n → recordNext i (chainRecord i start m) ≠ 255

theorem ChainReaches.succ {i : Image} {start n : Nat} (h : ChainReaches i start n) (le : n + 1 ≤ 47)
    (more : recordNext i (chainRecord i start n) ≠ 255) : ChainReaches i start (n + 1) := by
  obtain ⟨-, reaches⟩ := h
  refine ⟨le, fun m hm => ?_⟩
  rcases Nat.lt_succ_iff_lt_or_eq.mp hm with before | rfl
  · exact reaches m before
  · exact more

/-- The `n`-th record's minute is not 0 at the start, is 65,535, or does not rise. -/
def ChainMisplaced (i : Image) (start n : Nat) : Prop :=
  (n = 0 ∧ recordMinute i (chainRecord i start n) ≠ 0) ∨ recordMinute i (chainRecord i start n) = 65535 ∨
  ∃ m, n = m + 1 ∧ recordMinute i (chainRecord i start n) ≤ recordMinute i (chainRecord i start m)

/-- The chain fails at its `n`-th record, with the offset of the fault. -/
def ChainFails (i : Image) (start n off : Nat) : Prop :=
  ChainReaches i start n ∧
  ((ChainMisplaced i start n ∧ off = 81 + 4 * chainRecord i start n) ∨
    (¬ ChainMisplaced i start n ∧ n = 47 ∧ recordNext i (chainRecord i start n) ≠ 255 ∧
      off = 84 + 4 * chainRecord i start n))

/-- The offset is that of the chain's first fault. -/
def ChainFault (i : Image) (start off : Nat) : Prop :=
  ∃ n, ChainFails i start n off ∧ ∀ m, m < n → ∀ o, ¬ ChainFails i start m o

/-- The minute of the record before the `n`-th. -/
def minuteBefore (i : Image) (start : Nat) : Nat → Option Nat
  | 0 => none
  | m + 1 => some (recordMinute i (chainRecord i start m))

/-- Where no record before the `n`-th fails and the `n`-th does, its fault is the chain's first. -/
theorem ChainFault.iff_of_fails {i : Image} {start n off : Nat} (none : ∀ m, m < n → ∀ o, ¬ ChainFails i start m o)
    (fails : ∀ o, ChainFails i start n o ↔ o = off) (o : Nat) : ChainFault i start o ↔ o = off := by
  constructor
  · rintro ⟨m, failsAt, noneBefore⟩
    rcases Nat.lt_trichotomy m n with before | rfl | behind
    · exact absurd failsAt (none m before o)
    · exact (fails o).mp failsAt
    · exact absurd ((fails off).mpr rfl) (noneBefore n behind off)
  · rintro rfl
    exact ⟨n, (fails o).mpr rfl, none⟩

theorem ChainFails.of_misplaced {i : Image} {start n : Nat} (reaches : ChainReaches i start n)
    (misplaced : ChainMisplaced i start n) (o : Nat) :
    ChainFails i start n o ↔ o = 81 + 4 * chainRecord i start n := by
  unfold ChainFails
  tauto

theorem ChainFails.of_last {i : Image} {start n : Nat} (reaches : ChainReaches i start n)
    (placed : ¬ ChainMisplaced i start n) (last : n = 47) (more : recordNext i (chainRecord i start n) ≠ 255) (o : Nat) :
    ChainFails i start n o ↔ o = 84 + 4 * chainRecord i start n := by
  unfold ChainFails
  tauto

theorem ChainFails.not_of_placed {i : Image} {start n : Nat} (placed : ¬ ChainMisplaced i start n)
    (goesOn : ¬ (n = 47 ∧ recordNext i (chainRecord i start n) ≠ 255)) (o : Nat) : ¬ ChainFails i start n o := by
  unfold ChainFails
  tauto

theorem chainFailure_of_misplaced {i : Image} {start n : Nat} (misplaced : ChainMisplaced i start n) (fuel : Nat) :
    chainFailure i (fuel + 1) (chainRecord i start n) (minuteBefore i start n) =
      some (81 + 4 * chainRecord i start n) := by
  rcases misplaced with ⟨rfl, late⟩ | unused | ⟨m, rfl, falls⟩
  · simp [chainFailure, minuteBefore, late]
  · simp [chainFailure, unused]
  · simp [chainFailure, minuteBefore, falls]

/-- Behind the three tests of its minute, a record's next index decides. -/
theorem chainFailure_of_placed {i : Image} {start n : Nat} (placed : ¬ ChainMisplaced i start n) (fuel : Nat) :
    chainFailure i (fuel + 1) (chainRecord i start n) (minuteBefore i start n) =
      if fuel = 0 ∧ recordNext i (chainRecord i start n) ≠ 255 then some (84 + 4 * chainRecord i start n)
      else if recordNext i (chainRecord i start n) = 255 then none
      else chainFailure i fuel (chainRecord i start (n + 1)) (minuteBefore i start (n + 1)) := by
  unfold ChainMisplaced at placed
  push Not at placed
  obtain ⟨starts, used, rises⟩ := placed
  rw [chainRecord_succ, minuteBefore]
  cases n with
  | zero => simp [chainFailure, minuteBefore, starts rfl]
  | succ m => simp [chainFailure, minuteBefore, used, Nat.not_le.mpr (rises m rfl)]

/-- The second pass along a chain from its `n`-th record on finds the chain's first fault. -/
theorem chainFailure_eq_some_iff (i : Image) (start : Nat) :
    ∀ fuel n, n + fuel = 48 → ChainReaches i start n → (∀ m, m < n → ∀ o, ¬ ChainFails i start m o) → ∀ off,
      chainFailure i fuel (chainRecord i start n) (minuteBefore i start n) = some off ↔ ChainFault i start off := by
  intro fuel
  induction fuel with
  | zero =>
    rintro n hn ⟨le, -⟩
    omega
  | succ fuel ih =>
    intro n hn reaches none off
    by_cases misplaced : ChainMisplaced i start n
    · rw [chainFailure_of_misplaced misplaced, ChainFault.iff_of_fails none (ChainFails.of_misplaced reaches misplaced)]
      exact Option.some_inj.trans eq_comm
    · rw [chainFailure_of_placed misplaced]
      by_cases last : fuel = 0 ∧ recordNext i (chainRecord i start n) ≠ 255
      · rw [if_pos last, ChainFault.iff_of_fails none
          (ChainFails.of_last reaches misplaced (by omega) last.2)]
        exact Option.some_inj.trans eq_comm
      · have sound := ChainFails.not_of_placed misplaced (fun ⟨h, more⟩ => last ⟨by omega, more⟩)
        have noneBehind : ∀ m, m < n + 1 → ∀ o, ¬ ChainFails i start m o := by
          intro m hm
          rcases Nat.lt_succ_iff_lt_or_eq.mp hm with before | rfl
          · exact none m before
          · exact sound
        rw [if_neg last]
        by_cases ends : recordNext i (chainRecord i start n) = 255
        · rw [if_pos ends]
          refine ⟨nofun, ?_⟩
          rintro ⟨m, ⟨⟨-, goesOn⟩, failsAt⟩, noneBefore⟩
          by_cases later : n < m
          · exact absurd ends (goesOn n later)
          · exact absurd ⟨⟨by omega, goesOn⟩, failsAt⟩ (noneBehind m (by omega) off)
        · rw [if_neg ends]
          have room : fuel ≠ 0 := fun h => last ⟨h, ends⟩
          exact ih (n + 1) (by omega) (reaches.succ (by omega) ends) noneBehind off

theorem chainFailure_start (i : Image) (start off : Nat) :
    chainFailure i 48 start none = some off ↔ ChainFault i start off :=
  chainFailure_eq_some_iff i start 48 0 rfl ⟨by decide, nofun⟩ nofun off

theorem chainFailure_start_none (i : Image) (start : Nat) :
    chainFailure i 48 start none = none ↔ ∀ off, ¬ ChainFault i start off := by
  rw [Option.eq_none_iff_forall_ne_some]
  exact forall_congr' fun off => not_congr (chainFailure_start i start off)

/-- The first fault of chains taken in order is that of the first chain with one. -/
theorem chainsFailure_range' (i : Image) (off count first : Nat) :
    chainsFailure i (List.range' first count) = some off ↔
      ∃ d, first ≤ d ∧ d < first + count ∧ ChainFault i (bankStart i d) off ∧
        ∀ e, first ≤ e → e < d → ∀ o, ¬ ChainFault i (bankStart i e) o := by
  induction count generalizing first with
  | zero =>
    refine ⟨nofun, ?_⟩
    rintro ⟨d, low, high, -⟩
    omega
  | succ count ih =>
    rw [List.range'_succ, chainsFailure]
    cases h : chainFailure i 48 (bankStart i first) none with
    | some found =>
      have fault := (chainFailure_start i _ found).mp h
      constructor
      · rintro ⟨⟩
        exact ⟨first, le_rfl, by omega, fault, fun e low high => by omega⟩
      · rintro ⟨d, low, -, faulty, noneBefore⟩
        rcases Nat.eq_or_lt_of_le low with rfl | behind
        · exact h.symm.trans ((chainFailure_start i _ off).mpr faulty)
        · exact absurd fault (noneBefore first le_rfl behind found)
    | none =>
      have sound := (chainFailure_start_none i _).mp h
      refine (ih (first + 1)).trans ⟨?_, ?_⟩
      · rintro ⟨d, low, high, faulty, noneBefore⟩
        refine ⟨d, by omega, by omega, faulty, fun e lowE highE => ?_⟩
        rcases Nat.eq_or_lt_of_le lowE with rfl | behind
        · exact sound
        · exact noneBefore e behind highE
      · rintro ⟨d, low, high, faulty, noneBefore⟩
        have behind : first ≠ d := by
          rintro rfl
          exact sound off faulty
        exact ⟨d, by omega, by omega, faulty, fun e lowE highE => noneBefore e (by omega) highE⟩

theorem chainsFailure_eq_some_iff (i : Image) (off : Nat) :
    chainsFailure i [0, 1, 2, 3] = some off ↔
      ∃ d, d < 4 ∧ ChainFault i (bankStart i d) off ∧ ∀ e, e < d → ∀ o, ¬ ChainFault i (bankStart i e) o := by
  refine (chainsFailure_range' i off 4 0).trans ?_
  simp

theorem chainsFailure_eq_none (i : Image) (chains : List Nat) :
    chainsFailure i chains = none ↔ ∀ d ∈ chains, ∀ off, ¬ ChainFault i (bankStart i d) off := by
  induction chains with
  | nil => simp [chainsFailure]
  | cons d rest ih =>
    rw [chainsFailure, List.forall_mem_cons, ← chainFailure_start_none, ← ih]
    cases chainFailure i 48 (bankStart i d) none <;> simp

theorem chainsFailure_eq_none_iff (i : Image) :
    chainsFailure i [0, 1, 2, 3] = none ↔ ∀ d, d < 4 → ∀ off, ¬ ChainFault i (bankStart i d) off := by
  refine (chainsFailure_eq_none i _).trans (forall_congr' fun d => imp_congr ?_ .rfl)
  simp
  omega

/-- An image that passes validation has no faulty chain. -/
theorem chain_of_bankFault {i : Image} (h : bankFault i = none) {d : Nat} (hd : d < 4) (off : Nat) :
    ¬ ChainFault i (bankStart i d) off := by
  have passes : chainsFailure i [0, 1, 2, 3] = none := (bankFault_of_inRange (inRange_of_bankFault h)).symm.trans h
  exact (chainsFailure_eq_none_iff i).mp passes d hd off

/-- A chain without a fault fails nowhere. -/
theorem ChainFails.not_of_sound {i : Image} {start : Nat} (sound : ∀ off, ¬ ChainFault i start off) (n off : Nat) :
    ¬ ChainFails i start n off := by
  induction n using Nat.strong_induction_on generalizing off with
  | _ n ih => exact fun fails => sound off ⟨n, fails, ih⟩

/-! ### What a valid bank holds (R57) -/

section Valid

variable {i : Image} (h : bankFault i = none)
include h

theorem chain_placed_of_bankFault {d n : Nat} (hd : d < 4) (reaches : ChainReaches i (bankStart i d) n) :
    ¬ ChainMisplaced i (bankStart i d) n :=
  fun misplaced => ChainFails.not_of_sound (chain_of_bankFault h hd) n _ ⟨reaches, .inl ⟨misplaced, rfl⟩⟩

theorem chain_ends_of_bankFault {d : Nat} (hd : d < 4) (reaches : ChainReaches i (bankStart i d) 47) :
    recordNext i (chainRecord i (bankStart i d) 47) = 255 := by
  by_contra more
  exact ChainFails.not_of_sound (chain_of_bankFault h hd) 47 _
    ⟨reaches, .inr ⟨chain_placed_of_bankFault h hd reaches, rfl, more, rfl⟩⟩

theorem start_le_of_bankFault {d : Nat} (hd : d < 4) : bankStart i d ≤ 47 := by
  by_contra out
  refine inRange_of_bankFault h (77 + d) ?_
  iterate 16 right
  exact .inl ⟨d, hd, rfl, Nat.lt_of_not_le out⟩

theorem record_of_bankFault {r : Nat} (hr : r < 48) :
    (recordMinute i r ≤ 1439 ∨ recordMinute i r = 65535) ∧ recordBand i r ≤ 7 ∧
      (recordNext i r ≤ 47 ∨ recordNext i r = 255) := by
  have good (off : Nat) : ¬ ((off = 81 + 4 * r ∧ 1439 < recordMinute i r ∧ recordMinute i r ≠ 65535) ∨
      (off = 83 + 4 * r ∧ 7 < recordBand i r) ∨ (off = 84 + 4 * r ∧ 47 < recordNext i r ∧ recordNext i r ≠ 255)) := by
    intro bad
    refine inRange_of_bankFault h off ?_
    iterate 17 right
    exact .inl ⟨r, hr, bad⟩
  have minute := good (81 + 4 * r)
  have band := good (83 + 4 * r)
  have next := good (84 + 4 * r)
  omega

theorem special_of_bankFault {n : Nat} (hn : n < 16) :
    (specialMonth i n = 0 ∧ specialDay i n = 0) ∨
      (1 ≤ specialMonth i n ∧ specialMonth i n ≤ 12 ∧ 1 ≤ specialDay i n ∧ specialDay i n ≤ 31) := by
  by_contra out
  obtain ⟨used, noDate⟩ := not_or.mp out
  refine inRange_of_bankFault h (273 + 2 * n) ?_
  iterate 18 right
  exact ⟨n, hn, rfl, used, noDate⟩

theorem policy_of_bankFault {c : Nat} (hc : c < 13) : field i (57 + c) 1 ≤ 2 := by
  by_contra out
  refine inRange_of_bankFault h (57 + c) ?_
  iterate 12 right
  exact .inl ⟨c, hc, rfl, Nat.lt_of_not_le out⟩

/-- The single fields of a valid bank. -/
theorem fields_of_bankFault :
    1 ≤ bankVersion i ∧ bankStandingCharge i ≤ 100000000 ∧ bankLowCredit i ≤ 10000000 ∧ bankEcAmount i ≤ 1000000 ∧
    bankEcThreshold i ≤ 10000000 ∧ bankFriendlyDebtLimit i ≤ 1000000 ∧ 1000 ≤ bankCeiling i ∧ bankCeiling i ≤ 100000000 ∧
    5 ≤ bankHoldTime i ∧ bankHoldTime i ≤ 300 ∧ 30 ≤ bankLockoutTime i ∧ bankLockoutTime i ≤ 3600 ∧
    100 ≤ bankCheckpointStep i ∧ bankCheckpointStep i ≤ 100000 ∧ 50 ≤ bankWindowSize i ∧ bankWindowSize i ≤ 1000 ∧
    1 ≤ bankTolerance i ∧ bankTolerance i ≤ 10 ∧ field i 50 1 ≤ 31 ∧ field i 51 1 ≤ 31 ∧ field i 52 1 ≤ 1 := by
  have good := inRange_of_bankFault h
  simp only [OutOfRange, not_or, not_and, forall_and, forall_eq, Nat.not_lt] at good
  obtain ⟨version, charge, low, amount, threshold, debt, ⟨ceilingLow, ceilingHigh⟩, disconnect, friendly, confirm,
    ⟨holdLow, holdHigh⟩, ⟨lockLow, lockHigh⟩, -, ⟨stepLow, stepHigh⟩, ⟨sizeLow, sizeHigh⟩, ⟨tolLow, tolHigh⟩, -⟩ := good
  exact ⟨Nat.one_le_iff_ne_zero.mpr version, charge, low, amount, threshold, debt, ceilingLow, ceilingHigh, holdLow,
    holdHigh, lockLow, lockHigh, stepLow, stepHigh, sizeLow, sizeHigh, tolLow, tolHigh, disconnect, friendly, confirm⟩

theorem start_minute_of_bankFault {d : Nat} (hd : d < 4) : recordMinute i (bankStart i d) = 0 := by
  by_contra late
  exact chain_placed_of_bankFault h hd ⟨Nat.zero_le _, nofun⟩ (.inl ⟨rfl, late⟩)

end Valid

/-- The bits of a one-byte field are those of its number. -/
theorem causeSet_of_field (i : Image) (off : Nat) :
    CauseSet.ofByte (BitVec.ofNat 8 (field i off 1)) =
      ⟨(field i off 1).testBit 0, (field i off 1).testBit 1, (field i off 1).testBit 2, (field i off 1).testBit 3,
        (field i off 1).testBit 4⟩ := by
  have bit {k : Nat} (hk : k < 8) : (BitVec.ofNat 8 (field i off 1)).getLsbD k = (field i off 1).testBit k := by
    rw [BitVec.getLsbD_ofNat, decide_eq_true hk, Bool.true_and]
  rw [CauseSet.ofByte, bit (by decide), bit (by decide), bit (by decide), bit (by decide), bit (by decide)]

/-- Settles O27: the two passes, the fields byte by byte, and what the active bank gives its readers. -/
theorem validBankIsInRange : Obligations.ValidBankIsInRange := by
  refine ⟨fun i h => ?valid, fun i => ?faults, ⟨rfl, beNat_append_singleton⟩, fun i => ?fields, fun u => ?readers⟩
  case valid =>
    obtain ⟨version, charge, low, amount, threshold, debt, ceilingLow, ceilingHigh, holdLow, holdHigh, lockLow, lockHigh,
      stepLow, stepHigh, sizeLow, sizeHigh, tolLow, tolHigh, disconnect, friendly, confirm⟩ := fields_of_bankFault h
    exact ⟨version, charge, low, amount, threshold, debt, ceilingLow, ceilingHigh, holdLow, holdHigh, lockLow, lockHigh,
      stepLow, stepHigh, sizeLow, sizeHigh, tolLow, tolHigh, disconnect, friendly, confirm,
      fun c => policy_of_bankFault h, fun n => special_of_bankFault h, fun r => record_of_bankFault h,
      fun d hd => ⟨start_le_of_bankFault h hd, start_minute_of_bankFault h hd⟩⟩
  case faults =>
    intro bad nth reached misplaced fails chain
    refine ⟨fun off out lowest => bankFault_of_lowest out lowest, fun good => ?_⟩
    rw [bankFault_of_inRange good]
    exact ⟨chainsFailure_eq_some_iff i, chainsFailure_eq_none_iff i⟩
  case fields =>
    intro num set
    refine ⟨fun off n => rfl, rfl, rfl, fun n => rfl, rfl, rfl, rfl, rfl, rfl, causeSet_of_field i 50,
      causeSet_of_field i 51, rfl, rfl, rfl, fun c => rfl, rfl, rfl, rfl, fun d => rfl,
      fun r => ⟨rfl, rfl, rfl, rfl⟩, fun n => ⟨rfl, rfl⟩⟩
  case readers =>
    intro held
    refine ⟨?bank, fun α read substitute => ⟨fun i active => ?_, fun none => ?_⟩, rfl, rfl, rfl, fun c hc hc' => ?policy⟩
    case bank =>
      unfold Part.activeBank
      cases u.tariff.activeArea with
      | none => rfl
      | some area => cases area <;> rfl
    · exact Part.bankValue_of_bank active read substitute
    · exact Part.bankValue_of_noBank none read substitute
    case policy =>
      cases c with
      | retentionLost => exact absurd rfl hc
      | storeFault => exact absurd rfl hc'
      | _ => rfl

/-! ### The walk (R52) -/

theorem dayType_lt (i : Image) (day : Nat) : dayType i day < 4 := by
  unfold dayType
  split_ifs <;> decide

/-- A path of next indices through records of rising minutes. -/
def RisingPath (i : Image) (path : List Nat) : Prop :=
  path.IsChain (fun a b => a ≤ 47 ∧ recordNext i a = b ∧ recordMinute i a < recordMinute i b)

/-- The walk from the `n`-th record of a valid bank's chain stops at the last record that is not later than the minute. -/
theorem walkFrom_of_bankFault {i : Image} (h : bankFault i = none) {d minute : Nat} (hd : d < 4) :
    ∀ fuel n, n + fuel = 48 → ChainReaches i (bankStart i d) n → chainRecord i (bankStart i d) n ≤ 47 →
      recordMinute i (chainRecord i (bankStart i d) n) ≤ minute →
      let r := walkFrom i minute fuel (chainRecord i (bankStart i d) n)
      r ≤ 47 ∧ recordMinute i r ≤ minute ∧
        (recordNext i r = 255 ∨ (recordNext i r ≤ 47 ∧ minute < recordMinute i (recordNext i r))) ∧
        ∃ path : List Nat, path.head? = some (chainRecord i (bankStart i d) n) ∧ path.getLast? = some r ∧
          RisingPath i path := by
  intro fuel
  induction fuel with
  | zero =>
    rintro n hn ⟨le, -⟩
    omega
  | succ fuel ih =>
    intro n hn reaches index early
    have next := chainRecord_succ i (bankStart i d) n
    obtain ⟨-, -, nextIndex⟩ := record_of_bankFault h (Nat.lt_succ_of_le index)
    rw [walkFrom, ← next]
    rw [← next] at nextIndex
    split
    next go =>
      simp only [Bool.and_eq_true, decide_eq_true_eq] at go
      obtain ⟨inside, earlyNext⟩ := go
      have more : recordNext i (chainRecord i (bankStart i d) n) ≠ 255 := by rw [← next]; omega
      have notLast : n ≠ 47 := by
        rintro rfl
        exact more (chain_ends_of_bankFault h hd reaches)
      have reachesNext := reaches.succ (by omega) more
      have rises : recordMinute i (chainRecord i (bankStart i d) n) <
          recordMinute i (chainRecord i (bankStart i d) (n + 1)) := by
        by_contra falls
        exact chain_placed_of_bankFault h hd reachesNext (.inr (.inr ⟨n, rfl, Nat.le_of_not_lt falls⟩))
      obtain ⟨rIndex, rMinute, rNext, path, starts, ends, rising⟩ :=
        ih (n + 1) (by omega) reachesNext inside earlyNext
      refine ⟨rIndex, rMinute, rNext, chainRecord i (bankStart i d) n :: path, rfl, ?_, ?_⟩
      · rw [List.getLast?_cons, ends]
        rfl
      · refine List.isChain_cons.mpr ⟨fun b hb => ?_, rising⟩
        obtain rfl : chainRecord i (bankStart i d) (n + 1) = b := by
          rw [starts] at hb
          exact Option.some_inj.mp hb
        exact ⟨index, next.symm, rises⟩
    next stop =>
      simp only [Bool.and_eq_true, decide_eq_true_eq, not_and, Nat.not_le] at stop
      rw [next] at stop nextIndex
      refine ⟨index, early, ?_, [_], rfl, rfl, List.isChain_singleton _⟩
      rcases nextIndex with inside | none
      · exact .inr ⟨inside, stop inside⟩
      · exact .inl none

/-- The walk of a valid bank at a clock count (R52). -/
theorem currentRecord_of_bankFault {i : Image} (h : bankFault i = none) (count : Nat) :
    let minute := count % 86400 / 60
    let r := currentRecord i count
    r ≤ 47 ∧ recordMinute i r ≤ minute ∧
      (recordNext i r = 255 ∨ (recordNext i r ≤ 47 ∧ minute < recordMinute i (recordNext i r))) ∧
      ∃ path : List Nat, path.head? = some (bankStart i (dayType i (count / 86400))) ∧ path.getLast? = some r ∧
        RisingPath i path := by
  have day := dayType_lt i (count / 86400)
  refine walkFrom_of_bankFault h day 48 0 rfl ⟨Nat.zero_le _, nofun⟩ (start_le_of_bankFault h day) ?_
  exact (start_minute_of_bankFault h day).trans_le (Nat.zero_le _)

/-! ### The calendar (R51) -/

/-- The days of a month, by whether its year is a leap year. -/
def monthLength (leap : Bool) (month : Nat) : Nat :=
  if month = 2 then (if leap then 29 else 28)
  else if month = 4 ∨ month = 6 ∨ month = 9 ∨ month = 11 then 30 else 31

/-- The months' lengths in order. -/
def monthLengths (leap : Bool) : List Nat := [31, if leap then 29 else 28, 31, 30, 31, 30, 31, 31, 30, 31, 30, 31]

/-- The days of a year. -/
def yearLength (leap : Bool) : Nat := if leap then 366 else 365

/-- The date behind a date by the Gregorian calendar. -/
def nextDate (date : Nat × Nat × Nat) : Nat × Nat × Nat :=
  if date.2.2 < monthLength (isLeap date.1) date.2.1 then (date.1, date.2.1, date.2.2 + 1)
  else if date.2.1 < 12 then (date.1, date.2.1 + 1, 1)
  else (date.1 + 1, 1, 1)

/-- A month and day behind another within a year. -/
def nextInYear (leap : Bool) (x : Nat × Nat) : Nat × Nat :=
  if x.2 < monthLength leap x.1 then (x.1, x.2 + 1) else (x.1 + 1, 1)

/-- Within a year the next day is the next of its month or the first of the next, and no day is behind December 31. -/
theorem monthOf_succ : ∀ leap : Bool, ∀ day < yearLength leap,
    (day + 1 < yearLength leap →
      monthOf (monthLengths leap) 1 (day + 1) = nextInYear leap (monthOf (monthLengths leap) 1 day) ∧
      (monthOf (monthLengths leap) 1 (day + 1)).1 ≤ 12) ∧
    (day + 1 = yearLength leap → monthOf (monthLengths leap) 1 day = (12, 31)) := by
  decide +kernel

theorem monthOf_first (leap : Bool) : monthOf (monthLengths leap) 1 0 = (1, 1) := by
  cases leap <;> rfl

/-- The days of so many years from a year on. -/
def yearsLength : Nat → Nat → Nat
  | 0, _ => 0
  | fuel + 1, year => yearDays year + yearsLength fuel (year + 1)

/-- The next day is the next of its year, or the first of the next year. -/
theorem yearOf_succ (fuel year day : Nat) (h : day + 1 < yearsLength fuel year) :
    let x := yearOf fuel year day
    x.2 < yearDays x.1 ∧ yearOf fuel year (day + 1) = if x.2 + 1 < yearDays x.1 then (x.1, x.2 + 1) else (x.1 + 1, 0) := by
  induction fuel generalizing year day with
  | zero => cases h
  | succ fuel ih =>
    have pos : 0 < yearDays year := by unfold yearDays; split <;> decide
    have posNext : 0 < yearDays (year + 1) := by unfold yearDays; split <;> decide
    rw [yearsLength] at h
    by_cases this : day + 1 < yearDays year
    · have before : day < yearDays year := by omega
      simp [yearOf, this, before]
    · by_cases last : day < yearDays year
      · have first : day + 1 - yearDays year = 0 := by omega
        have start : yearOf fuel (year + 1) 0 = (year + 1, 0) := by
          cases fuel with
          | zero => rfl
          | succ fuel => simp [yearOf, posNext]
        simp [yearOf, this, last, first, start]
      · have shift : day + 1 - yearDays year = day - yearDays year + 1 := by omega
        have later := ih (year + 1) (day - yearDays year) (by omega)
        simp only [yearOf, this, last, if_false, shift]
        exact later

/-- The date of a day number in the clock's range. -/
def calendarDate (day : Nat) : Nat × Nat × Nat :=
  let y := yearOf 137 2000 day
  (y.1, monthOf (monthLengths (isLeap y.1)) 1 y.2)

theorem calendarDate_succ {day : Nat} (h : day + 1 < yearsLength 137 2000) :
    calendarDate (day + 1) = nextDate (calendarDate day) := by
  obtain ⟨inside, step⟩ := yearOf_succ 137 2000 day h
  unfold calendarDate
  rw [step]
  generalize yearOf 137 2000 day = x at inside ⊢
  obtain ⟨year, rest⟩ := x
  obtain ⟨within_year, december⟩ := monthOf_succ (isLeap year) rest inside
  by_cases more : rest + 1 < yearDays year
  · obtain ⟨next, month⟩ := within_year more
    simp only [more, if_true, next] at month ⊢
    generalize monthOf (monthLengths (isLeap year)) 1 rest = date at month ⊢
    unfold nextDate
    unfold nextInYear at month ⊢
    split at month
    next early => simp [early]
    next late =>
      have notLast : date.1 < 12 := month
      simp [late, notLast]
  · have ends := december (by change rest < yearDays year at inside; change rest + 1 = yearDays year; omega)
    simp only [more, if_false, ends, monthOf_first]
    rfl

/-- A date of the clock's range is as many days behind 2000-01-01 as its day number says. -/
theorem iterate_nextDate {day : Nat} (h : day < yearsLength 137 2000) :
    Nat.iterate nextDate day (2000, 1, 1) = calendarDate day := by
  induction day with
  | zero => decide
  | succ day ih => rw [Function.iterate_succ_apply', ih (by omega), calendarDate_succ h]

theorem isSpecialDay_iff (i : Image) (date : Nat × Nat) :
    isSpecialDay i date = true ↔ ∃ n, n < 16 ∧ specialMonth i n = date.1 ∧ specialDay i n = date.2 := by
  simp [isSpecialDay]

theorem dayType_of_special {i : Image} {day : Nat} (h : isSpecialDay i (dateOf day) = true) : dayType i day = 3 :=
  if_pos h

theorem dayType_of_not_special {i : Image} {day : Nat} (h : ¬ isSpecialDay i (dateOf day) = true) :
    dayType i day = if day % 7 = 0 then 1 else if day % 7 = 1 then 2 else 0 := if_neg h

/-- Settles O26: the walk along the valid bank's chain, and the date of a day number step by step. -/
theorem walkFindsTheCurrentRecord : Obligations.WalkFindsTheCurrentRecord := by
  refine ⟨fun i count h => currentRecord_of_bankFault h count, fun i day h => ?_⟩
  intro days next date special
  have days_eq (year month : Nat) : days year month = monthLength (isLeap year) month := by
    simp [days, monthLength, isLeap]
  have next_eq : next = nextDate := by
    funext ⟨year, month, d⟩
    simp only [next, nextDate, days_eq]
  have date_eq : date = calendarDate day := by
    have range : 4294967295 / 86400 < yearsLength 137 2000 := by decide +kernel
    simp only [date, next_eq]
    exact iterate_nextDate (h.trans_lt range)
  have special_iff : special ↔ isSpecialDay i (dateOf day) = true := by
    simp only [special, date_eq]
    exact (isSpecialDay_iff i _).symm
  exact ⟨fun hs => dayType_of_special (special_iff.mp hs),
    fun hs => dayType_of_not_special (fun c => hs (special_iff.mpr c))⟩

end Sys2Proof.Machine
end

section
/-! The tariff engine's walk, midnight processing and the calendar clock (R53, R64 to R69). Settles O30 to O34. -/

namespace Sys2Proof.Machine

/-! ### What a derivation, its decision and a midnight leave of the notices -/

/-- The kinds of notice that a derivation and the decision behind it place. -/
def accountKinds : List NoticeKind :=
  [.ecAvailable, .creditLow, .creditExhausted, .friendlyChanged, .supplyPending, .awaitingConfirm]

namespace Part

open Part.KeepsKind (refl of_eq of_sansStore ite)

section

variable {k : NoticeKind} (h : k ∉ accountKinds)
include h

theorem deriveQuietly_kind (u : Part) : u.KeepsKind k u.deriveQuietly := by
  simp only [accountKinds, List.mem_cons, List.not_mem_nil, or_false, not_or] at h
  obtain ⟨ec, low, exhausted, friendly, -, -⟩ := h
  rw [Part.deriveQuietly_eq, Part.creditNotices_eq]
  exact ((((u.unannounced_kind k).trans (placeWhen_kind (Ne.symm ec) _ _)).trans
    (placeWhen_kind (Ne.symm low) _ _)).trans (placeWhen_kind (Ne.symm exhausted) _ _)).trans
    (placeWhen_kind (Ne.symm friendly) _ _)

theorem recompute_kind_of_account (u : Part) : u.KeepsKind k u.recompute :=
  recompute_kind (fun e => h (by simp [e, accountKinds])) (fun e => h (by simp [e, accountKinds])) u

theorem handCauses_kind_of_account (c : CauseSet) (u : Part) : u.KeepsKind k (u.handCauses c) :=
  handCauses_kind (fun e => h (by simp [e, accountKinds])) (fun e => h (by simp [e, accountKinds])) c u

theorem derive_kind (u : Part) : u.KeepsKind k u.derive :=
  ite (fun _ => deriveQuietly_kind h u) (fun _ => (deriveQuietly_kind h u).trans (recompute_kind_of_account h _))

theorem afterCharge_kind (c : Nat) (u : Part) : u.KeepsKind k (u.afterCharge c) := by
  unfold Part.afterCharge
  dsimp only
  cases u.derive.activeBank with
  | none => exact derive_kind h u
  | some i =>
    exact ite (fun _ => (derive_kind h u).trans (requestCheckpoint_kind k _ _)) (fun _ => derive_kind h u)

theorem standingCharge_kind (c : Nat) (u : Part) : u.KeepsKind k (u.standingCharge c) :=
  ite (fun _ => refl k u) (fun _ => (u.putAccount_kind k _).trans (afterCharge_kind h c _))

theorem dayCharge_kind (u : Part) : u.KeepsKind k u.dayCharge := by
  unfold Part.dayCharge
  cases u.activeBank with
  | none => exact refl k u
  | some i => exact standingCharge_kind h _ u

theorem putLoad_kind (l : Load) (u : Part) : u.KeepsKind k (u.putLoad l) :=
  ((markDueIf_kind k _ _).trans (handCauses_kind_of_account h _ _)).after (by rfl) (by rfl)

theorem finishMidnight_kind (m : Midnight) (u : Part) : u.KeepsKind k (u.finishMidnight m) := by
  have charged : u.KeepsKind k (if u.tariff.lastStandingDay < m.day then u.dayCharge.closeDay m.day else u) :=
    ite (fun _ => (dayCharge_kind h u).trans (of_eq k rfl rfl)) (fun _ => refl k u)
  have told (v : Part) : v.KeepsKind k (if m.reachesLimiter then v.loadMidnight else v) :=
    ite (fun _ => putLoad_kind h _ v) (fun _ => refl k v)
  exact (charged.trans (requestCheckpoint_kind k .midnight _)).trans (told _)

theorem walk_kind (u : Part) : u.KeepsKind k u.walk :=
  ite (fun _ => of_eq k rfl rfl)
    (fun _ => ((deriveQuietly_kind h _).trans (recompute_kind_of_account h _)).after (by rfl) (by rfl))

end

end Part

/-! ### What a decision leaves of a derivation -/

theorem Part.AccountDerived.recompute {u : Part} (h : u.AccountDerived) : u.recompute.AccountDerived :=
  h.of_core u.recompute_core (.of_eq u.recompute_causes)

theorem Part.AccountDerived.putLoadItems {u : Part} (h : u.AccountDerived) (l : Load) :
    ({ u with load := l } : Part).AccountDerived := h

theorem Part.AccountDerived.handCauses {u : Part} (h : u.AccountDerived) {c : CauseSet}
    (noCredit : c.noCredit = u.supply.causes.noCredit) (debtLimit : c.debtLimit = u.supply.causes.debtLimit) :
    (u.handCauses c).AccountDerived :=
  h.congr (by simp) (Part.activeBank_of_derived (Part.handCauses_derived c u)) (by simp) (by simp)
    (by rw [Part.handCauses_causes, noCredit]) (by rw [Part.handCauses_causes, debtLimit])

theorem Part.AccountDerived.markDueIf {u : Part} (h : u.AccountDerived) (b : Bool) :
    (Part.markDueIf b u).AccountDerived := h.of_core (u.markDueIf_core b) (.of_eq (by simp))

theorem Part.AccountDerived.putLoad {u : Part} (h : u.AccountDerived) (l : Load) : (u.putLoad l).AccountDerived := by
  have put := (h.putLoadItems l).markDueIf (u.load.limit != l.limit || u.load.extended != l.extended)
  exact put.handCauses (by simp) (by simp)

theorem Part.AccountDerived.requestCheckpoint {u : Part} (h : u.AccountDerived) (r : CheckpointReason) :
    (u.requestCheckpoint r).AccountDerived := h.of_core (u.requestCheckpoint_core r) (.of_eq (by simp))

theorem Part.AccountDerived.closeDay {u : Part} (h : u.AccountDerived) (day : Nat) : (u.closeDay day).AccountDerived :=
  Part.AccountDerived.of_core
    (u := { u with tariff := { u.tariff with lastStandingDay := day }, clock := { u.clock with adjustment := 0 } })
    h (Part.markDue_core _) (.of_eq rfl)

theorem Part.AccountDerived.limiterTold {u : Part} (h : u.AccountDerived) (m : Midnight) :
    (if m.reachesLimiter then u.loadMidnight else u).AccountDerived := by
  split
  · exact h.putLoad _
  · exact h

theorem Part.standingCharge_ok {u : Part} {c : Nat} (h : c ≠ 0) : (u.standingCharge c).AccountDerived := by
  rw [Part.standingCharge, if_neg h]
  exact Part.afterCharge_ok c _

theorem Part.dayCharge_ok {u : Part} (h : u.bankValue bankStandingCharge 0 ≠ 0) : u.dayCharge.AccountDerived := by
  unfold Part.dayCharge Part.bankValue at *
  cases active : u.activeBank with
  | none => simp [active] at h
  | some i => exact Part.standingCharge_ok (by simpa [active] using h)

theorem Part.AccountDerived.dayCharge {u : Part} (h : u.AccountDerived) : u.dayCharge.AccountDerived := by
  by_cases charge : u.bankValue bankStandingCharge 0 = 0
  · unfold Part.dayCharge Part.bankValue at *
    cases active : u.activeBank with
    | none => exact h
    | some i =>
      simp only [active] at charge
      simp only [charge, Part.standingCharge, if_true]
      exact h
  · exact Part.dayCharge_ok charge

theorem Part.AccountDerived.finishMidnight {u : Part} (h : u.AccountDerived) (m : Midnight) :
    (u.finishMidnight m).AccountDerived := by
  have charged : (if u.tariff.lastStandingDay < m.day then u.dayCharge.closeDay m.day else u).AccountDerived := by
    split
    · exact h.dayCharge.closeDay m.day
    · exact h
  exact (charged.requestCheckpoint .midnight).limiterTold m

theorem Part.finishMidnight_ok {u : Part} {m : Midnight} (day : u.tariff.lastStandingDay < m.day)
    (charge : u.bankValue bankStandingCharge 0 ≠ 0) : (u.finishMidnight m).AccountDerived := by
  have charged : (if u.tariff.lastStandingDay < m.day then u.dayCharge.closeDay m.day else u).AccountDerived := by
    rw [if_pos day]
    exact (Part.dayCharge_ok charge).closeDay m.day
  exact (charged.requestCheckpoint .midnight).limiterTold m

theorem Part.walk_ok {u : Part} (h : u.walk.tariff.friendly ≠ u.tariff.friendly) : u.walk.AccountDerived := by
  have changed : u.walkQuietly.tariff.friendly ≠ u.tariff.friendly := by
    rw [Part.tariff_of_derived u.walk_derived] at h
    exact h
  rw [show u.walk = u.walkQuietly.deriveQuietly.recompute from if_neg changed]
  exact (Part.deriveQuietly_ok _).recompute

/-! ### A midnight processed whole (R64) -/

/-- What no step of the clock or of a midnight reaches. -/
def Part.SameElsewhere (u v : Part) : Prop :=
  v.pulse = u.pulse ∧ v.recon = u.recon ∧ v.codes = u.codes ∧ v.config = u.config ∧ v.links = u.links ∧
    v.receivers = u.receivers ∧ v.inputs = u.inputs ∧ v.lifecycle = u.lifecycle ∧ v.power = u.power

theorem Part.SameElsewhere.of_derived {u v : Part} (h : v.derived = u.derived) : u.SameElsewhere v :=
  ⟨Part.pulse_of_derived h, Part.recon_of_derived h, Part.codes_of_derived h, Part.config_of_derived h,
    Part.links_of_derived h, Part.receivers_of_derived h, Part.inputs_of_derived h, Part.lifecycle_of_derived h,
    Part.power_of_derived h⟩

theorem Part.SameElsewhere.trans {u v w : Part} (a : u.SameElsewhere v) (b : v.SameElsewhere w) : u.SameElsewhere w := by
  obtain ⟨pulse, recon, codes, config, links, receivers, inputs, lifecycle, power⟩ := a
  obtain ⟨pulse', recon', codes', config', links', receivers', inputs', lifecycle', power'⟩ := b
  exact ⟨pulse'.trans pulse, recon'.trans recon, codes'.trans codes, config'.trans config, links'.trans links,
    receivers'.trans receivers, inputs'.trans inputs, lifecycle'.trans lifecycle, power'.trans power⟩

/-- `v` is `u` in which a midnight has been processed whole. -/
structure Part.MidnightRun (m : Midnight) (u v : Part) : Prop where
  tariff : v.tariff = { u.tariff with
    lastStandingDay := if u.tariff.lastStandingDay < m.day then m.day else u.tariff.lastStandingDay,
    midnight := none, midnightsWaiting := [] }
  clock : v.clock = if u.tariff.lastStandingDay < m.day then { u.clock with adjustment := 0 } else u.clock
  load : v.load = m.limiter u.load
  books : v.account.books = if u.tariff.lastStandingDay < m.day then u.dayAccount.books else u.account.books
  elsewhere : u.SameElsewhere v
  requested : v.Requested .midnight
  journaled : ∀ q, u.Journaled q → v.Journaled q
  placed : ∀ x : Notice, x.kind ∉ accountKinds → u.Placed x → v.Placed x
  derived : u.AccountDerived → v.AccountDerived
  charged : u.tariff.lastStandingDay < m.day → u.bankValue bankStandingCharge 0 ≠ 0 → v.AccountDerived

/-- The midnight's items of the engine take new values. -/
theorem Part.AccountDerived.putMidnights {u : Part} (h : u.AccountDerived) (m : Option Midnight) (l : List Midnight) :
    ({ u with tariff := { u.tariff with midnight := m, midnightsWaiting := l } } : Part).AccountDerived := h

/-- The part behind a midnight that has been processed whole. -/
def Part.midnightDone (m : Midnight) (u : Part) : Part :=
  { u.finishMidnight m with tariff := { (u.finishMidnight m).tariff with midnight := none, midnightsWaiting := [] } }

theorem Part.midnightDone_derived (m : Midnight) (u : Part) :
    (u.midnightDone m).derived =
      if u.tariff.lastStandingDay < m.day then
        ({ u with
            account := u.dayAccount,
            tariff := { u.tariff with lastStandingDay := m.day, midnight := none, midnightsWaiting := [] },
            clock := { u.clock with adjustment := 0 }, load := m.limiter u.load } : Part).derived
      else
        ({ u with
            tariff := { u.tariff with midnight := none, midnightsWaiting := [] },
            load := m.limiter u.load } : Part).derived := by
  have finished := Part.finishMidnight_derived m u
  have done {v w : Part} (h : v.derived = w.derived) :=
    Part.derived_map (fun w => { w with tariff := { w.tariff with midnight := none, midnightsWaiting := [] } })
      (fun _ => rfl) h
  by_cases day : u.tariff.lastStandingDay < m.day
  · rw [if_pos day] at finished ⊢
    exact done finished
  · rw [if_neg day] at finished ⊢
    exact done finished

theorem Part.midnightDone_run (m : Midnight) (u : Part) : u.MidnightRun m (u.midnightDone m) := by
  have requested : (u.midnightDone m).Requested .midnight := Part.finishMidnight_requested m u
  have journaled (q : JournalRequest) (h : u.Journaled q) : (u.midnightDone m).Journaled q :=
    (Part.finishMidnight_evidence m u).journaled q h
  have placed (x : Notice) (hx : x.kind ∉ accountKinds) (h : u.Placed x) : (u.midnightDone m).Placed x :=
    (Part.finishMidnight_kind hx m u).placed h
  have ok (h : (u.finishMidnight m).AccountDerived) : (u.midnightDone m).AccountDerived := h.putMidnights _ _
  have derived := Part.midnightDone_derived m u
  by_cases day : u.tariff.lastStandingDay < m.day
  · rw [if_pos day] at derived
    have elsewhere := Part.SameElsewhere.of_derived derived
    refine ⟨?_, ?_, Part.load_of_derived derived, ?_, elsewhere, requested, journaled, placed,
      fun h => ok (h.finishMidnight m), fun day charge => ok (Part.finishMidnight_ok day charge)⟩
    · simpa only [day, if_true] using Part.tariff_of_derived derived
    · simpa only [day, if_true] using Part.clock_of_derived derived
    · simpa only [day, if_true] using Part.books_of_derived derived
  · rw [if_neg day] at derived
    have elsewhere := Part.SameElsewhere.of_derived derived
    refine ⟨?_, ?_, Part.load_of_derived derived, ?_, elsewhere, requested, journaled, placed,
      fun h => ok (h.finishMidnight m), fun day charge => ok (Part.finishMidnight_ok day charge)⟩
    · simpa only [day, if_false] using Part.tariff_of_derived derived
    · simpa only [day, if_false] using Part.clock_of_derived derived
    · simpa only [day, if_false] using Part.books_of_derived derived

theorem Part.midnightEvent_run {u : Part} (m : Midnight) (none : u.tariff.midnight = none)
    (unscheduled : u.tariff.pending.isScheduled = false) : u.MidnightRun m (u.midnightEvent m) := by
  rw [Part.midnightEvent_plain m none unscheduled]
  exact u.midnightDone_run m

theorem Part.MidnightRun.of_unclosed {m : Midnight} {u v : Part} (run : u.MidnightRun m v)
    (day : u.tariff.lastStandingDay < m.day) :
    v.tariff.lastStandingDay = m.day ∧ v.clock = { u.clock with adjustment := 0 } ∧
      v.account.books = u.dayAccount.books := by
  rw [run.tariff, run.clock, run.books]
  simp only [day, if_true, and_self]

theorem Part.MidnightRun.of_closed {m : Midnight} {u v : Part} (run : u.MidnightRun m v)
    (day : ¬ u.tariff.lastStandingDay < m.day) :
    v.tariff.lastStandingDay = u.tariff.lastStandingDay ∧ v.clock = u.clock ∧ v.account.books = u.account.books := by
  rw [run.tariff, run.clock, run.books]
  simp only [day, if_false, and_self]

/-! ### The minute boundary (R53, R64) -/

theorem Part.dayAccount_of_derived {u v : Part} (h : v.derived = u.derived) :
    v.dayAccount.books = u.dayAccount.books :=
  Part.dayAccount_books (Part.books_of_derived h) (Part.activeBank_of_derived h)

section

variable {u : Part} {i : Image} (valid : u.clock.valid = true) (active : u.activeBank = some i)
include valid active

theorem Part.walked_record : u.walked.currentRecord = some (currentRecord i u.clock.count) := by
  simp [Part.walked, valid, active]

theorem Part.walked_band : u.walked.band = recordBand i (currentRecord i u.clock.count) := by
  simp [Part.walked, valid, active]

theorem Part.walked_friendly : u.walked.friendly = recordFriendly i (currentRecord i u.clock.count) := by
  simp [Part.walked, valid, active]

end

theorem Part.walked_of_none {u : Part} (h : u.clock.valid = false ∨ u.activeBank = none) :
    u.walked = { u.tariff with currentRecord := none, band := 0, friendly := false } := by
  unfold Part.walked
  rcases h with invalid | none
  · simp [invalid]
  · simp [none]

theorem Part.walk_clock (u : Part) : u.walk.clock = u.clock := by
  have clock := Part.clock_of_derived u.walk_derived
  exact clock

theorem Part.activeBank_walk (u : Part) : u.walk.activeBank = u.activeBank :=
  (Part.activeBank_of_derived u.walk_derived).trans (Part.activeBank_congr u.walked_activeArea rfl rfl)

/-- The part whose clock has been seen at a minute boundary. -/
def Part.seen (u : Part) : Part := { u.walk with tariff := { u.walk.tariff with dayBefore := dayOf u.clock.count } }

theorem Part.seen_derived (u : Part) :
    u.seen.derived = ({ u with tariff := { u.walked with dayBefore := dayOf u.clock.count } } : Part).derived :=
  Part.derived_map (fun w => { w with tariff := { w.tariff with dayBefore := dayOf u.clock.count } }) (fun _ => rfl)
    u.walk_derived

theorem Part.seen_tariff (u : Part) : u.seen.tariff = { u.walked with dayBefore := dayOf u.clock.count } :=
  Part.tariff_of_derived u.seen_derived

theorem Part.seen_clock (u : Part) : u.seen.clock = u.clock := by
  have clock := Part.clock_of_derived u.seen_derived
  exact clock

theorem Part.seen_ok {u : Part} (h : u.seen.tariff.friendly ≠ u.tariff.friendly) : u.seen.AccountDerived := by
  have walked : u.walk.AccountDerived := Part.walk_ok h
  exact walked.congr rfl rfl rfl rfl rfl rfl

theorem Part.minuteBoundary_of_later {u : Part} (valid : u.clock.valid = true)
    (later : u.tariff.dayBefore < dayOf u.clock.count) :
    u.minuteBoundary = u.seen.midnightEvent ⟨dayOf u.clock.count, false⟩ := by
  have clock := u.walk_clock
  exact if_pos (by simp [clock, valid, later])

theorem Part.minuteBoundary_of_not_later {u : Part}
    (h : u.clock.valid = false ∨ dayOf u.clock.count ≤ u.tariff.dayBefore) : u.minuteBoundary = u.seen := by
  have clock := u.walk_clock
  refine if_neg ?_
  rcases h with invalid | earlier
  · simp [clock, invalid]
  · simp [clock, earlier]

theorem exec_minuteBoundary {s : State} (h : s.part.power = .running) :
    exec .minuteBoundary s = .next (s.becomes s.part.minuteBoundary) := by
  rw [exec_eq]
  exact congrArg (fun v => Host.Outcome.next (s.becomes v)) (if_pos (s.part.active_iff.mpr (.inl h)))

/-- What a minute boundary makes of the engine's walk, with or without a midnight behind it. -/
structure Part.WalkKept (u v : Part) : Prop where
  record : v.tariff.currentRecord = u.walked.currentRecord
  band : v.tariff.band = u.walked.band
  friendly : v.tariff.friendly = u.walked.friendly
  dayBefore : v.tariff.dayBefore = dayOf u.clock.count
  ok : v.tariff.friendly ≠ u.tariff.friendly → v.AccountDerived

theorem Part.WalkKept.of_seen (u : Part) : u.WalkKept u.seen := by
  have tariff := u.seen_tariff
  exact ⟨by rw [tariff], by rw [tariff], by rw [tariff], by rw [tariff], Part.seen_ok⟩

theorem Part.WalkKept.run {m : Midnight} {u v w : Part} (h : u.WalkKept v) (run : v.MidnightRun m w) : u.WalkKept w := by
  have tariff := run.tariff
  refine ⟨?_, ?_, ?_, ?_, fun changed => run.derived (h.ok ?_)⟩
  · rw [tariff]; exact h.record
  · rw [tariff]; exact h.band
  · rw [tariff]; exact h.friendly
  · rw [tariff]; exact h.dayBefore
  · rw [tariff] at changed; exact changed

theorem Part.seen_midnight {u : Part} (h : u.tariff.midnight = none) : u.seen.tariff.midnight = none := by
  rw [Part.seen_tariff]
  exact u.walked_midnight.trans h

theorem Part.seen_pending (u : Part) : u.seen.tariff.pending = u.tariff.pending := by
  rw [Part.seen_tariff]
  exact u.walked_pending

theorem Part.seen_lastStandingDay (u : Part) : u.seen.tariff.lastStandingDay = u.tariff.lastStandingDay := by
  rw [Part.seen_tariff]
  exact u.walked_lastStandingDay

theorem Part.seen_elsewhere (u : Part) : u.SameElsewhere u.seen := by
  have elsewhere := Part.SameElsewhere.of_derived u.seen_derived
  exact elsewhere

theorem Part.seen_books (u : Part) : u.seen.account.books = u.account.books := by
  have books := Part.books_of_derived u.seen_derived
  exact books

theorem Part.seen_load (u : Part) : u.seen.load = u.load := by
  have load := Part.load_of_derived u.seen_derived
  exact load

theorem Part.activeBank_seen (u : Part) : u.seen.activeBank = u.activeBank := by
  have bank := u.activeBank_walk
  exact bank

theorem Part.dayAccount_seen (u : Part) : u.seen.dayAccount.books = u.dayAccount.books :=
  Part.dayAccount_books u.seen_books u.activeBank_seen

theorem Part.bankValue_seen {α : Type} (f : Image → α) (x : α) (u : Part) : u.seen.bankValue f x = u.bankValue f x := by
  unfold Part.bankValue
  rw [u.activeBank_seen]

/-- A minute boundary at which the clock has passed into a later day. -/
theorem Part.minuteBoundary_run {u : Part} (none : u.tariff.midnight = none)
    (unscheduled : u.tariff.pending.isScheduled = false) (valid : u.clock.valid = true)
    (later : u.tariff.dayBefore < dayOf u.clock.count) :
    u.seen.MidnightRun ⟨dayOf u.clock.count, false⟩ u.minuteBoundary := by
  rw [Part.minuteBoundary_of_later valid later]
  exact Part.midnightEvent_run _ (Part.seen_midnight none) (by rw [Part.seen_pending, unscheduled])

theorem Part.dayAccount_of_charge {u : Part} (h : u.bankValue bankStandingCharge 0 ≠ 0) :
    u.dayAccount = u.account.standing (u.bankValue bankStandingCharge 0) := if_neg h

theorem Part.dayAccount_of_noCharge {u : Part} (h : u.bankValue bankStandingCharge 0 = 0) :
    u.dayAccount = u.account := if_pos h

/-- Settles O30: the walk, then the midnight of a later day or none. -/
theorem minuteBoundary : Obligations.MinuteBoundary := by
  intro s running none unscheduled u day newDay charge
  have kept : u.WalkKept u.minuteBoundary := by
    by_cases crossed : u.clock.valid = true ∧ u.tariff.dayBefore < day
    · exact (Part.WalkKept.of_seen u).run (Part.minuteBoundary_run none unscheduled crossed.1 crossed.2)
    · have uncrossed : u.clock.valid = false ∨ day ≤ u.tariff.dayBefore := by simpa [imp_iff_not_or] using crossed
      rw [Part.minuteBoundary_of_not_later uncrossed]
      exact Part.WalkKept.of_seen u
  refine ⟨u.minuteBoundary, exec_minuteBoundary running, fun i valid active => ?bank, fun noBank => ?noBank,
    kept.dayBefore, kept.ok, ?_⟩
  case bank =>
    exact ⟨kept.record.trans (Part.walked_record valid active), kept.band.trans (Part.walked_band valid active),
      kept.friendly.trans (Part.walked_friendly valid active)⟩
  case noBank =>
    have walked := Part.walked_of_none noBank
    have record := congrArg Tariff.currentRecord walked
    have band := congrArg Tariff.band walked
    have friendly := congrArg Tariff.friendly walked
    exact ⟨kept.record.trans record, kept.band.trans band, kept.friendly.trans friendly⟩
  by_cases crossed : u.clock.valid = true ∧ u.tariff.dayBefore < day
  · obtain ⟨valid, later⟩ := crossed
    have run := Part.minuteBoundary_run none unscheduled valid later
    refine ⟨fun _ _ => ⟨?extended, run.requested⟩, fun h => ?uncrossed, fun new charged => ?ok, fun new => ?new,
      fun old => ?old, u.seen_elsewhere.trans run.elsewhere⟩
    case extended =>
      rw [run.load]
      rfl
    case uncrossed =>
      rcases h with invalid | earlier
      · simp [valid] at invalid
      · exact absurd later (Nat.not_lt.mpr earlier)
    case ok =>
      refine run.charged ?_ (by rw [Part.bankValue_seen]; exact charged)
      rw [Part.seen_lastStandingDay]
      exact new.2.2
    case new =>
      obtain ⟨last, clock, books⟩ := run.of_unclosed (by rw [Part.seen_lastStandingDay]; exact new.2.2)
      rw [Part.seen_clock] at clock
      rw [Part.dayAccount_seen] at books
      exact ⟨last, clock, fun h => by rw [books, Part.dayAccount_of_charge h],
        fun h => by rw [books, Part.dayAccount_of_noCharge h]⟩
    case old =>
      obtain ⟨last, clock, books⟩ := run.of_closed (by
        rw [Part.seen_lastStandingDay]
        exact fun h => old ⟨valid, later, h⟩)
      exact ⟨last.trans u.seen_lastStandingDay, clock.trans u.seen_clock, books.trans u.seen_books⟩
  · have uncrossed : u.clock.valid = false ∨ day ≤ u.tariff.dayBefore := by simpa [imp_iff_not_or] using crossed
    rw [Part.minuteBoundary_of_not_later uncrossed]
    refine ⟨fun valid later => absurd ⟨valid, later⟩ crossed, fun _ => u.seen_load,
      fun new => absurd ⟨new.1, new.2.1⟩ crossed, fun new => absurd ⟨new.1, new.2.1⟩ crossed, fun _ => ?_,
      u.seen_elsewhere⟩
    exact ⟨u.seen_lastStandingDay, u.seen_clock, u.seen_books⟩

/-! ### The wrap of the clock (R66) -/

/-- Settles O31: the wrapped clock is invalid, so that a walk finds no record. -/
theorem clockWrap : Obligations.ClockWrap := by
  intro s timely
  refine ⟨s.part.wrapClock, expire_of_not_mem timely _, fun on => ?_, fun stopped => ?_⟩
  · rw [Part.wrapClock]
    dsimp only
    rw [if_pos (by exact s.part.active_iff.mpr on), Part.walk_derived, Part.walked_of_none (.inl rfl)]
  · have off : ¬ s.part.active = true := by simp [stopped]
    exact if_neg off

/-! ### The setting of the clock (R67 to R69) -/

theorem Part.walk_evidence (u : Part) : u.KeepsEvidence 1 u.walk := by
  unfold Part.walk
  dsimp only
  split
  · exact .of_eq rfl rfl rfl
  · have walked : u.KeepsEvidence 0 u.walkQuietly := .of_eq rfl rfl rfl
    exact (walked.trans (Part.deriveQuietly_evidence 0 _)).trans (Part.recompute_evidence _)

/-- The part whose clock has been set, with the evidence of a change. -/
def Part.clockSet (count : Nat) (adjustment : Int) (u : Part) : Part :=
  (u.putClock count adjustment).clockEvidence u.clock.count count

theorem Part.clockSet_derived (count : Nat) (adjustment : Int) (u : Part) :
    (u.clockSet count adjustment).derived = (u.putClock count adjustment).derived := Part.clockEvidence_derived _ _ _

theorem Part.clockSet_evidence {count : Nat} {u : Part} (changed : count ≠ u.clock.count) (adjustment : Int) :
    (u.clockSet count adjustment).Placed (.clockAdjusted u.clock.count count) ∧
      (u.store.journal.length < 4 →
        (u.clockSet count adjustment).Journaled
          { stamp := .counted count, battery := false, balance := u.account.balance,
            detail := .clockAdjusted u.clock.count count }) := by
  rw [Part.clockSet, Part.clockEvidence, if_neg changed.symm]
  refine ⟨Part.place_placed _ _, fun room => ?_⟩
  have journaled := Part.journal_journaled (d := .clockAdjusted u.clock.count count) (u := u.putClock count adjustment)
    (by exact room.trans (by decide))
  exact (Part.place_evidence 0 _ _).journaled _ journaled

/-- The walk behind a setting, unless the setting leaves a valid clock as it is. -/
theorem Part.walked_clockSet {count : Nat} {u : Part} {i : Image} (adjustment : Int) (active : u.activeBank = some i) :
    (u.clockSet count adjustment).walk.tariff.currentRecord = some (currentRecord i count) := by
  have derived := u.clockSet_derived count adjustment
  have clock := Part.clock_of_derived derived
  have bank : (u.clockSet count adjustment).activeBank = some i := (Part.activeBank_of_derived derived).trans active
  rw [Part.tariff_of_derived (Part.walk_derived _)]
  refine (Part.walked_record (by rw [clock]; rfl) bank).trans ?_
  rw [clock]
  rfl

/-- `w` is `u` whose clock has been set, with or without a walk: what the midnight behind the setting sees. -/
structure Part.ClockSet (c : Clock) (u w : Part) : Prop where
  clock : w.clock = c
  last : w.tariff.lastStandingDay = u.tariff.lastStandingDay
  midnight : w.tariff.midnight = u.tariff.midnight
  pending : w.tariff.pending = u.tariff.pending
  bank : w.activeBank = u.activeBank
  load : w.load = u.load
  books : w.account.books = u.account.books
  elsewhere : u.SameElsewhere w

theorem Part.ClockSet.of_clockSet (count : Nat) (adjustment : Int) (u : Part) :
    u.ClockSet ⟨count, true, adjustment⟩ (u.clockSet count adjustment) := by
  have derived := u.clockSet_derived count adjustment
  have clock := Part.clock_of_derived derived
  have tariff := Part.tariff_of_derived derived
  have load := Part.load_of_derived derived
  have books := Part.books_of_derived derived
  have bank := Part.activeBank_of_derived derived
  have elsewhere := Part.SameElsewhere.of_derived derived
  have last := congrArg Tariff.lastStandingDay tariff
  have midnight := congrArg Tariff.midnight tariff
  have pending := congrArg Tariff.pending tariff
  exact ⟨clock, last, midnight, pending, bank, load, books, elsewhere⟩

theorem Part.ClockSet.walk {c : Clock} {u w : Part} (h : u.ClockSet c w) : u.ClockSet c w.walk := by
  have derived := w.walk_derived
  have tariff := Part.tariff_of_derived derived
  have load := Part.load_of_derived derived
  have books := Part.books_of_derived derived
  have elsewhere := Part.SameElsewhere.of_derived derived
  refine ⟨w.walk_clock.trans h.clock, ?_, ?_, ?_, w.activeBank_walk.trans h.bank, load.trans h.load, books.trans h.books,
    h.elsewhere.trans elsewhere⟩
  · rw [tariff]; exact w.walked_lastStandingDay.trans h.last
  · rw [tariff]; exact w.walked_midnight.trans h.midnight
  · rw [tariff]; exact w.walked_pending.trans h.pending

/-- The evidence of a setting that changes the count (R69). -/
def Part.ClockEvident (u : Part) (count : Nat) (w : Part) : Prop :=
  count ≠ u.clock.count →
    w.Placed (.clockAdjusted u.clock.count count) ∧
      (u.store.journal.length < 4 →
        w.Journaled
          { stamp := .counted count, battery := false, balance := u.account.balance,
            detail := .clockAdjusted u.clock.count count })

theorem Part.ClockEvident.walk {u w : Part} {count : Nat} (h : u.ClockEvident count w) : u.ClockEvident count w.walk := by
  intro changed
  obtain ⟨placed, journaled⟩ := h changed
  exact ⟨(Part.walk_kind (by simp [Notice.kind, accountKinds]) w).placed placed,
    fun room => w.walk_evidence.journaled _ (journaled room)⟩

theorem Part.ClockEvident.run {u w v : Part} {count : Nat} {m : Midnight} (h : u.ClockEvident count w)
    (run : w.MidnightRun m v) : u.ClockEvident count v := by
  intro changed
  obtain ⟨placed, journaled⟩ := h changed
  exact ⟨run.placed _ (by simp [Notice.kind, accountKinds]) placed, fun room => run.journaled _ (journaled room)⟩

section Run

variable {c : Clock} {m : Midnight} {u w v : Part} (h : u.ClockSet c w) (run : w.MidnightRun m v)
include h run

theorem Part.ClockSet.run_new (day : u.tariff.lastStandingDay < m.day) :
    v.tariff.lastStandingDay = m.day ∧ v.clock = { c with adjustment := 0 } ∧
      v.account.books = u.dayAccount.books := by
  obtain ⟨last, clock, books⟩ := run.of_unclosed (by rw [h.last]; exact day)
  exact ⟨last, clock.trans (by rw [h.clock]), books.trans (Part.dayAccount_books h.books h.bank)⟩

theorem Part.ClockSet.run_old (day : ¬ u.tariff.lastStandingDay < m.day) :
    v.tariff.lastStandingDay = u.tariff.lastStandingDay ∧ v.clock = c ∧ v.account.books = u.account.books := by
  obtain ⟨last, clock, books⟩ := run.of_closed (by rw [h.last]; exact day)
  exact ⟨last.trans h.last, clock.trans h.clock, books.trans h.books⟩

theorem Part.ClockSet.run_load : v.load = m.limiter u.load := by rw [run.load, h.load]

end Run

theorem Part.ClockSet.midnightEvent {c : Clock} {u w : Part} (h : u.ClockSet c w) (none : u.tariff.midnight = none)
    (unscheduled : u.tariff.pending.isScheduled = false) (m : Midnight) : w.MidnightRun m (w.midnightEvent m) :=
  Part.midnightEvent_run m (h.midnight.trans none) (by rw [h.pending, unscheduled])

theorem Part.MidnightRun.record {m : Midnight} {u v : Part} (run : u.MidnightRun m v) :
    v.tariff.currentRecord = u.tariff.currentRecord := by
  rw [run.tariff]

/-- The part behind an unclamped setting's evidence and walk. -/
def Part.setUnclamped (count : Nat) (u : Part) : Part :=
  if u.clock.valid && decide (u.clock.count = count) then u.clockSet count 0 else (u.clockSet count 0).walk

theorem Part.setUnclamped_set (count : Nat) (u : Part) : u.ClockSet ⟨count, true, 0⟩ (u.setUnclamped count) := by
  have set := Part.ClockSet.of_clockSet count 0 u
  unfold Part.setUnclamped
  split
  · exact set
  · exact set.walk

theorem Part.setUnclamped_evident (count : Nat) (u : Part) : u.ClockEvident count (u.setUnclamped count) := by
  have set : u.ClockEvident count (u.clockSet count 0) := fun changed => Part.clockSet_evidence changed 0
  unfold Part.setUnclamped
  split
  · exact set
  · exact set.walk

theorem Part.setUnclamped_record {count : Nat} {u : Part} {i : Image} (active : u.activeBank = some i)
    (h : u.clock.valid = false ∨ count ≠ u.clock.count) :
    (u.setUnclamped count).tariff.currentRecord = some (currentRecord i count) := by
  have walks : ¬ (u.clock.valid && decide (u.clock.count = count)) = true := by
    rcases h with invalid | changed
    · simp [invalid]
    · simp [changed.symm]
  rw [Part.setUnclamped, if_neg walks]
  exact Part.walked_clockSet 0 active

/-- An unclamped setting is a midnight event, or its evidence and walk alone. -/
theorem Part.setTimeUnclamped_eq (count : Nat) (u : Part) :
    u.setTimeUnclamped count =
      if (u.clock.count < count ∧ u.tariff.dayBefore < dayOf count) ∨ u.tariff.lastStandingDay < dayOf count then
        (u.setUnclamped count).midnightEvent ⟨dayOf count, decide (count < u.clock.count)⟩
      else u.setUnclamped count := by
  have last := (u.setUnclamped_set count).last
  have unfolded : u.setTimeUnclamped count =
      if u.crossesInto count || decide ((u.setUnclamped count).tariff.lastStandingDay < dayOf count) then
        (u.setUnclamped count).midnightEvent ⟨dayOf count, decide (count < u.clock.count)⟩
      else u.setUnclamped count := rfl
  rw [unfolded, last]
  simp only [Part.crossesInto, Bool.or_eq_true, Bool.and_eq_true, decide_eq_true_eq]

theorem Part.setTime_unclamped {u : Part} (h : u.clock.valid = false ∨ u.lifecycle = .provisioning) (b : List Byte) :
    u.setTime b = (u.setTimeUnclamped (wholeNumber b),
      okWith (timeFields ((wholeNumber b : Int) - u.clock.count) (wholeNumber b))) := by
  have free : ¬ u.clampsTime = true := by
    rcases h with invalid | provisioning
    · simp [Part.clampsTime, invalid]
    · simp [Part.clampsTime, provisioning]
  exact if_neg free

/-- Whether a midnight of a setting reaches the limiter (R69, R128; log 66). -/
theorem Midnight.reachesLimiter_iff (day count old : Nat) :
    Midnight.reachesLimiter ⟨day, decide (count < old)⟩ = true ↔ old ≤ count ∨ Config.backwardSettingEndsLockout = true := by
  by_cases h : count < old
  · simp [Midnight.reachesLimiter, h]
  · simp [Midnight.reachesLimiter, Nat.le_of_not_lt h]

/-- Settles O32: the setting with its evidence and walk, then the midnight that it makes or none. -/
theorem unclampedSetTime : Obligations.UnclampedSetTime := by
  intro s b hunting hlen free none unscheduled u count charge midnight told evidence
  have set := u.setUnclamped_set count
  have evident := u.setUnclamped_evident count
  have plain := u.setTimeUnclamped_eq count
  refine ⟨u.setTimeUnclamped count, ?_, ?_⟩
  · exact exec_effect (k := .setTime) hunting (by omega) rfl (by simp [ReqKind.admits, hlen])
      (Part.setTime_unclamped (by exact free) b)
  by_cases runs : midnight
  · have run := set.midnightEvent none unscheduled ⟨dayOf count, decide (count < u.clock.count)⟩
    rw [plain, if_pos (by exact runs)]
    obtain ⟨pulse, recon, codes, config, -, -, -, lifecycle, -⟩ := set.elsewhere.trans run.elsewhere
    refine ⟨?clock, fun new => ?new, fun old => ?old, fun _ => run.requested, fun ⟨_, hears⟩ => ?heard,
      fun unheard => ?unheard, evident.run run, fun i active h => ?record, pulse, recon, codes, config, lifecycle⟩
    case clock =>
      by_cases day : u.tariff.lastStandingDay < dayOf count
      · exact (set.run_new run day).2.1
      · exact (set.run_old run day).2.1
    case new =>
      obtain ⟨last, -, books⟩ := set.run_new run new
      exact ⟨last, books⟩
    case old =>
      obtain ⟨last, -, books⟩ := set.run_old run (Nat.not_lt.mpr old)
      exact ⟨last, books⟩
    case heard =>
      rw [set.run_load run, Midnight.limiter, if_pos ((Midnight.reachesLimiter_iff _ _ _).mpr hears)]
    case unheard =>
      have deaf : ¬ told := fun hears => unheard ⟨runs, hears⟩
      rw [set.run_load run, Midnight.limiter, if_neg (fun h => deaf ((Midnight.reachesLimiter_iff _ _ _).mp h))]
    case record => exact run.record.trans (Part.setUnclamped_record active h)
  · rw [plain, if_neg (by exact runs)]
    obtain ⟨pulse, recon, codes, config, -, -, -, lifecycle, -⟩ := set.elsewhere
    exact ⟨set.clock, fun new => absurd (.inr new) runs, fun _ => ⟨set.last, set.books⟩, fun h => absurd h runs,
      fun h => absurd h.1 runs, fun _ => set.load, evident, fun i active h => Part.setUnclamped_record active h, pulse,
      recon, codes, config, lifecycle⟩

/-- The part behind a clamped setting's evidence and walk. -/
def Part.setClamped (after : Nat) (adjustment : Int) (u : Part) : Part := (u.clockSet after adjustment).walk

theorem Part.setClamped_set (after : Nat) (adjustment : Int) (u : Part) :
    u.ClockSet ⟨after, true, adjustment⟩ (u.setClamped after adjustment) :=
  (Part.ClockSet.of_clockSet after adjustment u).walk

theorem Part.setClamped_evident (after : Nat) (adjustment : Int) (u : Part) :
    u.ClockEvident after (u.setClamped after adjustment) :=
  Part.ClockEvident.walk fun changed => Part.clockSet_evidence changed adjustment

theorem Part.setTimeClamped_eq (count : Nat) (u : Part) :
    u.setTimeClamped count =
      if u.clock.clampedCount count = u.clock.count then u
      else if u.clock.count < u.clock.clampedCount count ∧ u.tariff.dayBefore < dayOf (u.clock.clampedCount count) then
        (u.setClamped (u.clock.clampedCount count) (u.clock.adjustment + u.clock.appliedChange count)).midnightEvent
          ⟨dayOf (u.clock.clampedCount count), false⟩
      else u.setClamped (u.clock.clampedCount count) (u.clock.adjustment + u.clock.appliedChange count) := by
  unfold Part.setTimeClamped
  simp only [Part.crossesInto, Bool.and_eq_true, decide_eq_true_eq]
  rfl

theorem Part.setTime_clamped {u : Part} (valid : u.clock.valid = true) (service : u.lifecycle = .inService)
    (b : List Byte) :
    u.setTime b = (u.setTimeClamped (wholeNumber b),
      { status := if u.clock.clampedCount (wholeNumber b) = wholeNumber b then Status.ok else Status.clamped,
        fields := timeFields (u.clock.appliedChange (wholeNumber b)) (u.clock.clampedCount (wholeNumber b)) }) :=
  if_pos (by simp [Part.clampsTime, valid, service])

/-- Within the clock's range the count moves by the applied change. -/
theorem Clock.clampedCount_eq {c : Clock} (low : -900 ≤ c.adjustment) (high : c.adjustment ≤ 900)
    (range : c.count ≤ 4294967295) (count : Nat) :
    (c.clampedCount count : Int) = c.count + c.appliedChange count := by
  unfold Clock.clampedCount Clock.appliedChange
  dsimp only
  omega

/-- Settles O33: the applied change, then the setting as an unclamped one's, with its midnight when it crosses. -/
theorem clampedSetTime : Obligations.ClampedSetTime := by
  intro s b hunting hlen valid service adjLow adjHigh range none unscheduled u c requested low high applied after crossed
    newDay evidence charge
  have moved : (after : Int) = c.count + applied := Clock.clampedCount_eq adjLow adjHigh range (wholeNumber b)
  have plain := u.setTimeClamped_eq (wholeNumber b)
  have set := u.setClamped_set after (c.adjustment + applied)
  have evident := u.setClamped_evident after (c.adjustment + applied)
  have record (i : Image) (active : u.activeBank = some i) :
      (u.setClamped after (c.adjustment + applied)).tariff.currentRecord = some (currentRecord i after) :=
    Part.walked_clockSet _ active
  refine ⟨u.setTimeClamped (wholeNumber b), ?answer, moved, ?_⟩
  case answer =>
    have answered := exec_effect (k := .setTime) hunting (by omega) rfl (by simp [ReqKind.admits, hlen])
      (Part.setTime_clamped (u := u) valid service b)
    have status : (after = wholeNumber b) ↔ applied = requested := by omega
    have same : u.clock.clampedCount (wholeNumber b) = wholeNumber b ↔ applied = requested := status
    simp only [same] at answered
    exact answered
  by_cases still : applied = 0
  · have uncrossed : ¬ crossed := fun h => by have pos := h.1; omega
    have count : after = c.count := by omega
    rw [plain, if_pos (by exact count)]
    have kept : u.clock = { count := after, valid := true, adjustment := c.adjustment + applied } := by
      rw [count, still, add_zero, ← show u.clock.valid = true from valid]
    exact ⟨fun _ => rfl, fun new => absurd new.1 uncrossed, fun _ => ⟨kept, rfl, rfl⟩, fun h => absurd h uncrossed,
      fun _ => rfl, fun h => absurd still h, fun _ h => absurd still h, rfl, rfl, rfl, rfl, rfl⟩
  · have changed : after ≠ c.count := fun h => still (by omega)
    rw [plain, if_neg (by exact changed)]
    by_cases crosses : crossed
    · have run := set.midnightEvent none unscheduled ⟨dayOf after, false⟩
      have forward : c.count < after := by have pos := crosses.1; omega
      rw [if_pos (by exact ⟨forward, crosses.2⟩)]
      obtain ⟨pulse, recon, codes, config, -, -, -, lifecycle, -⟩ := set.elsewhere.trans run.elsewhere
      refine ⟨fun h => absurd h still, fun new => ?new, fun old => ?old, fun _ => ⟨?extended, run.requested⟩,
        fun h => absurd crosses h, fun _ => evident.run run changed, fun i _ active => run.record.trans (record i active),
        pulse, recon, codes, config, lifecycle⟩
      case new =>
        obtain ⟨last, clock, books⟩ := set.run_new run new.2
        exact ⟨clock, last, books⟩
      case old =>
        obtain ⟨last, clock, books⟩ := set.run_old run (fun h => old ⟨crosses, h⟩)
        exact ⟨clock, last, books⟩
      case extended =>
        exact congrArg Load.extended (set.run_load run)
    · rw [if_neg (fun h => crosses ⟨by have forward : c.count < after := h.1; omega, h.2⟩)]
      obtain ⟨pulse, recon, codes, config, -, -, -, lifecycle, -⟩ := set.elsewhere
      exact ⟨fun h => absurd h still, fun new => absurd new.1 crosses, fun _ => ⟨set.clock, set.last, set.books⟩,
        fun h => absurd h crosses, fun _ => set.load, fun _ => evident changed, fun i _ active => record i active, pulse,
        recon, codes, config, lifecycle⟩

/-! ### A midnight that waits (R64) -/

theorem Part.midnightEvent_waits {u : Part} {f : Nat} (none : u.tariff.midnight = none)
    (scheduled : u.tariff.pending = .scheduled f) (can : u.canActivate = true) (m : Midnight) :
    u.midnightEvent m =
      Part.startActivation .midnight { u with tariff := { u.tariff with midnight := some m, midnightsWaiting := [] } } := by
  have starts : u.midnightActivates = true := by simp [Part.midnightActivates, scheduled, PendingState.isScheduled, can]
  simp [Part.midnightEvent, none, Part.runMidnights, starts]

/-- The activation that the pending bank with this fingerprint gives (R61). -/
def Part.newActivation (origin : ActivationOrigin) (f : Nat) (u : Part) : Activation :=
  { image := u.tariff.pendingImage, fingerprint := f, area := otherArea u.tariff.activeArea, origin := origin,
    phase := .bankWrite }

/-- The part whose activation has been taken up, its bank write not yet submitted (R61). -/
def Part.activating (origin : ActivationOrigin) (f : Nat) (u : Part) : Part :=
  { u.emptyPending with
    tariff := { u.emptyPending.tariff with activation := some (u.newActivation origin f) } }

theorem Part.startActivation_eq {u : Part} {f : Nat} (h : u.tariff.pending.fingerprint = some f)
    (origin : ActivationOrigin) :
    u.startActivation origin =
      (u.activating origin f).submitClass2 (.bank (otherArea u.tariff.activeArea) u.tariff.pendingImage) := by
  rw [Part.startActivation, h]
  rfl

theorem Part.clearMarker_derived (u : Part) :
    u.clearMarker.derived = ({ u with tariff := { u.tariff with scheduleMarker := none } } : Part).derived :=
  Part.markDueIf_derived _ _

/-- The tariff engine behind the start of an activation (R61). -/
def Part.activationTaken (origin : ActivationOrigin) (f : Nat) (u : Part) : Tariff :=
  { u.tariff with
    pending := .empty, pendingImage := Image.zero, scheduleMarker := none,
    activation := some (u.newActivation origin f) }

theorem Part.startActivation_derived {u : Part} {f : Nat} (h : u.tariff.pending.fingerprint = some f)
    (origin : ActivationOrigin) :
    (u.startActivation origin).derived = ({ u with tariff := u.activationTaken origin f } : Part).derived := by
  rw [Part.startActivation_eq h, Part.submitClass2_derived]
  have emptied := Part.clearMarker_derived
    { u with tariff := { u.tariff with pending := .empty, pendingImage := Image.zero } }
  exact Part.derived_map (fun w => { w with tariff := { w.tariff with activation := some (u.newActivation origin f) } })
    (fun _ => rfl) emptied

/-- The first attempt of a class 2 write. -/
def Class2Write.attempt : Class2Write → Attempt
  | .bank area image => .bank area image false
  | .config item value => .config item value false

theorem Part.startClass2_eq (u : Part) (w : Class2Write) (rest : List Class2Write) :
    u.startClass2 w rest = { u with store := { u.store with class2 := rest, inFlight := some w.attempt } } := by
  cases w <;> rfl

theorem Part.startClass2_takes {u : Part} {first w : Class2Write} {rest : List Class2Write}
    (waits : u.store.class2 = first :: rest) (h : w ∈ u.store.class2) :
    w ∈ (u.startClass2 first rest).store.class2 ∨ (u.startClass2 first rest).store.inFlight = some w.attempt := by
  rw [Part.startClass2_eq]
  rw [waits] at h
  rcases List.mem_cons.mp h with rfl | later
  · exact .inr rfl
  · exact .inl later

theorem Part.startJournal_class2 (u : Part) (r : JournalRequest) (rest : List JournalRequest) :
    (u.startJournal r rest).store.class2 = u.store.class2 := by
  unfold Part.startJournal
  dsimp only
  split <;> rfl

/-- What starts next takes at most the oldest class 2 write from its queue (R151). -/
theorem Part.startNext_class2 (u : Part) (w : Class2Write) (h : w ∈ u.store.class2) :
    w ∈ u.startNext.store.class2 ∨ u.startNext.store.inFlight = some w.attempt := by
  unfold Part.startNext
  cases u.store.inFlight with
  | some a => exact .inl h
  | none =>
    dsimp only
    split
    · exact .inl h
    · cases u.store.waiting with
      | some reasons => exact .inl h
      | none =>
        dsimp only
        split
        next first rest waits _ => exact Part.startClass2_takes waits h
        next first rest waits _ => exact Part.startClass2_takes waits h
        next =>
          split
          · exact .inl (by rw [Part.startJournal_class2]; exact h)
          · exact .inl h

/-- A class 2 write that is submitted waits, or has started when nothing was before it (R151). -/
theorem Part.submitClass2_queued (w : Class2Write) (u : Part) :
    w ∈ (u.submitClass2 w).store.class2 ∨ (u.submitClass2 w).store.inFlight = some w.attempt :=
  Part.startNext_class2 _ w (by simp)

/-- The part whose minute boundary has found a scheduled midnight: seen, with the midnight noted. -/
def Part.midnightNoted (u : Part) : Part :=
  { u.seen with tariff := { u.seen.tariff with midnight := some ⟨dayOf u.clock.count, false⟩, midnightsWaiting := [] } }

theorem Part.midnightNoted_tariff (u : Part) :
    u.midnightNoted.tariff = { u.walked with
      dayBefore := dayOf u.clock.count, midnight := some ⟨dayOf u.clock.count, false⟩, midnightsWaiting := [] } := by
  change { u.seen.tariff with midnight := some ⟨dayOf u.clock.count, false⟩, midnightsWaiting := [] } = _
  rw [u.seen_tariff]

theorem Part.walked_areaCarried (u : Part) : u.walked.areaCarried = u.tariff.areaCarried := by
  unfold Part.walked
  repeat' split
  all_goals rfl

theorem Part.walked_activation (u : Part) : u.walked.activation = u.tariff.activation := by
  unfold Part.walked
  repeat' split
  all_goals rfl

theorem Part.walked_pendingImage (u : Part) : u.walked.pendingImage = u.tariff.pendingImage := by
  unfold Part.walked
  repeat' split
  all_goals rfl

theorem Part.seen_canActivate (u : Part) : u.seen.canActivate = u.canActivate := by
  simp [Part.canActivate, Part.areaCarried, Part.seen_tariff, Part.walked_areaCarried, Part.walked_activation]

/-- A minute boundary whose midnight starts the scheduled activation. -/
theorem Part.minuteBoundary_waits {u : Part} {f : Nat} (none : u.tariff.midnight = none)
    (scheduled : u.tariff.pending = .scheduled f) (can : u.canActivate = true) (valid : u.clock.valid = true)
    (later : u.tariff.dayBefore < dayOf u.clock.count) :
    u.minuteBoundary = u.midnightNoted.startActivation .midnight := by
  rw [Part.minuteBoundary_of_later valid later]
  exact Part.midnightEvent_waits (Part.seen_midnight none) (u.seen_pending.trans scheduled)
    (u.seen_canActivate.trans can) _

/-- Settles O34: the walk, then the activation that the midnight starts and waits for. -/
theorem scheduledMidnightWaits : Obligations.ScheduledMidnightWaits := by
  intro s f running none scheduled can valid later u area
  have waits := Part.minuteBoundary_waits none scheduled can valid later
  have fingerprint : u.midnightNoted.tariff.pending.fingerprint = some f := by
    rw [u.midnightNoted_tariff]
    exact congrArg PendingState.fingerprint (u.walked_pending.trans scheduled)
  have derived := Part.startActivation_derived fingerprint .midnight
  have tariff := Part.tariff_of_derived derived
  have books := Part.books_of_derived derived
  have clock := Part.clock_of_derived derived
  have image : u.midnightNoted.tariff.pendingImage = u.tariff.pendingImage := by
    rw [u.midnightNoted_tariff]
    exact u.walked_pendingImage
  have other : otherArea u.midnightNoted.tariff.activeArea = area := by
    rw [u.midnightNoted_tariff]
    refine (congrArg otherArea u.walked_activeArea).trans ?_
    simp only [area]
    cases u.tariff.activeArea with
    | none => rfl
    | some x => cases x <;> rfl
  refine ⟨u.minuteBoundary, exec_minuteBoundary running, ?_⟩
  rw [waits]
  refine ⟨?activation, ?_, ?_, ?_, ?midnight, ?active, ?last, books.trans u.seen_books, clock.trans u.seen_clock, ?queued⟩
  case queued =>
    rw [Part.startActivation_eq fingerprint, other, image]
    exact Part.submitClass2_queued _ _
  all_goals rw [tariff]
  case activation =>
    change some (u.midnightNoted.newActivation .midnight f) = _
    rw [Part.newActivation, other, image]
  case midnight =>
    change u.midnightNoted.tariff.midnight = _
    rw [u.midnightNoted_tariff]
    rfl
  case active =>
    change u.midnightNoted.tariff.activeArea = _
    rw [u.midnightNoted_tariff]
    exact u.walked_activeArea
  case last =>
    change u.midnightNoted.tariff.lastStandingDay = _
    rw [u.midnightNoted_tariff]
    exact u.walked_lastStandingDay
  all_goals rfl

end Sys2Proof.Machine
end

section
/-! The used-code list in order (R81). Settles O40. -/

namespace Sys2Proof.Machine

theorem strictlyRising_iff_pairwise (l : List Nat) : strictlyRising l ↔ l.Pairwise (· < ·) := by
  rw [← List.isChain_iff_pairwise]
  induction l with
  | nil => exact ⟨fun _ => .nil, fun _ => trivial⟩
  | cons x l ih =>
    cases l with
    | nil => exact ⟨fun _ => .singleton x, fun _ => trivial⟩
    | cons y l => exact (and_congr_right fun _ => ih).trans List.isChain_cons_cons.symm

theorem mem_insertSerial {x y : Nat} {l : List Nat} : y ∈ insertSerial x l ↔ y = x ∨ y ∈ l := by
  induction l with
  | nil => simp [insertSerial]
  | cons z l ih =>
    by_cases lower : x < z
    · simp [insertSerial, lower]
    · simp only [insertSerial, if_neg lower, List.mem_cons, ih]
      exact or_left_comm

theorem length_insertSerial (x : Nat) (l : List Nat) : (insertSerial x l).length = l.length + 1 := by
  induction l with
  | nil => rfl
  | cons z l ih =>
    by_cases lower : x < z
    · simp [insertSerial, lower]
    · simp [insertSerial, lower, ih]

theorem pairwise_insertSerial {x : Nat} {l : List Nat} (rising : l.Pairwise (· < ·)) (new : x ∉ l) :
    (insertSerial x l).Pairwise (· < ·) := by
  induction l with
  | nil => exact List.pairwise_singleton _ _
  | cons z l ih =>
    obtain ⟨above, rest⟩ := List.pairwise_cons.mp rising
    obtain ⟨different, absent⟩ := not_or.mp (mt List.mem_cons.mpr new)
    by_cases lower : x < z
    · rw [insertSerial, if_pos lower]
      refine List.pairwise_cons.mpr ⟨fun y hy => ?_, rising⟩
      rcases List.mem_cons.mp hy with rfl | hy
      · exact lower
      · exact lower.trans (above y hy)
    · rw [insertSerial, if_neg lower]
      refine List.pairwise_cons.mpr ⟨fun y hy => ?_, ih rest absent⟩
      rcases mem_insertSerial.mp hy with rfl | hy
      · omega
      · exact above y hy

/-- The lowest serial of a list that is not empty, after an insertion. -/
theorem headD_insertSerial {x : Nat} {l : List Nat} (filled : l ≠ []) :
    (insertSerial x l).headD 0 = min x (l.headD 0) := by
  cases l with
  | nil => exact absurd rfl filled
  | cons z l =>
    by_cases lower : x < z
    · simp only [insertSerial, if_pos lower, List.headD_cons]
      omega
    · simp only [insertSerial, if_neg lower, List.headD_cons]
      omega

theorem Serials.mark_highest (l : Serials) (x : Nat) : (l.mark x).highest = max l.highest x := by
  have top : (if l.highest < x then x else l.highest) = max l.highest x := by
    split <;> omega
  unfold Serials.mark
  rw [← top]
  cases insertSerial x l.used with
  | nil => rfl
  | cons low rest => exact (apply_ite Serials.highest _ _ _).trans (ite_self _)

/-- Up to 40 serials the list takes the new one and the floor stands. -/
theorem Serials.mark_of_room {l : Serials} {x : Nat} (room : l.used.length < 40) :
    (l.mark x).used = insertSerial x l.used ∧ (l.mark x).floor = l.floor := by
  have short : ¬ 41 ≤ (insertSerial x l.used).length := by
    rw [length_insertSerial]
    omega
  unfold Serials.mark
  cases h : insertSerial x l.used with
  | nil => exact ⟨rfl, rfl⟩
  | cons low rest =>
    rw [h] at short
    simp only [if_neg short, and_self]

/-- The lowest of 41 leaves into the floor. -/
theorem Serials.mark_of_full {l : Serials} {x : Nat} (full : l.used.length = 40) :
    insertSerial x l.used = (l.mark x).floor :: (l.mark x).used := by
  have long : 41 ≤ (insertSerial x l.used).length := by
    rw [length_insertSerial]
    omega
  unfold Serials.mark
  cases h : insertSerial x l.used with
  | nil => simp [h] at long
  | cons low rest =>
    rw [h] at long
    simp only [if_pos long]

/-- Settles O40: an insertion keeps the order, and the lowest of 41 is the head of the list. -/
theorem markKeepsTheUsedCodeList : Obligations.MarkKeepsTheUsedCodeList := by
  intro l x ⟨bounded, rising, within⟩ above new
  have sorted : (insertSerial x l.used).Pairwise (· < ·) :=
    pairwise_insertSerial ((strictlyRising_iff_pairwise _).mp rising) new
  have topped (y : Nat) (hy : y ∈ insertSerial x l.used) : l.floor < y ∧ y ≤ max l.highest x := by
    rcases mem_insertSerial.mp hy with rfl | hy
    · exact ⟨above, le_max_right _ _⟩
    · exact ⟨(within y hy).1, (within y hy).2.trans (le_max_left _ _)⟩
  rw [Serials.Ordered, l.mark_highest, strictlyRising_iff_pairwise]
  rcases Nat.lt_or_ge l.used.length 40 with room | full
  · obtain ⟨used, floor⟩ := Serials.mark_of_room (x := x) room
    rw [used, floor, length_insertSerial]
    exact ⟨⟨room, sorted, topped⟩, rfl, fun _ => ⟨rfl, fun _ => mem_insertSerial⟩, fun h => absurd h room.ne⟩
  · have full := Nat.le_antisymm bounded full
    have inserted := Serials.mark_of_full (x := x) full
    have counted := length_insertSerial x l.used
    have lowest := headD_insertSerial (x := x) (List.ne_nil_of_length_pos (by rw [full]; decide : 0 < l.used.length))
    rw [inserted] at sorted topped counted lowest
    obtain ⟨raised, rest⟩ := List.pairwise_cons.mp sorted
    refine ⟨⟨by rw [List.length_cons] at counted; omega, rest, fun y hy => ⟨raised y hy, (topped y (.tail _ hy)).2⟩⟩,
      rfl, fun h => absurd full h.ne, fun _ => ⟨lowest, fun y => ?_⟩⟩
    rw [← mem_insertSerial, inserted, List.mem_cons]
    exact ⟨fun hy => ⟨.inr hy, raised y hy⟩, fun ⟨hy, high⟩ => hy.resolve_left high.ne'⟩

end Sys2Proof.Machine
end

section
/-! The code body, the check value and the screening of the head code (R72, R74, R75, R79). Settles O36. -/

namespace Sys2Proof.Machine

/-! ### The body and the check value -/

theorem decimalOf_append (digits : List Byte) (b : Byte) :
    decimalOf (digits ++ [b]) = 10 * decimalOf digits + (b.toNat - 48) := by
  simp only [decimalOf, List.foldl_append, List.foldl_cons, List.foldl_nil]
  omega

theorem bodyFields_bits {n : Nat} (h : n < 2 ^ 79) :
    n = (bodyFields n).kind * 2 ^ 74 + (bodyFields n).serial * 2 ^ 54 + (bodyFields n).value * 2 ^ 30 +
        (bodyFields n).check ∧
      (bodyFields n).kind < 2 ^ 5 ∧ (bodyFields n).serial < 2 ^ 20 ∧ (bodyFields n).value < 2 ^ 24 ∧
      (bodyFields n).check < 2 ^ 30 := by
  simp only [bodyFields]
  omega

theorem decodeDigits_of_lt {digits : List Byte} (h : decimalOf digits < 2 ^ 79) :
    decodeDigits digits = some (bodyFields (decimalOf digits)) :=
  if_pos h

theorem decodeDigits_of_ge {digits : List Byte} (h : 2 ^ 79 ≤ decimalOf digits) : decodeDigits digits = none :=
  if_neg (Nat.not_lt.mpr h)

theorem KeySlot.word_mod (k : KeySlot) (i : Nat) :
    k.word (i % 4) = if i % 4 = 0 then k.k0 else if i % 4 = 1 then k.k1 else if i % 4 = 2 then k.k2 else k.k3 := by
  have bound : i % 4 < 4 := Nat.mod_lt i (by decide)
  generalize i % 4 = m at bound
  match m, bound with
  | 0, _ => rfl
  | 1, _ => rfl
  | 2, _ => rfl
  | 3, _ => rfl

/-- The pair A, B after the first `n` rounds. -/
def checkRounds (k : KeySlot) (p0 p1 : Word32) (start : Word32 × Word32) (n : Nat) : Word32 × Word32 :=
  (List.range n).foldl (checkRound k p0 p1) start

theorem checkRounds_succ (k : KeySlot) (p0 p1 : Word32) (start : Word32 × Word32) (n : Nat) :
    checkRounds k p0 p1 start (n + 1) = checkRound k p0 p1 (checkRounds k p0 p1 start n) n := by
  simp [checkRounds, List.range_succ]

/-- Sequences that start as the pair does and follow its rounds are the pair's. -/
theorem eq_checkRounds {k : KeySlot} {p0 p1 : Word32} {start : Word32 × Word32} {ab : Nat → Word32 × Word32} {n : Nat}
    (zero : ab 0 = start) (round : ∀ i, i < n → ab (i + 1) = checkRound k p0 p1 (ab i) i) :
    ab n = checkRounds k p0 p1 start n := by
  induction n with
  | zero => exact zero
  | succ n ih =>
    rw [round n n.lt_succ_self, ih fun i hi => round i (hi.trans n.lt_succ_self), checkRounds_succ]

theorem checkValue_eq (mid : Nat) (k : KeySlot) (g : Nat) (c : DecodedCode) :
    checkValue mid k g c =
      ((checkRounds k (BitVec.ofNat 32 (c.kind * 2 ^ 20 + c.serial)) (BitVec.ofNat 32 (g * 2 ^ 24 + c.value))
          (BitVec.ofNat 32 mid ^^^ k.k0, BitVec.ofNat 32 (g * 2 ^ 24 + c.value) ^^^ k.k1) 12).1 ^^^
        (checkRounds k (BitVec.ofNat 32 (c.kind * 2 ^ 20 + c.serial)) (BitVec.ofNat 32 (g * 2 ^ 24 + c.value))
          (BitVec.ofNat 32 mid ^^^ k.k0, BitVec.ofNat 32 (g * 2 ^ 24 + c.value) ^^^ k.k1) 12).2).toNat % 2 ^ 30 :=
  rfl

theorem matchesUnder_iff (slots : Vector KeySlot 4) (mid g : Nat) (c : DecodedCode) :
    matchesUnder slots mid g c = true ↔
      ∃ k, slots[g]? = some k ∧ k.loaded = true ∧ checkValue mid k g c = c.check := by
  unfold matchesUnder
  cases slots[g]? with
  | none => simp
  | some k => simp

/-! ### The stages that refuse (R79, R80, R83) -/

theorem Part.screenRefusal_eq (slots : Vector KeySlot 4) (mid : Nat) {p : Port} (c : DecodedCode) (u : Part)
    (takes : p = .k ∨ p = .s) :
    u.screenRefusal slots mid p c =
      if matchesUnder slots mid u.codes.generation c = false then
        (if 0 < u.codes.generation ∧ matchesUnder slots mid (u.codes.generation - 1) c = true then some .generationOld
          else some .checkFailed)
      else if 10 ≤ c.kind then some .kindUnknown
      else if p = .k ∧ (c.kind = 6 ∨ c.kind = 8 ∨ c.kind = 9) then some .kindNotOnPort
      else if c.serial ≤ u.codes.serials.floor then some .tooOld
      else if c.serial ∈ u.codes.serials.used then some .alreadyUsed
      else if u.codes.serials.highest + 8192 < c.serial then some .tooFarAhead
      else none := by
  have onPort : 10 ≤ c.kind ∨ (kindOnPort c.kind p = false ↔ p = .k ∧ (c.kind = 6 ∨ c.kind = 8 ∨ c.kind = 9)) := by
    rcases takes with rfl | rfl
    · simp only [kindOnPort, Bool.or_eq_false_iff, decide_eq_false_iff_not, true_and]
      omega
    · simp [kindOnPort]
  simp only [Part.screenRefusal, checkRefusal]
  cases now : matchesUnder slots mid u.codes.generation c with
  | false =>
    by_cases old : 0 < u.codes.generation ∧ matchesUnder slots mid (u.codes.generation - 1) c = true
    · simp [old]
    · rw [if_neg (by decide), if_neg (by simpa using old), if_pos rfl, if_neg old]
  | true =>
    simp only [if_true, Bool.true_eq_false, if_false, kindRefusal, serialRefusal, List.contains_eq_mem]
    by_cases unknown : 10 ≤ c.kind
    · simp only [if_pos unknown]
    · have onPort := onPort.resolve_left unknown
      cases allowed : kindOnPort c.kind p with
      | false => simp only [if_neg unknown, Bool.false_eq_true, if_false, if_pos (onPort.mp allowed)]
      | true =>
        have stays := mt onPort.mpr (by simp [allowed])
        simp only [if_neg unknown, if_true, if_neg stays, decide_eq_true_eq]

theorem rangeRefusal_eq (accepted : Bool) (p : Prop) [Decidable p] (h : accepted = true ↔ p) :
    rangeRefusal accepted = if p then none else some .valueRange := by
  simp only [rangeRefusal, h]

theorem Part.underCeiling_eq (u : Part) (x : TopUpSplit) :
    u.underCeiling x = true ↔ ¬ u.account.balance + 1000 * x.q2 > 1000 * u.bankValue bankCeiling 0 := by
  simp only [Part.underCeiling, decide_eq_true_eq]
  omega

theorem Codes.rollsTo_iff (c : Codes) (slots : Vector KeySlot 4) (value : Nat) :
    c.rollsTo slots value = true ↔
      value = c.generation + 1 ∧ ((slots[value]?).map KeySlot.loaded).getD false = true := by
  unfold Codes.rollsTo
  cases slots[value]? <;> simp

/-! ### The head code -/

section
variable {u : Part} {e : CodeEntry} {rest : List CodeEntry} {slots : Vector KeySlot 4} {mid : Nat}
  (powered : u.power = .running ∨ u.power = .failing) (queue : u.codes.queue = e :: rest)
  (head : u.codes.head = some (.screening slots mid))
include powered queue head

theorem Part.screeningDue_of_malformed (malformed : decodeDigits e.digits = none) :
    u.screeningDue = u.refuseCode .malformed none e.port := by
  rw [Part.screeningDue, if_pos ((Part.active_iff u).mpr powered), Part.screenHead]
  simp only [queue, head, malformed]

theorem Part.screeningDue_of_decoded {c : DecodedCode} (decoded : decodeDigits e.digits = some c) :
    u.screeningDue = u.judgeCode slots mid e.port c := by
  rw [Part.screeningDue, if_pos ((Part.active_iff u).mpr powered), Part.screenHead]
  simp only [queue, head, decoded]

end

theorem Part.judgeCode_eq (slots : Vector KeySlot 4) (mid : Nat) (p : Port) (c : DecodedCode) (u : Part) :
    u.judgeCode slots mid p c =
      match (u.screenRefusal slots mid p c).or (u.valueRefusal slots c) with
      | some r => u.refuseCode r (some c) p
      | none => u.acceptCode c p := by
  unfold Part.judgeCode
  cases u.screenRefusal slots mid p c with
  | some r => rfl
  | none => rfl

theorem Part.judgeCode_of_refused {slots : Vector KeySlot 4} {mid : Nat} {p : Port} {c : DecodedCode} {u : Part}
    {r : CodeResult} (refused : (u.screenRefusal slots mid p c).or (u.valueRefusal slots c) = some r) :
    u.judgeCode slots mid p c = u.refuseCode r (some c) p := by
  rw [Part.judgeCode_eq, refused]

/-- A result leaves the queue's rest, whose first entry begins its screening. -/
theorem Part.settleHead_of_queue {u : Part} {e : CodeEntry} {rest : List CodeEntry} (queue : u.codes.queue = e :: rest)
    (result : CodeResult) (code : Option DecodedCode) (credit : Option (TopUpSplit × Int)) :
    u.settleHead result code credit =
      { u.placeOn e.port (.codeResult result code credit) with
        codes := { u.codes with
          queue := rest, head := if rest = [] then none else some (.screening u.codes.slots u.config.live.mid) } } := by
  have placed : (u.placeOn e.port (.codeResult result code credit)).codes = u.codes := by simp
  have config : (u.placeOn e.port (.codeResult result code credit)).config = u.config := by simp
  have next : headOf rest u.codes.slots u.config.live.mid =
      if rest = [] then none else some (.screening u.codes.slots u.config.live.mid) := by
    cases rest with
    | nil => rfl
    | cons e rest => rfl
  rw [Part.settleHead, queue]
  simp only [Part.popHead, placed, config, queue, List.drop_succ_cons, List.drop_zero, next]

theorem Part.refuseCode_of_ne {r : CodeResult} (other : r ≠ .checkFailed) (c : Option DecodedCode) (p : Port) (u : Part) :
    u.refuseCode r c p = u.settleHead r c none := by
  rw [Part.refuseCode, if_neg other]

theorem ite_or_option {α : Type} (p : Prop) [Decidable p] (x y z : Option α) :
    (if p then x else y).or z = if p then x.or z else y.or z :=
  apply_ite (fun o : Option α => o.or z) p x y

/-- The value rules by kind; 1, 3 and the unknown kinds have none. -/
theorem Part.valueRefusal_cases (slots : Vector KeySlot 4) (c : DecodedCode) (u : Part) :
    (c.kind = 0 ∧ u.valueRefusal slots c =
      if c.value = 0 then some .valueRange
      else if u.account.balance + 1000 * (u.account.split c.value).q2 > 1000 * u.bankValue bankCeiling 0 then some .ceiling
      else none) ∨
    (c.kind = 2 ∧ u.valueRefusal slots c =
      if c.value = 0 ∨ (100 ≤ c.value ∧ c.value ≤ 150000) then none else some .valueRange) ∨
    (c.kind = 4 ∧ u.valueRefusal slots c = if c.value ≤ 50 then none else some .valueRange) ∨
    (c.kind = 5 ∧ u.valueRefusal slots c = if c.value < 2 ^ 13 then none else some .valueRange) ∨
    (c.kind = 6 ∧ u.valueRefusal slots c =
      if c.value = u.codes.generation + 1 ∧ ((slots[c.value]?).map KeySlot.loaded).getD false = true then none
      else some .valueRange) ∨
    (c.kind = 7 ∧ u.valueRefusal slots c = if c.value ≤ 1 then none else some .valueRange) ∨
    ((c.kind = 8 ∨ c.kind = 9) ∧ u.valueRefusal slots c = u.bankRefusal c.value) ∨
    ((c.kind = 1 ∨ c.kind = 3 ∨ ∃ n, c.kind = n + 10) ∧ u.valueRefusal slots c = none) := by
  obtain ⟨kind, serial, value, check⟩ := c
  match kind with
  | 0 =>
    refine .inl ⟨rfl, ?_⟩
    simp only [Part.valueRefusal]
    refine if_congr Iff.rfl rfl ?_
    by_cases under : u.underCeiling (u.account.split value) = true
    · rw [if_pos under, if_neg ((u.underCeiling_eq _).mp under)]
    · rw [if_neg under, if_pos (not_not.mp (mt (u.underCeiling_eq _).mpr under))]
  | 1 => exact .inr (.inr (.inr (.inr (.inr (.inr (.inr ⟨.inl rfl, rfl⟩))))))
  | 2 => exact .inr (.inl ⟨rfl, rangeRefusal_eq _ _ (by simp [within])⟩)
  | 3 => exact .inr (.inr (.inr (.inr (.inr (.inr (.inr ⟨.inr (.inl rfl), rfl⟩))))))
  | 4 => exact .inr (.inr (.inl ⟨rfl, rangeRefusal_eq _ _ decide_eq_true_iff⟩))
  | 5 => exact .inr (.inr (.inr (.inl ⟨rfl, rangeRefusal_eq _ _ decide_eq_true_iff⟩)))
  | 6 => exact .inr (.inr (.inr (.inr (.inl ⟨rfl, rangeRefusal_eq _ _ (u.codes.rollsTo_iff slots value)⟩))))
  | 7 => exact .inr (.inr (.inr (.inr (.inr (.inl ⟨rfl, rangeRefusal_eq _ _ decide_eq_true_iff⟩)))))
  | 8 => exact .inr (.inr (.inr (.inr (.inr (.inr (.inl ⟨.inl rfl, rfl⟩))))))
  | 9 => exact .inr (.inr (.inr (.inr (.inr (.inr (.inl ⟨.inr rfl, rfl⟩))))))
  | n + 10 => exact .inr (.inr (.inr (.inr (.inr (.inr (.inr ⟨.inr (.inr ⟨n, rfl⟩), rfl⟩))))))

/-- Settles O36: the stages refuse in their order, and what a refusal leaves is the settled head. -/
theorem refusedCode : Obligations.RefusedCode := by
  refine ⟨⟨rfl, decimalOf_append⟩, fun n h => bodyFields_bits h, fun slots mid g c => ?_, ?_⟩
  · rw [matchesUnder_iff]
    refine exists_congr fun k => ⟨fun ⟨slot, loaded, value⟩ => ?_, fun ⟨a, b, slot, loaded, a0, b0, rounds, value⟩ => ?_⟩
    · let rounds := checkRounds k (BitVec.ofNat 32 (c.kind * 2 ^ 20 + c.serial)) (BitVec.ofNat 32 (g * 2 ^ 24 + c.value))
        (BitVec.ofNat 32 mid ^^^ k.k0, BitVec.ofNat 32 (g * 2 ^ 24 + c.value) ^^^ k.k1)
      refine ⟨fun i => (rounds i).1, fun i => (rounds i).2, slot, loaded, rfl, rfl, fun i _ => ?_, value⟩
      simp only [rounds]
      rw [checkRounds_succ, checkRound, KeySlot.word_mod]
      exact ⟨rfl, rfl⟩
    · refine ⟨slot, loaded, ?_⟩
      rw [checkValue_eq, ← eq_checkRounds (ab := fun i => (a i, b i)) (Prod.ext a0 b0) fun i hi => ?_]
      · exact value
      · rw [checkRound, KeySlot.word_mod]
        exact Prod.ext (rounds i hi).1 (rounds i hi).2
  · intro s e rest slots mid powered queue head takes u leaves
    refine ⟨fun large => ?_, fun c small fields => ?_⟩
    · rw [exec_eq, effectOf, Part.screeningDue_of_malformed powered queue head (decodeDigits_of_ge large),
        Part.refuseCode_of_ne (by simp), Part.settleHead_of_queue queue]
    · intro g l valueRefusal refusal
      have value : valueRefusal = u.valueRefusal slots c := by
        rcases u.valueRefusal_cases slots c with ⟨kind, eq⟩ | ⟨kind, eq⟩ | ⟨kind, eq⟩ | ⟨kind, eq⟩ | ⟨kind, eq⟩ |
          ⟨kind, eq⟩ | ⟨kind | kind, eq⟩ | ⟨kind | kind | ⟨n, kind⟩, eq⟩
        all_goals rw [eq]; simp only [valueRefusal, kind]
        case inr.inr.inr.inr.inl => rfl
        case inr.inr.inr.inr.inr.inr.inl.inl => rw [Part.bankRefusal]; cases u.tariff.pending <;> rfl
        case inr.inr.inr.inr.inr.inr.inl.inr => rw [Part.bankRefusal]; cases u.tariff.pending <;> rfl
      have refused : refusal = (u.screenRefusal slots mid e.port c).or (u.valueRefusal slots c) := by
        rw [Part.screenRefusal_eq slots mid c u takes, ← value]
        simp only [ite_or_option, Option.some_or, Option.none_or]
        rfl
      rw [refused]
      refine ⟨fun r stage other => ?_, Option.or_eq_none_iff⟩
      have decoded : decodeDigits e.digits = some c := by rw [decodeDigits_of_lt small, ← fields]
      rw [exec_eq, effectOf, Part.screeningDue_of_decoded powered queue head decoded,
        Part.judgeCode_of_refused (u := s.part) stage, Part.refuseCode_of_ne other, Part.settleHead_of_queue queue]

end Sys2Proof.Machine
end

section
/-! CHECK_FAILED and code lockout (R93, R94). Settles O37. -/

namespace Sys2Proof.Machine

theorem failuresWith_of_le {failures : List Nat} (h : failures.length ≤ 5) (now : Nat) :
    failuresWith failures now = (if failures.length = 5 then failures.drop 1 else failures) ++ [now] := by
  unfold failuresWith
  by_cases full : failures.length = 5
  · simp only [full, if_true, Nat.le_refl]
  · have short : ¬ 5 ≤ failures.length := fun k => full (Nat.le_antisymm h k)
    rw [if_neg short, if_neg full]

theorem locksOut_iff (times : List Nat) :
    locksOut times = true ↔ times.length = 5 ∧ times.getLastD 0 - times.headD 0 ≤ 600 := by
  match times with
  | [] | [_] | [_, _] | [_, _, _] | [_, _, _, _] => simp [locksOut]
  | [a, b, c, d, e] => simp [locksOut]
  | _ :: _ :: _ :: _ :: _ :: _ :: _ => simp [locksOut]

theorem PortCodes.failed_eq (x : PortCodes) (deadline now : Nat) (h : x.failures.length ≤ 5) (times : List Nat)
    (entered : times = (if x.failures.length = 5 then x.failures.drop 1 else x.failures) ++ [now]) :
    x.failed now deadline =
      if times.length = 5 ∧ times.getLastD 0 - times.headD 0 ≤ 600 then { failures := [], lockedUntil := some deadline }
      else { x with failures := times } := by
  rw [PortCodes.failed, failuresWith_of_le h, ← entered]
  exact if_congr (locksOut_iff times) rfl rfl

theorem Codes.portCodes_of_takes (c : Codes) {p : Port} (takes : p = .k ∨ p = .s) :
    c.portCodes p = if p = .k then c.kPort else c.sPort := by
  rcases takes with rfl | rfl <;> rfl

theorem Codes.setPort_of_takes (c : Codes) {p : Port} (takes : p = .k ∨ p = .s) (x : PortCodes) :
    c.setPort p x = { c with kPort := if p = .k then x else c.kPort, sPort := if p = .s then x else c.sPort } := by
  rcases takes with rfl | rfl <;> rfl

theorem Part.handAttack_core (u : Part) : u.handAttack.core = u.core := by simp [Part.handAttack]

theorem Part.handAttack_condition (u : Part) : u.handAttack.condition .codeAttack = u.codes.attacked :=
  Part.setCondition_condition (by simp) _ _

/-- Codes of the caller's choice on a part that keeps the rest. -/
theorem Part.core_withCodes {u v : Part} (h : v.core = u.core) (x : Codes) :
    ({ v with codes := x } : Part).core = ({ u with codes := x } : Part).core :=
  congrArg (fun w : Part => { w with codes := x }) h

theorem screenRefusal_of_checkFailed {slots : Vector KeySlot 4} {mid : Nat} {p : Port} {c : DecodedCode} {u : Part}
    (unmatched : matchesUnder slots mid u.codes.generation c = false)
    (notOld : u.codes.generation = 0 ∨ matchesUnder slots mid (u.codes.generation - 1) c = false) :
    u.screenRefusal slots mid p c = some .checkFailed := by
  have old : (decide (0 < u.codes.generation) && matchesUnder slots mid (u.codes.generation - 1) c) = false := by
    rcases notOld with zero | unmatched
    · simp [zero]
    · simp [unmatched]
  rw [Part.screenRefusal, checkRefusal, unmatched, old]
  rfl

/-- Settles O37: a failure enters its port's history and CODE_ATTACK is set to what the lockouts then say. -/
theorem checkFailuresLockThePort : Obligations.CheckFailuresLockThePort := by
  refine ⟨?_, fun s => ⟨fun timely => ?_, fun timely => ?_⟩⟩
  · intro s e rest slots mid c powered queue head takes decoded unmatched notOld u before bounded times after kPort sPort
    have failed : (u.codes.portCodes e.port).failed u.seconds (u.timeBase + Config.seconds 1800) = after := by
      rw [Codes.portCodes_of_takes _ takes]
      exact PortCodes.failed_eq before _ _ bounded times rfl
    let w : Part := { u with codes := { u.codes with kPort := kPort, sPort := sPort } }
    have entered : u.enterFailure e.port = w.handAttack := by
      rw [Part.enterFailure, failed, Codes.setPort_of_takes _ takes]
    have codes : w.handAttack.codes = w.codes := Part.codes_of_core w.handAttack_core
    have config : w.handAttack.config = w.config := by simp [Part.handAttack]
    have refused : u.refuseCode .checkFailed (some c) e.port =
        { w.handAttack.placeOn e.port (.codeResult .checkFailed (some c) none) with
          codes := { w.codes with
            queue := rest, head := if rest = [] then none else some (.screening u.codes.slots u.config.live.mid) } } := by
      rw [Part.refuseCode, if_pos rfl, entered,
        Part.settleHead_of_queue ((congrArg Codes.queue codes).trans queue), codes, config]
    have effect : effectOf .codeScreening s.part = u.refuseCode .checkFailed (some c) e.port := by
      rw [effectOf, Part.screeningDue_of_decoded powered queue head decoded]
      exact Part.judgeCode_of_refused (by rw [screenRefusal_of_checkFailed unmatched notOld]; rfl)
    rw [exec_eq, effect, refused]
    refine ⟨_, rfl, ?_, ?_, Part.placeOn_holds e.port (.codeResult .checkFailed (some c) none) w.handAttack⟩
    · have kept := (Part.core_of_sansNotices (Part.placeOn_sansNotices e.port
        (.codeResult .checkFailed (some c) none) w.handAttack)).trans w.handAttack_core
      exact Part.core_withCodes kept _
    · exact w.handAttack_condition
  · exact ⟨_, expire_of_not_mem timely _, Part.handAttack_core _, Part.handAttack_condition _⟩
  · exact ⟨_, expire_of_not_mem timely _, Part.handAttack_core _,
      (Part.handAttack_condition _).trans (Bool.or_false _)⟩

end Sys2Proof.Machine
end

section
/-! The choice of the next attempt, case by case (R151), and what every accepted code leaves behind its effect: the head held
for its commit, the checkpoint that serves it and its journal entry (R90, R92). Settles O38. -/

namespace Sys2Proof.Machine

namespace Part

/-! ### The choice of the next attempt (R151, R161) -/

theorem startNext_of_inFlight {u : Part} {a : Attempt} (busy : u.store.inFlight = some a) : u.startNext = u := by
  rw [startNext, busy]

theorem startNext_of_off {u : Part} (off : u.mainOn = false) : u.startNext = u := by
  unfold startNext
  cases u.store.inFlight with
  | some a => rfl
  | none => simp [off]

theorem startNext_of_waiting {u : Part} {reasons : ReasonSet} (idle : u.store.inFlight = none) (on : u.mainOn = true)
    (waiting : u.store.waiting = some reasons) : u.startNext = u.startCheckpoint reasons := by
  simp only [startNext, idle, on, waiting, Bool.not_true, Bool.false_eq_true, if_false]

/-! ### A checkpoint request (R153, R154) -/

/-- A checkpoint request joins the waiting one, or starts at once when the store is free. -/
theorem requestCheckpoint_cases (r : CheckpointReason) (u : Part) :
    ((u.store.inFlight ≠ none ∨ u.mainOn = false) ∧
      u.requestCheckpoint r =
        { u with store := { u.store with waiting := some (addReason r (u.store.waiting.getD 0#16)) } }) ∨
    (u.store.inFlight = none ∧ u.mainOn = true ∧
      u.requestCheckpoint r =
        startCheckpoint { u with store := { u.store with waiting := some (addReason r (u.store.waiting.getD 0#16)) } }
          (addReason r (u.store.waiting.getD 0#16))) := by
  rw [requestCheckpoint]
  cases busy : u.store.inFlight with
  | some a => exact .inl ⟨.inl (by simp), startNext_of_inFlight busy⟩
  | none =>
    cases on : u.mainOn with
    | false => exact .inl ⟨.inr rfl, startNext_of_off on⟩
    | true => exact .inr ⟨rfl, rfl, startNext_of_waiting busy on rfl⟩

/-- No attempt can start: one is in flight, or the main domain has no supply. -/
def Still (u : Part) : Prop := u.store.inFlight ≠ none ∨ u.mainOn = false

theorem startNext_of_still {u : Part} (still : u.Still) : u.startNext = u := by
  rcases still with busy | off
  · obtain ⟨a, busy⟩ := Option.ne_none_iff_exists'.mp busy
    exact startNext_of_inFlight busy
  · exact startNext_of_off off

/-- While no attempt can start, a journal entry joins the queue. -/
theorem submitJournal_of_still {u : Part} (still : u.Still) (q : JournalRequest) :
    u.submitJournal q =
      if 8 ≤ u.store.journal.length then u else { u with store := { u.store with journal := u.store.journal ++ [q] } } :=
  if_congr Iff.rfl rfl (startNext_of_still still)

theorem submitJournal_keeps_attempt {u : Part} (still : u.Still) (q : JournalRequest) :
    (u.submitJournal q).store.waiting = u.store.waiting ∧ (u.submitJournal q).store.inFlight = u.store.inFlight := by
  rw [submitJournal_of_still still]
  split <;> exact ⟨rfl, rfl⟩

theorem requestCheckpoint_still (r : CheckpointReason) (u : Part) : (u.requestCheckpoint r).Still := by
  rcases u.requestCheckpoint_cases r with ⟨still, eq⟩ | ⟨-, -, eq⟩
  · rw [eq]
    exact still
  · rw [eq]
    exact .inl (by simp [startCheckpoint])

/-! ### An accepted code (R90, R92) -/

/-- What an accepted code leaves behind its effect: the head held for the commit, a CODE checkpoint and a journal entry. -/
def committed (c : DecodedCode) (split : Option TopUpSplit) (d : JournalDetail) (u : Part) : Part :=
  ((u.setHead (.commit c split)).requestCheckpoint .code).journal d

theorem acceptCode_eq {c : DecodedCode} (other : c.kind ≠ 8) (p : Port) (u : Part) :
    u.acceptCode c p = (u.applyCode c).committed c (u.reportedSplit c) (codeEntry c p u.codes.generation) := if_neg other

section
variable (c : DecodedCode) (split : Option TopUpSplit) (d : JournalDetail) (u : Part)

theorem committed_core :
    (u.committed c split d).core = ({ u with codes := { u.codes with head := some (.commit c split) } } : Part).core := by
  rw [committed, journal_core, requestCheckpoint_core]
  rfl

theorem committed_supply : (u.committed c split d).supply = u.supply := by
  simp [committed, setHead]

theorem committed_tamper : (u.committed c split d).tamper = u.tamper := by
  simp [committed, setHead]

theorem committed_balance : (u.committed c split d).account.balance = u.account.balance := by
  simp [committed, setHead]

theorem committed_requested : (u.committed c split d).Requested .code :=
  (journal_evidence _ _).requested .code (requestCheckpoint_requested .code _)

theorem committed_journaled (room : u.store.journal.length < 8) : (u.committed c split d).Journaled (u.entryNow d) := by
  have asked := (requestCheckpoint_evidence .code (u.setHead (.commit c split))).length
  have entry : ((u.setHead (.commit c split)).requestCheckpoint .code).entryNow d = u.entryNow d := by
    simp [entryNow, stamp, setHead]
  have written := journal_journaled (d := d) (u := (u.setHead (.commit c split)).requestCheckpoint .code)
    (lt_of_le_of_lt asked room)
  rw [entry] at written
  exact written

theorem committed_evidence : u.KeepsEvidence 1 (u.committed c split d) := by
  have held : u.KeepsEvidence 0 (u.setHead (.commit c split)) := .of_eq rfl rfl rfl
  exact (held.trans (requestCheckpoint_evidence .code _)).trans (journal_evidence d _)

end

theorem AccountDerived.committed {u : Part} (h : u.AccountDerived) (c : DecodedCode) (split : Option TopUpSplit)
    (d : JournalDetail) : (u.committed c split d).AccountDerived := by
  have held : (u.setHead (.commit c split)).AccountDerived := h
  exact (held.requestCheckpoint .code).of_core (v := u.committed c split d) (journal_core d _)
    (.of_eq (by simp [Part.committed]))

/-- While no activation is under way at the head, a snapshot carries the used-code list as it stands (R154). -/
theorem snapshotSerials_of_commit {u : Part} {c : DecodedCode} {split : Option TopUpSplit}
    (head : u.codes.head = some (.commit c split)) : u.snapshotSerials = u.codes.serials := by
  have none : u.codes.activatingSerial = Option.none := by rw [Codes.activatingSerial, head]
  unfold snapshotSerials
  rw [none]
  cases u.tariff.inCheckpointStep with
  | none => rfl
  | some a => exact ite_self _

/-- The checkpoint that serves a code waits, or it carries the code, its serials and the balance. -/
theorem committed_checkpoint (c : DecodedCode) (split : Option TopUpSplit) (d : JournalDetail) (u : Part) :
    (∃ reasons, (u.committed c split d).store.waiting = some reasons ∧ reasons.getLsbD 0 = true) ∨
      ∃ x, (u.committed c split d).store.inFlight = some (.checkpoint x) ∧ x.carriesCode = true ∧
        x.record.reasons.getLsbD 0 = true ∧ x.record.serials = u.codes.serials ∧
        x.record.account.balance = (u.committed c split d).account.balance := by
  have reason (set : ReasonSet) : (addReason .code set).getLsbD 0 = true :=
    (addReason_holds .code .code set).mpr (.inl rfl)
  obtain ⟨waits, flies⟩ := submitJournal_keeps_attempt ((u.setHead (.commit c split)).requestCheckpoint_still .code)
    (((u.setHead (.commit c split)).requestCheckpoint .code).entryNow d)
  rw [committed_balance]
  rcases (u.setHead (.commit c split)).requestCheckpoint_cases .code with ⟨-, eq⟩ | ⟨-, -, eq⟩
  · exact .inl ⟨_, waits.trans (congrArg (fun v : Part => v.store.waiting) eq), reason _⟩
  · exact .inr ⟨_, flies.trans (congrArg (fun v : Part => v.store.inFlight) eq), rfl, reason _,
      snapshotSerials_of_commit (c := c) (split := split) rfl, rfl⟩

end Part

/-! ### The money codes (R10, R16 to R18) -/

/-- A code that the stages and the value rules let pass. -/
theorem Part.judgeCode_of_accepted {slots : Vector KeySlot 4} {mid : Nat} {p : Port} {c : DecodedCode} {u : Part}
    (screened : u.screenRefusal slots mid p c = none) (valued : u.valueRefusal slots c = none) :
    u.judgeCode slots mid p c = u.acceptCode c p := by
  rw [Part.judgeCode_eq, screened, valued]
  rfl

theorem Part.putAccount_core_eq (a : Account) (u : Part) :
    (u.putAccount a).core = ({ u with account := a } : Part).core := by
  unfold Part.putAccount
  split
  · next same => rw [← same]
  · rfl

/-- Codes of the caller's choice on a part that keeps the rest up to its derivation. -/
theorem Part.derived_withCodes {u v : Part} (h : v.derived = u.derived) (x : Codes) :
    ({ v with codes := x } : Part).derived = ({ u with codes := x } : Part).derived :=
  congrArg (fun w : Part => { w with codes := x }) h

theorem Part.markSerial_evidence (n x : Nat) (u : Part) : u.KeepsEvidence n (u.markSerial x) := by
  have marked : u.KeepsEvidence 0 { u with codes := { u.codes with serials := u.codes.serials.mark x } } :=
    .of_eq rfl rfl rfl
  exact (marked.trans (Part.markDue_evidence n _)).mono (by omega)

/-- An account derivation behind a marked serial and a put account. -/
theorem Part.derive_marked_derived (x : Nat) (a : Account) (u : Part) :
    (((u.markSerial x).putAccount a).derive).derived =
      ({ u with account := a, codes := { u.codes with serials := u.codes.serials.mark x } } : Part).derived := by
  rw [Part.derive_derived, Part.putAccount_derived_eq]
  rfl

theorem Part.putAccount_marked_core (x : Nat) (a : Account) (u : Part) :
    ((u.markSerial x).putAccount a).core =
      ({ u with account := a, codes := { u.codes with serials := u.codes.serials.mark x } } : Part).core := by
  rw [Part.putAccount_core_eq]
  rfl

theorem Part.codes_of_derivedWith {u w : Part} {x : Account} {k : Codes}
    (h : w.derived = ({ u with account := x, codes := k } : Part).derived) : w.codes = k := by
  have codes := Part.codes_of_derived h
  exact codes

theorem Part.clock_of_derivedWith {u w : Part} {x : Account} {k : Codes}
    (h : w.derived = ({ u with account := x, codes := k } : Part).derived) : w.clock = u.clock := by
  have clock := Part.clock_of_derived h
  exact clock

section
variable {u w : Part} {x : Account} {k : Codes} (c : DecodedCode) (split : Option TopUpSplit) (d : JournalDetail)

theorem Part.committed_derivedWith (h : w.derived = ({ u with account := x, codes := k } : Part).derived) :
    (w.committed c split d).derived =
      ({ u with account := x, codes := { k with head := some (.commit c split) } } : Part).derived := by
  have held := Part.derived_of_core (w.committed_core c split d)
  rw [Part.codes_of_derivedWith h] at held
  exact held.trans (Part.derived_withCodes h _)

theorem Part.committed_coreWith (h : w.core = ({ u with account := x, codes := k } : Part).core) :
    (w.committed c split d).core =
      ({ u with account := x, codes := { k with head := some (.commit c split) } } : Part).core := by
  have held := w.committed_core c split d
  rw [Part.codes_of_derivedWith (Part.derived_of_core h)] at held
  exact held.trans (Part.core_withCodes h _)

end

section
variable {c : DecodedCode} (u : Part)

theorem Part.applyCode_credit (kind : c.kind = 0) :
    u.applyCode c = ((u.markSerial c.serial).putAccount (u.account.toppedUp (u.account.split c.value))).derive := by
  simp only [Part.applyCode, kind]

theorem Part.applyCode_clear (kind : c.kind = 1) :
    u.applyCode c = ((u.markSerial c.serial).putAccount u.account.cleared).derive := by
  simp only [Part.applyCode, kind]

theorem Part.applyCode_debtSet (kind : c.kind = 3) :
    u.applyCode c = (u.markSerial c.serial).putAccount { u.account with debt := c.value } := by
  simp only [Part.applyCode, kind]

theorem Part.applyCode_debtRate (kind : c.kind = 4) :
    u.applyCode c = (u.markSerial c.serial).putAccount { u.account with debtRate := c.value } := by
  simp only [Part.applyCode, kind]

/-- A money code marks its serial, puts an account up to its derivation, and submits at most one journal entry. -/
theorem Part.applyCode_money (money : c.kind = 0 ∨ c.kind = 1 ∨ c.kind = 3 ∨ c.kind = 4) :
    (∃ a : Account, (u.applyCode c).derived =
      ({ u with account := a, codes := { u.codes with serials := u.codes.serials.mark c.serial } } : Part).derived) ∧
      u.KeepsEvidence 1 (u.applyCode c) := by
  have marked (a : Account) : u.KeepsEvidence 0 ((u.markSerial c.serial).putAccount a) :=
    (u.markSerial_evidence 0 c.serial).trans (Part.putAccount_evidence 0 a _)
  rcases money with kind | kind | kind | kind
  · rw [u.applyCode_credit kind]
    exact ⟨⟨_, Part.derive_marked_derived _ _ u⟩, (marked _).trans (Part.derive_evidence _)⟩
  · rw [u.applyCode_clear kind]
    exact ⟨⟨_, Part.derive_marked_derived _ _ u⟩, (marked _).trans (Part.derive_evidence _)⟩
  · rw [u.applyCode_debtSet kind]
    exact ⟨⟨_, Part.derived_of_core (Part.putAccount_marked_core _ _ u)⟩, (marked _).mono (by omega)⟩
  · rw [u.applyCode_debtRate kind]
    exact ⟨⟨_, Part.derived_of_core (Part.putAccount_marked_core _ _ u)⟩, (marked _).mono (by omega)⟩

end

/-- Settles O38: the effect on the account, and the commit that every accepted code leaves. -/
theorem acceptedMoneyCode : Obligations.AcceptedMoneyCode := by
  intro s e rest slots mid c powered queue head decoded screened valued u a repaid recovered credited split after
  have effect : effectOf .codeScreening s.part = u.acceptCode c e.port := by
    rw [effectOf, Part.screeningDue_of_decoded powered queue head decoded]
    exact Part.judgeCode_of_accepted screened valued
  rw [exec_eq, effect]
  by_cases activates : c.kind = 8
  · refine ⟨_, rfl, ?_⟩
    simp [activates]
  have reported : u.reportedSplit c = split := rfl
  rw [Part.acceptCode_eq activates, reported]
  refine ⟨_, rfl, fun kind => ?credit, fun kind => ?clear, fun kind => ?debtSet, fun kind => ?debtRate, fun money => ?serves,
    fun money room => ?entry⟩
  case credit =>
    rw [u.applyCode_credit kind]
    exact ⟨Part.committed_derivedWith c split _ (Part.derive_marked_derived c.serial _ u),
      (Part.derive_ok _).committed c split _⟩
  case clear =>
    rw [u.applyCode_clear kind]
    exact ⟨Part.committed_derivedWith c split _ (Part.derive_marked_derived c.serial _ u),
      (Part.derive_ok _).committed c split _⟩
  case debtSet =>
    rw [u.applyCode_debtSet kind]
    exact Part.committed_coreWith c split _ (Part.putAccount_marked_core c.serial _ u)
  case debtRate =>
    rw [u.applyCode_debtRate kind]
    exact Part.committed_coreWith c split _ (Part.putAccount_marked_core c.serial _ u)
  case serves =>
    obtain ⟨⟨b, derived⟩, -⟩ := u.applyCode_money money
    have served := (u.applyCode c).committed_checkpoint c split (codeEntry c e.port u.codes.generation)
    rw [Part.codes_of_derivedWith derived] at served
    exact served
  case entry =>
    obtain ⟨⟨b, derived⟩, kept⟩ := u.applyCode_money money
    have written := (u.applyCode c).committed_journaled c split (codeEntry c e.port u.codes.generation)
      (lt_of_le_of_lt kept.length (by omega))
    have entry : codeEntry c e.port u.codes.generation = .codeAccepted c.kind c.serial c.value e.port :=
      if_neg (by omega)
    have stamp : (u.applyCode c).stamp = u.stamp := by
      rw [Part.stamp, Part.clock_of_derivedWith derived]
      rfl
    rw [Part.entryNow, stamp, entry] at written
    rw [entry, Part.committed_balance]
    exact written

end Sys2Proof.Machine
end

section
/-! What a decision can do to the record of BYPASS: a closing from OPEN ends it, with one TAMPER_ABSENT entry (R116, R137), and
where no closing can start from OPEN it stands. -/

namespace Sys2Proof.Machine

/-- A record stays, or its condition ends. -/
def TamperRecord.MayEnd (r r' : TamperRecord) : Prop := r' = r ∨ (r.condition = true ∧ ∃ release, r' = r.ended release)

theorem TamperRecord.ended_condition (r : TamperRecord) (release : Option Nat) : (r.ended release).condition = false := by
  unfold TamperRecord.ended
  cases r.state <;> cases release <;> rfl

theorem TamperRecord.MayEnd.trans {a b c : TamperRecord} (h : a.MayEnd b) (k : b.MayEnd c) : a.MayEnd c := by
  rcases k with rfl | ⟨holds, release, rfl⟩
  · exact h
  · rcases h with rfl | ⟨-, first, rfl⟩
    · exact .inr ⟨holds, release, rfl⟩
    · rw [a.ended_condition] at holds
      cases holds

/-- What the store controller notes of the writes it has done, is doing and has to do. -/
def Store.writing (t : Store) : Nat × Nat × Nat × Option Attempt × Option ReasonSet × List JournalRequest :=
  (t.failureRun, t.nextSlot, t.nextSequence, t.inFlight, t.waiting, t.journal)

/-- A checkpoint waits that has this reason (R154). -/
def Part.Waits (r : CheckpointReason) (u : Part) : Prop :=
  ∃ reasons, u.store.waiting = some reasons ∧ reasons.getLsbD (checkpointReasonNumber r) = true

/-- `v` follows from `u` by operations that leave the failure run, do not clear the checkpoint-due flag, and while an attempt
is in flight leave it, the array and the log position, apart from its note of a change since the snapshot, and drop nothing
that waits. -/
structure Part.KeepsRun (u v : Part) : Prop where
  run : v.store.failureRun = u.store.failureRun
  due : u.checkpointDue = true → v.checkpointDue = true
  queue : u.store.inFlight ≠ none → ∀ q ∈ u.store.journal, q ∈ v.store.journal
  waits : u.store.inFlight ≠ none → ∀ r, u.Waits r → v.Waits r
  attempt : u.store.inFlight ≠ none →
    v.array = u.array ∧ v.store.nextSlot = u.store.nextSlot ∧ v.store.nextSequence = u.store.nextSequence ∧
      (v.store.inFlight = u.store.inFlight ∨ v.store.inFlight = u.store.inFlight.map Attempt.noteChange)

theorem Attempt.noteChange_noteChange (a : Attempt) : a.noteChange.noteChange = a.noteChange := by cases a <;> rfl

theorem Attempt.map_noteChange_twice (a : Option Attempt) :
    (a.map Attempt.noteChange).map Attempt.noteChange = a.map Attempt.noteChange := by
  cases a with
  | none => rfl
  | some a => exact congrArg some a.noteChange_noteChange

namespace Part

theorem KeepsRun.refl (u : Part) : u.KeepsRun u :=
  ⟨rfl, id, fun _ _ h => h, fun _ _ h => h, fun _ => ⟨rfl, rfl, rfl, .inl rfl⟩⟩

/-- The attempt in flight stays in flight. -/
theorem KeepsRun.busy {u v : Part} (h : u.KeepsRun v) (busy : u.store.inFlight ≠ none) : v.store.inFlight ≠ none := by
  obtain ⟨-, -, -, same | noted⟩ := h.attempt busy
  · rw [same]; exact busy
  · rw [noted]; simpa using busy

theorem KeepsRun.trans {u v w : Part} (a : u.KeepsRun v) (b : v.KeepsRun w) : u.KeepsRun w := by
  refine ⟨b.run.trans a.run, fun h => b.due (a.due h), fun busy q h => b.queue (a.busy busy) q (a.queue busy q h),
    fun busy r h => b.waits (a.busy busy) r (a.waits busy r h), fun busy => ?_⟩
  have stillBusy := a.busy busy
  obtain ⟨array, slot, sequence, attempt⟩ := a.attempt busy
  obtain ⟨array', slot', sequence', attempt'⟩ := b.attempt stillBusy
  refine ⟨array'.trans array, slot'.trans slot, sequence'.trans sequence, ?_⟩
  rcases attempt' with same' | noted'
  · rw [same']; exact attempt
  · rw [noted']
    rcases attempt with same | noted
    · exact .inr (by rw [same])
    · exact .inr (by rw [noted, Attempt.map_noteChange_twice])

theorem KeepsRun.of_eq {u v : Part} (writing : v.store.writing = u.store.writing) (array : v.array = u.array)
    (due : v.checkpointDue = u.checkpointDue) : u.KeepsRun v := by
  simp only [Store.writing, Prod.mk.injEq] at writing
  obtain ⟨run, slot, sequence, attempt, waiting, journal⟩ := writing
  exact ⟨run, fun h => due.trans h, fun _ q h => by rw [journal]; exact h,
    fun _ r h => by rw [Waits, waiting]; exact h, fun _ => ⟨array, slot, sequence, .inl attempt⟩⟩

theorem KeepsRun.after {u v w : Part} (h : v.KeepsRun w) (writing : v.store.writing = u.store.writing)
    (array : v.array = u.array) (due : v.checkpointDue = u.checkpointDue) : u.KeepsRun w :=
  (KeepsRun.of_eq writing array due).trans h

theorem KeepsRun.ite {u v w : Part} {p : Prop} [Decidable p] (a : u.KeepsRun v) (b : u.KeepsRun w) :
    u.KeepsRun (if p then v else w) := by
  split
  · exact a
  · exact b

theorem markDue_run (u : Part) : u.KeepsRun u.markDue :=
  ⟨rfl, fun _ => rfl, fun _ _ h => h, fun _ _ h => h, fun _ => ⟨rfl, rfl, rfl, .inr rfl⟩⟩

theorem markDueIf_run (b : Bool) (u : Part) : u.KeepsRun (Part.markDueIf b u) := by
  cases b
  · exact .refl u
  · exact markDue_run u

theorem startJournal_due (r : JournalRequest) (rest : List JournalRequest) (u : Part) :
    (u.startJournal r rest).store.failureRun = u.store.failureRun ∧
      (u.checkpointDue = true → (u.startJournal r rest).checkpointDue = true) := by
  unfold startJournal
  dsimp only
  split
  · exact ⟨rfl, id⟩
  · exact ⟨rfl, fun _ => rfl⟩

theorem startNext_run (u : Part) : u.KeepsRun u.startNext := by
  cases flies : u.store.inFlight with
  | some a => rw [startNext_of_inFlight flies]; exact .refl u
  | none =>
    suffices kept : u.startNext.store.failureRun = u.store.failureRun ∧
        (u.checkpointDue = true → u.startNext.checkpointDue = true) from
      ⟨kept.1, kept.2, fun busy => absurd flies busy, fun busy => absurd flies busy, fun busy => absurd flies busy⟩
    unfold startNext
    rw [flies]
    dsimp only
    split
    · exact ⟨rfl, id⟩
    · cases u.store.waiting with
      | some reasons => exact ⟨rfl, id⟩
      | none =>
        dsimp only
        split
        · exact ⟨rfl, id⟩
        · exact ⟨rfl, id⟩
        · cases u.store.journal with
          | nil => exact ⟨rfl, id⟩
          | cons r rest => exact startJournal_due r rest u

theorem requestCheckpoint_run (r : CheckpointReason) (u : Part) : u.KeepsRun (u.requestCheckpoint r) := by
  have joins : u.KeepsRun { u with store := { u.store with waiting := some (addReason r (u.store.waiting.getD 0#16)) } } := by
    refine ⟨rfl, id, fun _ _ h => h, fun _ s ⟨reasons, waiting, holds⟩ => ⟨_, rfl, (addReason_holds r s _).mpr (.inr ?_)⟩,
      fun _ => ⟨rfl, rfl, rfl, .inl rfl⟩⟩
    rw [waiting]
    exact holds
  exact joins.trans (startNext_run _)

theorem submitClass2_run (w : Class2Write) (u : Part) : u.KeepsRun (u.submitClass2 w) :=
  (startNext_run _).after (by rfl) (by rfl) (by rfl)

theorem submitJournal_run (q : JournalRequest) (u : Part) : u.KeepsRun (u.submitJournal q) := by
  have joins : u.KeepsRun { u with store := { u.store with journal := u.store.journal ++ [q] } } :=
    ⟨rfl, id, fun _ _ h => List.mem_append_left _ h, fun _ _ h => h, fun _ => ⟨rfl, rfl, rfl, .inl rfl⟩⟩
  exact .ite (.refl u) (joins.trans (startNext_run _))

theorem journal_run (d : JournalDetail) (u : Part) : u.KeepsRun (u.journal d) := submitJournal_run _ u

theorem placeIf_run (b : Bool) (p : Port) (x : Notice) (u : Part) : u.KeepsRun (u.placeIf b p x) :=
  .ite (.of_eq rfl rfl rfl) (.refl u)

theorem place_run (x : Notice) (u : Part) : u.KeepsRun (u.place x) := .of_eq (by simp) (by simp) (by simp)

theorem putRecord_run (c : TamperCause) (r : TamperRecord) (u : Part) : u.KeepsRun (u.putRecord c r) :=
  (markDueIf_run _ _).after (by rfl) (by rfl) (by rfl)

theorem putLogical_run (l : Logical) (u : Part) : u.KeepsRun (u.putLogical l) :=
  (markDueIf_run _ _).after (by rfl) (by rfl) (by rfl)

theorem putOpeningRecord_run (r : OpeningRecord) (u : Part) : u.KeepsRun (u.putOpeningRecord r) :=
  (markDueIf_run _ _).after (by rfl) (by rfl) (by rfl)

theorem settleRelay_run (st : Settled) (u : Part) : u.KeepsRun (u.settleRelay st) :=
  (putLogical_run (.settled st) _).after (by rfl) (by rfl) (by rfl)

theorem bufferEvent_run (k : Cover) (b : Bool) (u : Part) : u.KeepsRun (u.bufferEvent k b) := by
  unfold bufferEvent
  split <;> exact .of_eq rfl rfl rfl

theorem absentEvidence_run (c : TamperCause) (u : Part) : u.KeepsRun (u.absentEvidence c) := by
  unfold absentEvidence
  dsimp only
  cases causeCover c with
  | some cover => exact .ite ((bufferEvent_run cover false u).trans (markDue_run _)) (journal_run _ u)
  | none => exact .ite (journal_run _ u) (markDue_run u)

theorem conditionEnds_run (c : TamperCause) (u : Part) : u.KeepsRun (u.conditionEnds c) := by
  have absent (r : TamperRecord) : u.KeepsRun (Part.becomeAbsent c (u.putRecord c r)) :=
    ((putRecord_run c r u).trans (putRecord_run c _ _)).trans (absentEvidence_run c _)
  unfold conditionEnds
  dsimp only
  split
  · exact putRecord_run c _ u
  · exact putRecord_run c _ u
  · exact putRecord_run c _ u
  · exact .ite (putRecord_run c _ u) (absent _)

end Part

/-- `v` follows from `u` by operations that may end BYPASS and submit at most `n` journal entries besides the one of its
ending. -/
structure Part.EndsBypass (n : Nat) (u v : Part) : Prop where
  record : (u.tamperRecord .bypass).MayEnd (v.tamperRecord .bypass)
  entries : v.store.journal.length + (v.condition .bypass).toNat ≤
    u.store.journal.length + (u.condition .bypass).toNat + n
  keeps : u.KeepsRun v
  buffer : v.tamper.buffer = u.tamper.buffer

namespace Part.EndsBypass

theorem of_record {n : Nat} {u v : Part} (record : v.tamperRecord .bypass = u.tamperRecord .bypass)
    (entries : v.store.journal.length ≤ u.store.journal.length + n) (keeps : u.KeepsRun v)
    (buffer : v.tamper.buffer = u.tamper.buffer) : u.EndsBypass n v := by
  refine ⟨.inl record, ?_, keeps, buffer⟩
  rw [Part.condition_of_record record]
  omega

theorem refl (n : Nat) (u : Part) : u.EndsBypass n u := of_record rfl (Nat.le_add_right _ _) (.refl u) rfl

theorem trans {m n : Nat} {u v w : Part} (a : u.EndsBypass m v) (b : v.EndsBypass n w) : u.EndsBypass (m + n) w :=
  ⟨a.record.trans b.record, by
    have first := a.entries
    have second := b.entries
    omega, a.keeps.trans b.keeps, b.buffer.trans a.buffer⟩

/-- A further operation that submits no entry of its own. -/
theorem andThen {n : Nat} {u v w : Part} (a : u.EndsBypass n v) (b : v.EndsBypass 0 w) : u.EndsBypass n w := a.trans b

theorem after {n : Nat} {u v w : Part} (h : v.EndsBypass n w) (tamper : v.tamper = u.tamper)
    (journal : v.store.journal = u.store.journal) (keeps : u.KeepsRun v) : u.EndsBypass n w := by
  have same : u.EndsBypass 0 v :=
    of_record (Part.tamperRecord_congr tamper.symm .bypass).symm (by rw [journal]; omega) keeps
      (by rw [tamper])
  have both := same.trans h
  rwa [Nat.zero_add] at both

theorem ite {n : Nat} {u v w : Part} {p : Prop} [Decidable p] (a : u.EndsBypass n v) (b : u.EndsBypass n w) :
    u.EndsBypass n (if p then v else w) := by
  split
  · exact a
  · exact b

end Part.EndsBypass

namespace Part

open Part.EndsBypass (of_record refl)

/-- The end of a condition that is no cover's enters no battery event. -/
theorem conditionEnds_buffer {c : TamperCause} (plain : causeCover c = none) (u : Part) :
    (u.conditionEnds c).tamper.buffer = u.tamper.buffer := by
  have absent (v : Part) : (v.absentEvidence c).tamper.buffer = v.tamper.buffer := by
    unfold absentEvidence
    rw [plain]
    dsimp only
    split
    · rw [journal_tamper]
    · rfl
  unfold conditionEnds becomeAbsent
  dsimp only
  repeat' split
  all_goals simp only [absent, putRecord_buffer]

theorem conditionEnds_bypass {u : Part} (holds : u.condition .bypass = true) :
    u.EndsBypass 0 (u.conditionEnds .bypass) := by
  refine ⟨.inr ⟨holds, _, u.conditionEnds_self .bypass⟩, ?_, conditionEnds_run _ u, conditionEnds_buffer rfl u⟩
  have entry := (u.conditionEnds_evidence .bypass).length
  rw [conditionEnds_condition, holds]
  exact entry

theorem leaveBypassWatch_bypass (dir : Direction) (u : Part) : u.EndsBypass 0 (u.leaveBypassWatch dir) := by
  unfold leaveBypassWatch
  have ends : u.EndsBypass 0 (if u.condition .bypass then u.conditionEnds .bypass else u) := by
    split
    next holds => exact conditionEnds_bypass holds
    next => exact refl 0 u
  split
  · exact ends
  · exact ends
  · exact refl 0 u

theorem putOpeningRecord_bypass (r : OpeningRecord) (u : Part) : u.EndsBypass 0 (u.putOpeningRecord r) :=
  of_record (by simp) (u.putOpeningRecord_evidence 0 r).length (putOpeningRecord_run r u)
    (by unfold putOpeningRecord; simp)

theorem putLogical_bypass (l : Logical) (u : Part) : u.EndsBypass 0 (u.putLogical l) :=
  of_record (by simp) (u.putLogical_evidence 0 l).length (putLogical_run l u)
    (by unfold putLogical; simp)

theorem settleRelay_bypass (st : Settled) (u : Part) : u.EndsBypass 0 (u.settleRelay st) :=
  of_record (by simp) (u.settleRelay_evidence 0 st).length (settleRelay_run st u)
    (by unfold settleRelay putLogical; simp)

theorem enterRecord_bypass (c : CauseSet) (u : Part) : u.EndsBypass 0 (u.enterRecord c) := putOpeningRecord_bypass _ u

theorem placeIf_bypass (b : Bool) (p : Port) (x : Notice) (u : Part) : u.EndsBypass 0 (u.placeIf b p x) :=
  of_record (by simp) (u.placeIf_evidence 0 b p x).length (placeIf_run b p x u) (by simp)

theorem place_bypass (x : Notice) (u : Part) : u.EndsBypass 0 (u.place x) :=
  of_record (Part.tamperRecord_congr (by simp) _) (u.place_evidence 0 x).length (place_run x u) (by simp)

theorem startOperation_bypass (dir : Direction) (r : Reason) (u : Part) : u.EndsBypass 0 (u.startOperation dir r) := by
  refine EndsBypass.ite ?_ (refl 0 u)
  have unplaced := ((u.leaveBypassWatch_bypass dir).andThen (putOpeningRecord_bypass (u.recordAtStart dir r) _)).andThen
    (putLogical_bypass .inProgress _)
  have placed (a b : Bool) (v : Part) :
      v.EndsBypass 0 ((v.placeIf a .m (.supplyPending dir r)).placeIf b .k (.supplyPending dir r)) :=
    (placeIf_bypass a .m _ v).andThen (placeIf_bypass b .k _ _)
  exact unplaced.andThen ((placed _ _ _).after (by rfl) (by rfl) (.of_eq (by rfl) (by rfl) (by rfl)))

theorem leaveOpen_bypass (u : Part) : u.EndsBypass 0 u.leaveOpen :=
  .ite ((u.settleRelay_bypass .awaitingConfirm).andThen (place_bypass _ _)) (startOperation_bypass _ _ u)

theorem actOn_bypass (st : Settled) (c : CauseSet) (u : Part) : u.EndsBypass 0 (u.actOn st c) := by
  cases st with
  | closed => exact .ite (startOperation_bypass _ _ u) (refl 0 u)
  | opened => exact .ite (enterRecord_bypass c u) ((enterRecord_bypass c u).andThen (leaveOpen_bypass _))
  | awaitingConfirm => exact .ite ((enterRecord_bypass c u).andThen (settleRelay_bypass _ _)) (refl 0 u)
  | stuckClosed => exact enterRecord_bypass c u
  | stuckOpen => exact refl 0 u

theorem recompute_bypass (u : Part) : u.EndsBypass 0 u.recompute := by
  cases active : u.active with
  | false => rw [recompute_inactive active]; exact refl 0 u
  | true =>
    cases relay : u.supply.relay with
    | operating op => rw [recompute_operating relay]; exact refl 0 u
    | settled st =>
      rw [recompute_settled active relay]
      exact (actOn_bypass st u.counting u.decided).after rfl rfl (.of_eq rfl rfl rfl)

theorem handCauses_bypass (c : CauseSet) (u : Part) : u.EndsBypass 0 (u.handCauses c) :=
  .ite (refl 0 u) ((recompute_bypass _).after rfl rfl (.of_eq rfl rfl rfl))

theorem tamperRecord_member (b : Bool) (u : Part) (d : TamperCause) :
    ({ u with tamper := { u.tamper with member := b } } : Part).tamperRecord d = u.tamperRecord d := rfl

theorem evaluateTamper_bypass (u : Part) : u.EndsBypass 0 u.evaluateTamper := by
  have member : u.EndsBypass 0 { u with tamper := { u.tamper with member := u.tamperMember } } :=
    of_record rfl (Nat.le_add_right _ _) (.of_eq rfl rfl rfl) rfl
  exact member.andThen (handCauses_bypass _ _)

theorem setCondition_false_bypass {c : TamperCause} (other : c ≠ .bypass) (plain : causeCover c = none) (u : Part) :
    u.EndsBypass 1 (u.setCondition c false) := by
  have ended : u.EndsBypass 1 (u.conditionEnds c) :=
    of_record (u.conditionEnds_other other.symm) (u.conditionEnds_evidence c).length (conditionEnds_run c u)
      (conditionEnds_buffer plain u)
  rw [setCondition]
  simp only [Bool.false_eq_true, if_false]
  exact .ite (refl 1 u) (.ite (ended.andThen (evaluateTamper_bypass _)) ended)

/-! ### Where no closing can start from OPEN -/

/-- The causes that count besides TAMPER. -/
def countingElse (u : Part) : CauseSet := { u.counting with tamper := false }

/-- A relay in OPEN is held by a cause besides TAMPER, or its record asks for the customer's confirmation of TAMPER. -/
def OpenHeld (u : Part) : Prop :=
  u.supply.relay = .settled .opened → u.supply.record.causes.tamper = true ∨ u.countingElse.any = true

/-- `v` follows from `u` by operations that leave the record of BYPASS where OPEN is held. -/
def HoldsBypass (u v : Part) : Prop :=
  u.OpenHeld → v.OpenHeld ∧ v.tamperRecord .bypass = u.tamperRecord .bypass

theorem HoldsBypass.trans {u v w : Part} (a : u.HoldsBypass v) (b : v.HoldsBypass w) : u.HoldsBypass w := by
  intro held
  obtain ⟨held, first⟩ := a held
  obtain ⟨held, second⟩ := b held
  exact ⟨held, second.trans first⟩

theorem HoldsBypass.ite {u v w : Part} {p : Prop} [Decidable p] (a : u.HoldsBypass v) (b : u.HoldsBypass w) :
    u.HoldsBypass (if p then v else w) := by
  split
  · exact a
  · exact b

theorem countingElse_congr {u v : Part} (derived : v.derived = u.derived)
    (causes : { v.supply.causes with tamper := false } = { u.supply.causes with tamper := false }) :
    v.countingElse = u.countingElse := by
  have disconnect : v.disconnectSet = u.disconnectSet := by
    simp only [disconnectSet, bankValue_of_derived derived]
  have friendly : v.friendlySet = u.friendlySet := by
    simp only [friendlySet, bankValue_of_derived derived]
  simp only [CauseSet.mk.injEq] at causes
  simp only [countingElse, counting, disconnect, friendly, tariff_of_derived derived, causes]

/-- Operations that move neither the relay, the record, nor a cause besides TAMPER. -/
theorem HoldsBypass.of_supply {u v : Part} (derived : v.derived = u.derived) (relay : v.supply.relay = u.supply.relay)
    (record : v.supply.record = u.supply.record)
    (causes : { v.supply.causes with tamper := false } = { u.supply.causes with tamper := false })
    (bypass : v.tamperRecord .bypass = u.tamperRecord .bypass) : u.HoldsBypass v := by
  refine fun held => ⟨?_, bypass⟩
  rw [OpenHeld, relay, record, countingElse_congr derived causes]
  exact held

/-- Operations behind which the relay is not in OPEN. -/
theorem HoldsBypass.of_leaves {u v : Part} (relay : v.supply.relay ≠ .settled .opened)
    (bypass : v.tamperRecord .bypass = u.tamperRecord .bypass) : u.HoldsBypass v :=
  fun _ => ⟨fun opened => absurd opened relay, bypass⟩

/-- Causes that count enter the record, so that OPEN is held. -/
theorem HoldsBypass.of_entered {u v : Part} (derived : v.derived = u.derived) (causes : v.supply.causes = u.supply.causes)
    (record : v.supply.record = { u.supply.record with causes := u.supply.record.causes.union u.counting })
    (required : u.counting.any = true) (bypass : v.tamperRecord .bypass = u.tamperRecord .bypass) : u.HoldsBypass v := by
  refine fun _ => ⟨fun _ => ?_, bypass⟩
  rw [countingElse_congr derived (by rw [causes]), record]
  simp only [CauseSet.union, countingElse, CauseSet.any, Bool.or_eq_true] at required ⊢
  rcases required with ((other | other) | tamper) | other
  · simp [other]
  · simp [other]
  · simp [tamper]
  · simp [other]

theorem startOperation_opening_record (r : Reason) (u : Part) :
    (u.startOperation .opening r).tamperRecord .bypass = u.tamperRecord .bypass := by
  have watch : u.leaveBypassWatch .opening = u := by
    unfold leaveBypassWatch
    split <;> first | contradiction | rfl
  unfold startOperation
  split
  · simp only [placeIf_record]
    exact (putLogical_record .inProgress _ .bypass).trans ((putOpeningRecord_record _ _ .bypass).trans
      (congrArg (fun v : Part => v.tamperRecord .bypass) watch))
  · rfl

theorem startOperation_relay_ne {u : Part} (st : Settled) (relay : u.supply.relay ≠ .settled st) (dir : Direction)
    (r : Reason) : (u.startOperation dir r).supply.relay ≠ .settled st := by
  unfold startOperation
  split
  · simp
  · exact relay

theorem recompute_holdsBypass (u : Part) : u.HoldsBypass u.recompute := by
  have same : u.HoldsBypass u := fun held => ⟨held, rfl⟩
  have decided : u.HoldsBypass u.decided := .of_supply rfl rfl rfl rfl rfl
  have derived := u.recompute_derived
  cases active : u.active with
  | false =>
    rw [recompute_inactive active]
    exact same
  | true =>
    cases relay : u.supply.relay with
    | operating op =>
      rw [recompute_operating relay]
      exact same
    | settled st =>
      have decidedRelay : u.decided.supply.relay = .settled st := relay
      cases required : u.counting.any with
      | false =>
        cases st with
        | closed => rw [recompute_closed_clear active relay required]; exact decided
        | opened =>
          intro held
          have tamper : u.supply.record.causes.tamper = true := by
            refine (held relay).resolve_right ?_
            rw [countingElse, (CauseSet.any_eq_false_iff _).mp required]
            decide
          have confirm : u.needsConfirmation := (confirmationRequired_iff _ _).mpr (.inr (.inl tamper))
          rw [recompute_opened_confirm active relay required confirm]
          exact HoldsBypass.of_leaves (by simp)
            ((tamperRecord_congr (place_tamper _ _) _).trans (settleRelay_record .awaitingConfirm u.decided _)) held
        | awaitingConfirm => rw [recompute_awaiting_clear active relay required]; exact decided
        | stuckClosed =>
          rw [recompute_stuckClosed active relay]
          exact .of_leaves (by simp [decidedRelay]) (enterRecord_record _ u.decided _)
        | stuckOpen => rw [recompute_stuckOpen active relay]; exact decided
      | true =>
        cases st with
        | closed =>
          rw [recompute_closed_required active relay required]
          exact .of_leaves (startOperation_relay_ne _ (by simp [decidedRelay]) _ _)
            (startOperation_opening_record _ u.decided)
        | opened =>
          rw [recompute_opened_required active relay required] at derived ⊢
          exact .of_entered derived (by simp [Part.decided]) (by simp [Part.decided]) required
            (enterRecord_record _ u.decided _)
        | awaitingConfirm =>
          rw [recompute_awaiting_required active relay required] at derived ⊢
          exact .of_entered derived (by simp [Part.decided]) (by simp [Part.decided]) required
            ((settleRelay_record _ _ _).trans (enterRecord_record _ u.decided _))
        | stuckClosed =>
          rw [recompute_stuckClosed active relay]
          exact .of_leaves (by simp [decidedRelay]) (enterRecord_record _ u.decided _)
        | stuckOpen => rw [recompute_stuckOpen active relay]; exact decided

/-- A decision on a change of TAMPER alone. -/
theorem handTamper_holdsBypass (b : Bool) (u : Part) :
    u.HoldsBypass (u.handCauses { u.supply.causes with tamper := b }) := by
  refine .ite (fun held => ⟨held, rfl⟩) ?_
  have put : u.HoldsBypass { u with supply := { u.supply with causes := { u.supply.causes with tamper := b } } } :=
    .of_supply rfl rfl rfl rfl rfl
  exact put.trans (recompute_holdsBypass _)

theorem evaluateTamper_holdsBypass (u : Part) : u.HoldsBypass u.evaluateTamper := by
  have member : u.HoldsBypass { u with tamper := { u.tamper with member := u.tamperMember } } :=
    .of_supply rfl rfl rfl rfl rfl
  exact member.trans (handTamper_holdsBypass _ _)

theorem setCondition_false_holdsBypass {c : TamperCause} (other : c ≠ .bypass) (u : Part) :
    u.HoldsBypass (u.setCondition c false) := by
  have ended : u.HoldsBypass (u.conditionEnds c) :=
    .of_supply (derived_of_core (u.conditionEnds_core c)) (by simp) (by simp) (by simp)
      (u.conditionEnds_other other.symm)
  rw [setCondition]
  simp only [Bool.false_eq_true, if_false]
  exact .ite (fun held => ⟨held, rfl⟩) (.ite (ended.trans (evaluateTamper_holdsBypass _)) ended)

end Part

end Sys2Proof.Machine
end

section
/-! TAMPER_CLEAR in its three steps (R86, R140): what it makes of each record, and its journal entry. -/

namespace Sys2Proof.Machine

/-! ### Records (R137, R140) -/

/-- The record of a cause without a release timer whose condition is set to false. -/
def TamperRecord.freed (r : TamperRecord) : TamperRecord := if r.condition then r.ended none else r

/-- The record of a cause that a TAMPER_CLEAR names. -/
def TamperRecord.quieted (r : TamperRecord) : TamperRecord :=
  if r.state = .latchedAbsent then { r with state := .quiet } else r

theorem TamperRecord.freed_condition (r : TamperRecord) : r.freed.condition = false := by
  unfold TamperRecord.freed
  split
  · exact r.ended_condition none
  · next absent => exact eq_false_of_ne_true absent

theorem TamperRecord.freed_latched_iff (r : TamperRecord) :
    r.freed.state = .latchedAbsent ↔
      r.state = .latchedAbsent ∨ (r.condition = true ∧ (r.state = .present ∨ r.state = .pending true)) := by
  unfold TamperRecord.freed TamperRecord.ended
  cases r.condition <;> rcases hs : r.state with _ | prior | _ | _
  all_goals simp [hs]

theorem TamperRecord.quieted_of_latched {r : TamperRecord} (h : r.state = .latchedAbsent) : r.quieted.state = .quiet := by
  rw [TamperRecord.quieted, if_pos h]

theorem TamperRecord.quieted_of_ne {r : TamperRecord} (h : r.state ≠ .latchedAbsent) : r.quieted = r := if_neg h

theorem TamperRecord.quieted_quieted (r : TamperRecord) : r.quieted.quieted = r.quieted := by
  by_cases latched : r.state = .latchedAbsent
  · exact TamperRecord.quieted_of_ne (by simp [TamperRecord.quieted_of_latched latched])
  · rw [TamperRecord.quieted_of_ne latched, TamperRecord.quieted_of_ne latched]

theorem TamperRecord.quieted_condition (r : TamperRecord) : r.quieted.condition = r.condition := by
  unfold TamperRecord.quieted
  split <;> rfl

/-- The count and the times of a record, which only its becoming present moves. -/
def TamperRecord.history (r : TamperRecord) : Nat × Option Stamp × Option Stamp := (r.count, r.first, r.last)

theorem TamperRecord.ended_history (r : TamperRecord) (release : Option Nat) : (r.ended release).history = r.history := by
  unfold TamperRecord.ended
  cases r.state <;> cases release <;> rfl

theorem TamperRecord.freed_history (r : TamperRecord) : r.freed.history = r.history := by
  unfold TamperRecord.freed
  split
  · exact r.ended_history none
  · rfl

theorem TamperRecord.quieted_history (r : TamperRecord) : r.quieted.history = r.history := by
  unfold TamperRecord.quieted
  split <;> rfl

theorem TamperRecord.MayEnd.history {r r' : TamperRecord} (h : r.MayEnd r') : r'.history = r.history := by
  rcases h with rfl | ⟨-, release, rfl⟩
  · rfl
  · exact r.ended_history release

/-- An ending leaves a QUIET or LATCHED_ABSENT record in its state. -/
theorem TamperRecord.MayEnd.state {r r' : TamperRecord} (h : r.MayEnd r')
    (settled : r.state = .quiet ∨ r.state = .latchedAbsent) : r'.state = r.state := by
  rcases h with rfl | ⟨-, release, rfl⟩
  · rfl
  · rcases settled with quiet | latched
    · simp [TamperRecord.ended, quiet]
    · simp [TamperRecord.ended, latched]

namespace Part

/-! ### The first two steps -/

theorem setCondition_false_self {c : TamperCause} (other : c ≠ .bypass) (release : c.hasRelease = false) (u : Part) :
    (u.setCondition c false).tamperRecord c = (u.tamperRecord c).freed := by
  have ends : (u.conditionEnds c).tamperRecord c = (u.tamperRecord c).ended none := by
    simp [conditionEnds_self, release]
  unfold setCondition TamperRecord.freed
  cases holds : u.condition c with
  | false =>
    have absent : (u.tamperRecord c).condition = false := holds
    simp [absent]
  | true =>
    have present : (u.tamperRecord c).condition = true := holds
    simp only [present, Bool.true_eq_false, Bool.false_eq_true, if_false, if_true]
    split
    · rw [evaluateTamper_record other, ends]
    · exact ends

/-- The part once the two conditions that a TAMPER_CLEAR ends itself are false (R86 steps 1 and 2). -/
def calmed (u : Part) : Part :=
  setDivergence 0 (setCondition .codeAttack false { u with codes := u.codes.freed })

theorem applyTamperClear_eq (value : Nat) (u : Part) :
    u.applyTamperClear value = u.calmed.clearCauses (namedCauses value) := rfl

theorem setDivergence_zero (u : Part) :
    u.setDivergence 0 =
      setCondition .metrologyDivergence false { u with recon := { u.recon with divergence := 0 } } := rfl

theorem calmed_core (u : Part) :
    u.calmed.core =
      ({ u with codes := u.codes.freed, recon := { u.recon with divergence := 0 } } : Part).core := by
  have attack := setCondition_core .codeAttack false { u with codes := u.codes.freed }
  have recon : (setCondition .codeAttack false { u with codes := u.codes.freed }).recon = u.recon := by simp
  rw [calmed, setDivergence_zero, setCondition_core, recon]
  exact congrArg (fun v : Part => { v with recon := { u.recon with divergence := 0 } }) attack

/-- The record of each cause but BYPASS behind the first two steps. -/
theorem calmed_record {d : TamperCause} (other : d ≠ .bypass) (u : Part) :
    u.calmed.tamperRecord d =
      if d = .codeAttack ∨ d = .metrologyDivergence then (u.tamperRecord d).freed else u.tamperRecord d := by
  have step (v : Part) : (setDivergence 0 v).tamperRecord d =
      if d = .metrologyDivergence then (v.tamperRecord d).freed else v.tamperRecord d := by
    rw [setDivergence_zero]
    split
    next same => subst same; exact setCondition_false_self other rfl _
    next different => exact setCondition_other other different _ _
  rw [calmed, step]
  by_cases attack : d = .codeAttack
  · subst attack
    rw [if_neg (by decide), if_pos (by decide)]
    exact setCondition_false_self other rfl _
  · rw [setCondition_other other attack]
    exact if_congr (by simp [attack]) rfl rfl

theorem calmed_bypass (u : Part) : u.EndsBypass 2 u.calmed := by
  have attack := (setCondition_false_bypass (c := .codeAttack) (by decide) rfl { u with codes := u.codes.freed }).after
    (u := u) rfl rfl (.of_eq rfl rfl rfl)
  have divergence (v : Part) : v.EndsBypass 1 (setDivergence 0 v) :=
    (setCondition_false_bypass (c := .metrologyDivergence) (by decide) rfl _).after rfl rfl (.of_eq rfl rfl rfl)
  exact attack.trans (divergence _)

theorem calmed_holdsBypass (u : Part) : u.HoldsBypass u.calmed := by
  have freed : u.HoldsBypass { u with codes := u.codes.freed } := fun held => ⟨held, rfl⟩
  have attack := freed.trans (setCondition_false_holdsBypass (c := .codeAttack) (by decide) _)
  have divergence (v : Part) : v.HoldsBypass (setDivergence 0 v) := by
    have put : v.HoldsBypass { v with recon := { v.recon with divergence := 0 } } := fun held => ⟨held, rfl⟩
    exact put.trans (setCondition_false_holdsBypass (c := .metrologyDivergence) (by decide) _)
  exact attack.trans (divergence _)

/-! ### The third step -/

theorem clearCause_core (c : TamperCause) (u : Part) : (u.clearCause c).core = u.core := by
  unfold clearCause
  split
  · exact putRecord_core _ _ _
  all_goals rfl

theorem clearCause_supply (c : TamperCause) (u : Part) : (u.clearCause c).supply = u.supply := by
  unfold clearCause
  split <;> simp

theorem clearCause_evidence (n : Nat) (c : TamperCause) (u : Part) : u.KeepsEvidence n (u.clearCause c) := by
  unfold clearCause
  split
  · exact putRecord_evidence n _ _ u
  all_goals exact .refl n u

theorem clearCause_record (c d : TamperCause) (u : Part) :
    (u.clearCause c).tamperRecord d = if d = c then (u.tamperRecord d).quieted else u.tamperRecord d := by
  unfold clearCause
  by_cases same : d = c
  · subst same
    rw [if_pos rfl, TamperRecord.quieted]
    split
    next latched => rw [if_pos latched, putRecord_self]
    all_goals next other => rw [if_neg (by simp [other])]
  · rw [if_neg same]
    split
    · exact putRecord_other same _ _
    all_goals rfl

section
variable (causes : List TamperCause) (u : Part)

/-- The named causes become QUIET, one behind the other. -/
def quietAll : Part := causes.foldl clearCause u

theorem quietAll_core : (quietAll causes u).core = u.core := by
  induction causes generalizing u with
  | nil => rfl
  | cons c causes ih => exact (ih _).trans (clearCause_core c u)

theorem quietAll_supply : (quietAll causes u).supply = u.supply := by
  induction causes generalizing u with
  | nil => rfl
  | cons c causes ih => exact (ih _).trans (clearCause_supply c u)

theorem quietAll_evidence : u.KeepsEvidence 0 (quietAll causes u) := by
  induction causes generalizing u with
  | nil => exact .refl 0 u
  | cons c causes ih => exact (clearCause_evidence 0 c u).trans (ih _)

theorem quietAll_record (d : TamperCause) :
    (quietAll causes u).tamperRecord d = if d ∈ causes then (u.tamperRecord d).quieted else u.tamperRecord d := by
  induction causes generalizing u with
  | nil => rfl
  | cons c causes ih =>
    rw [quietAll, List.foldl_cons, ← quietAll, ih, clearCause_record]
    by_cases first : d = c
    · simp only [first, if_true, List.mem_cons, true_or, TamperRecord.quieted_quieted, ite_self]
    · simp only [first, if_false, List.mem_cons, false_or]

/-- The causes that a TAMPER_CLEAR returns to QUIET. -/
def latchedOf : List TamperCause := causes.filter (fun c => (u.tamperRecord c).state = .latchedAbsent)

theorem mem_latchedOf (d : TamperCause) :
    d ∈ latchedOf causes u ↔ d ∈ causes ∧ (u.tamperRecord d).state = .latchedAbsent := by
  simp [latchedOf]

/-- The entry of a TAMPER_CLEAR, when it returns a cause to QUIET (R140). -/
def noteCleared : Part :=
  if (latchedOf causes u).isEmpty then quietAll causes u
  else (quietAll causes u).journal (.tamperCleared (latchedOf causes u))

theorem clearCauses_eq : u.clearCauses causes = (noteCleared causes u).evaluateTamper := rfl

theorem noteCleared_core : (noteCleared causes u).core = u.core := by
  unfold noteCleared
  split
  · exact quietAll_core causes u
  · rw [journal_core, quietAll_core]

theorem noteCleared_supply : (noteCleared causes u).supply = u.supply := by
  unfold noteCleared
  split
  · exact quietAll_supply causes u
  · rw [journal_supply, quietAll_supply]

theorem noteCleared_record (d : TamperCause) :
    (noteCleared causes u).tamperRecord d = if d ∈ causes then (u.tamperRecord d).quieted else u.tamperRecord d := by
  rw [← quietAll_record]
  unfold noteCleared
  split
  · rfl
  · exact tamperRecord_congr (journal_tamper _ _) d

theorem noteCleared_evidence : u.KeepsEvidence 1 (noteCleared causes u) := by
  unfold noteCleared
  split
  · exact (quietAll_evidence causes u).mono (by omega)
  · exact (quietAll_evidence causes u).trans (journal_evidence _ _)

theorem noteCleared_journaled (some : latchedOf causes u ≠ []) (room : u.store.journal.length < 8) :
    (noteCleared causes u).Journaled (u.entryNow (.tamperCleared (latchedOf causes u))) := by
  have clock := clock_of_derived (derived_of_core (quietAll_core causes u))
  have balance : (quietAll causes u).account.balance = u.account.balance := by
    have money := congrArg (fun v : Part => v.account.balance) (quietAll_core causes u)
    exact money
  have written := journal_journaled (d := .tamperCleared (latchedOf causes u)) (u := quietAll causes u)
    (lt_of_le_of_lt (quietAll_evidence causes u).length room)
  rw [entryNow, stamp, clock, balance] at written
  rw [noteCleared, if_neg (by simpa using some)]
  exact written

theorem clearCauses_core : (u.clearCauses causes).core = u.core := by
  rw [clearCauses_eq, evaluateTamper_core, noteCleared_core]

theorem clearCauses_record {d : TamperCause} (other : d ≠ .bypass) :
    (u.clearCauses causes).tamperRecord d = if d ∈ causes then (u.tamperRecord d).quieted else u.tamperRecord d := by
  rw [clearCauses_eq, evaluateTamper_record other, noteCleared_record]

theorem clearCauses_evidence : u.KeepsEvidence 2 (u.clearCauses causes) :=
  (noteCleared_evidence causes u).trans (evaluateTamper_evidence _)

theorem clearCauses_journaled (some : latchedOf causes u ≠ []) (room : u.store.journal.length < 8) :
    (u.clearCauses causes).Journaled (u.entryNow (.tamperCleared (latchedOf causes u))) :=
  (evaluateTamper_evidence _).journaled _ (noteCleared_journaled causes u some room)

/-- The record of BYPASS behind the third step: quiet when it is named, and it may end. -/
theorem clearCauses_bypass :
    (if .bypass ∈ causes then (u.tamperRecord .bypass).quieted else u.tamperRecord .bypass).MayEnd
      ((u.clearCauses causes).tamperRecord .bypass) := by
  rw [← noteCleared_record]
  exact (evaluateTamper_bypass _).record

theorem clearCauses_entries :
    (u.clearCauses causes).store.journal.length ≤
      u.store.journal.length + (u.condition .bypass).toNat + 1 := by
  have noted := (noteCleared_evidence causes u).length
  have decided := (evaluateTamper_bypass (noteCleared causes u)).entries
  have condition : (noteCleared causes u).condition .bypass = u.condition .bypass := by
    rw [condition, noteCleared_record, condition]
    split
    · exact TamperRecord.quieted_condition _
    · rfl
  rw [condition] at decided
  have decided : (u.clearCauses causes).store.journal.length + _ ≤ _ := decided
  omega

theorem clearCauses_holdsBypass (unlatched : (u.tamperRecord .bypass).state ≠ .latchedAbsent) :
    u.HoldsBypass (u.clearCauses causes) := by
  have same : (noteCleared causes u).tamperRecord .bypass = u.tamperRecord .bypass := by
    rw [noteCleared_record, TamperRecord.quieted_of_ne unlatched, ite_self]
  have supply := noteCleared_supply causes u
  have noted : u.HoldsBypass (noteCleared causes u) :=
    .of_supply (derived_of_core (noteCleared_core causes u)) (by rw [supply]) (by rw [supply]) (by rw [supply]) same
  exact noted.trans (evaluateTamper_holdsBypass _)

end

end Part

end Sys2Proof.Machine
end

section
/-! The accepted codes besides those of the account (R85 to R90, R123, R140, R155). Settles O39. -/

namespace Sys2Proof.Machine

namespace Part

/-! ### TAMPER_CLEAR (R86) -/

theorem mem_namedCauses (value : Nat) (d : TamperCause) :
    d ∈ namedCauses value ↔ value = 0 ∨ value.testBit (causeIndex d).val = true := by
  have all : d ∈ allCauses := by cases d <;> decide
  unfold namedCauses
  by_cases zero : value = 0
  · simp [zero, all]
  · simp [zero, all]

section
variable (value : Nat) (u : Part)

theorem applyTamperClear_core :
    (u.applyTamperClear value).core =
      ({ u with codes := u.codes.freed, recon := { u.recon with divergence := 0 } } : Part).core :=
  (clearCauses_core _ _).trans u.calmed_core

/-- The record of each cause but BYPASS behind the three steps. -/
theorem applyTamperClear_record {d : TamperCause} (other : d ≠ .bypass) :
    (u.applyTamperClear value).tamperRecord d =
      if d ∈ namedCauses value then (u.calmed.tamperRecord d).quieted else u.calmed.tamperRecord d :=
  clearCauses_record _ _ other

theorem applyTamperClear_condition {d : TamperCause} (own : d = .codeAttack ∨ d = .metrologyDivergence) :
    (u.applyTamperClear value).condition d = false := by
  have other : d ≠ .bypass := by rcases own with rfl | rfl <;> decide
  rw [condition, applyTamperClear_record value u other, calmed_record other, if_pos own]
  split
  · rw [TamperRecord.quieted_condition]
    exact TamperRecord.freed_condition _
  · exact TamperRecord.freed_condition _

/-- A latched, absent cause becomes QUIET when it is named, and stays as it is otherwise. -/
theorem applyTamperClear_latched {d : TamperCause} (latched : (u.tamperRecord d).state = .latchedAbsent) :
    ((u.applyTamperClear value).tamperRecord d).state =
      if d ∈ namedCauses value then .quiet else .latchedAbsent := by
  by_cases bypass : d = .bypass
  · subst bypass
    have before : (u.calmed.tamperRecord .bypass).state = .latchedAbsent :=
      (u.calmed_bypass.record.state (.inr latched)).trans latched
    have after := clearCauses_bypass (namedCauses value) u.calmed
    split at after
    next named =>
      have quiet := TamperRecord.quieted_of_latched before
      rw [if_pos named, applyTamperClear_eq, after.state (.inl quiet), quiet]
    next unnamed => rw [if_neg unnamed, applyTamperClear_eq, after.state (.inr before), before]
  · have before : (u.calmed.tamperRecord d).state = .latchedAbsent := by
      rw [calmed_record bypass]
      split
      · exact (TamperRecord.freed_latched_iff _).mpr (.inl latched)
      · exact latched
    rw [applyTamperClear_record value u bypass]
    split
    · exact TamperRecord.quieted_of_latched before
    · exact before

/-- A condition that the code ends itself leaves its PRESENT record LATCHED_ABSENT, and QUIET when it is named. -/
theorem applyTamperClear_ended {d : TamperCause} (own : d = .codeAttack ∨ d = .metrologyDivergence)
    (present : (u.tamperRecord d).state = .present) (holds : (u.tamperRecord d).condition = true) :
    ((u.applyTamperClear value).tamperRecord d).state =
      if d ∈ namedCauses value then .quiet else .latchedAbsent := by
  have other : d ≠ .bypass := by rcases own with rfl | rfl <;> decide
  have before : (u.calmed.tamperRecord d).state = .latchedAbsent := by
    rw [calmed_record other, if_pos own]
    exact (TamperRecord.freed_latched_iff _).mpr (.inr ⟨holds, .inl present⟩)
  rw [applyTamperClear_record value u other]
  split
  · exact TamperRecord.quieted_of_latched before
  · exact before

/-- A record that is not LATCHED_ABSENT, whose condition the code does not end, stands. -/
theorem applyTamperClear_stands {d : TamperCause} (attack : d ≠ .codeAttack) (divergence : d ≠ .metrologyDivergence)
    (closed : d = .bypass → u.supply.relay ≠ .settled .opened) (unlatched : (u.tamperRecord d).state ≠ .latchedAbsent) :
    (u.applyTamperClear value).tamperRecord d = u.tamperRecord d := by
  by_cases bypass : d = .bypass
  · subst bypass
    have held : u.OpenHeld := fun opened => absurd opened (closed rfl)
    obtain ⟨held, first⟩ := u.calmed_holdsBypass held
    have second := (clearCauses_holdsBypass (namedCauses value) u.calmed (by rw [first]; exact unlatched) held).2
    exact second.trans first
  · have before : u.calmed.tamperRecord d = u.tamperRecord d := by
      rw [calmed_record bypass, if_neg (by simp [attack, divergence])]
    rw [applyTamperClear_record value u bypass, before, TamperRecord.quieted_of_ne unlatched, ite_self]

theorem applyTamperClear_history (d : TamperCause) :
    ((u.applyTamperClear value).tamperRecord d).history = (u.tamperRecord d).history := by
  by_cases bypass : d = .bypass
  · subst bypass
    have before := u.calmed_bypass.record.history
    have after := (clearCauses_bypass (namedCauses value) u.calmed).history
    rw [applyTamperClear_eq, after]
    split
    · rw [TamperRecord.quieted_history, before]
    · exact before
  · have before : (u.calmed.tamperRecord d).history = (u.tamperRecord d).history := by
      rw [calmed_record bypass]
      split
      · exact TamperRecord.freed_history _
      · rfl
    rw [applyTamperClear_record value u bypass]
    split
    · rw [TamperRecord.quieted_history, before]
    · exact before

/-- The causes that a TAMPER_CLEAR returns to QUIET, from the records before it. -/
theorem mem_latchedOf_calmed {d : TamperCause} (other : d ≠ .bypass) :
    d ∈ latchedOf (namedCauses value) u.calmed ↔
      (value = 0 ∨ value.testBit (causeIndex d).val = true) ∧
        ((u.tamperRecord d).state = .latchedAbsent ∨
          ((d = .codeAttack ∨ d = .metrologyDivergence) ∧ (u.tamperRecord d).condition = true ∧
            ((u.tamperRecord d).state = .present ∨ (u.tamperRecord d).state = .pending true))) := by
  rw [mem_latchedOf, mem_namedCauses, calmed_record other]
  refine and_congr_right fun _ => ?_
  by_cases own : d = .codeAttack ∨ d = .metrologyDivergence
  · rw [if_pos own, TamperRecord.freed_latched_iff]
    simp [own]
  · rw [if_neg own]
    simp [own]

theorem applyTamperClear_evidence : u.KeepsEvidence 6 (u.applyTamperClear value) := by
  have attack : u.KeepsEvidence 2 (setCondition .codeAttack false { u with codes := u.codes.freed }) := by
    have freed : u.KeepsEvidence 0 { u with codes := u.codes.freed } := .of_eq rfl rfl rfl
    exact (freed.trans (setCondition_evidence _ _ _)).mono (by omega)
  have divergence (v : Part) : v.KeepsEvidence 2 (setDivergence 0 v) := by
    have put : v.KeepsEvidence 0 { v with recon := { v.recon with divergence := 0 } } := .of_eq rfl rfl rfl
    exact (put.trans (setCondition_evidence .metrologyDivergence false _)).mono (by omega)
  exact (attack.trans (divergence _)).trans (clearCauses_evidence _ _)

/-- Up to three waiting entries leave room for all that a TAMPER_CLEAR submits. -/
theorem applyTamperClear_room (room : u.store.journal.length < 4) :
    (u.applyTamperClear value).store.journal.length < 8 := by
  have first := u.calmed_bypass.entries
  have second := clearCauses_entries (namedCauses value) u.calmed
  have bound := (u.condition .bypass).toNat_le
  rw [applyTamperClear_eq]
  omega

theorem applyTamperClear_journaled (room : u.store.journal.length < 4)
    (some : latchedOf (namedCauses value) u.calmed ≠ []) :
    (u.applyTamperClear value).Journaled (u.entryNow (.tamperCleared (latchedOf (namedCauses value) u.calmed))) := by
  have first := u.calmed_bypass.entries
  have bound := (u.condition .bypass).toNat_le
  have written := clearCauses_journaled (namedCauses value) u.calmed some (by omega)
  have clock := clock_of_derived (derived_of_core u.calmed_core)
  have balance := congrArg (fun v : Part => v.account.balance) u.calmed_core
  have balance : u.calmed.account.balance = u.account.balance := balance
  rw [entryNow, stamp, clock, balance] at written
  exact written

end

/-! ### What the accepted codes have in common -/

/-- The commit behind an effect that is known up to its requests. -/
theorem committed_core_of {w b : Part} (h : w.core = b.core) (c : DecodedCode) (split : Option TopUpSplit)
    (d : JournalDetail) :
    (w.committed c split d).core = ({ b with codes := { b.codes with head := some (.commit c split) } } : Part).core := by
  have held := w.committed_core c split d
  rw [codes_of_derived (derived_of_core h)] at held
  exact held.trans (core_withCodes h _)

theorem entryNow_of_core {w b : Part} (h : w.core = b.core) (d : JournalDetail) : w.entryNow d = b.entryNow d := by
  have balance := congrArg (fun v : Part => v.account.balance) h
  have balance : w.account.balance = b.account.balance := balance
  rw [entryNow, entryNow, stamp, stamp, clock_of_derived (derived_of_core h), balance]

section
variable {c : DecodedCode} (u : Part)

theorem applyCode_loadLimit (kind : c.kind = 2) :
    u.applyCode c = (u.markSerial c.serial).putLoad (u.load.coded c.value) := by simp only [applyCode, kind]

theorem applyCode_tamperClear (kind : c.kind = 5) :
    u.applyCode c = (u.markSerial c.serial).applyTamperClear c.value := by simp only [applyCode, kind]

theorem applyCode_keyRoll (kind : c.kind = 6) : u.applyCode c = u.applyKeyRoll := by simp only [applyCode, kind]

theorem applyCode_supplyOrder (kind : c.kind = 7) :
    u.applyCode c = (u.markSerial c.serial).applySupplyOrder (c.value = 1) := by simp only [applyCode, kind]

theorem applyCode_midnight (kind : c.kind = 9) : u.applyCode c = (u.markSerial c.serial).schedule c.value := by
  simp only [applyCode, kind]

theorem putLoad_core (l : Load) : (u.putLoad l).core = ({ u with load := l } : Part).core :=
  (handCauses_core _ _).trans (markDueIf_core _ _)

theorem putLoad_evidence (l : Load) : u.KeepsEvidence 1 (u.putLoad l) := by
  have put : u.KeepsEvidence 0 { u with load := l } := .of_eq rfl rfl rfl
  exact (put.trans (markDueIf_evidence 0 _ _)).trans (handCauses_evidence _ _)

theorem applySupplyOrder_core (b : Bool) :
    (u.applySupplyOrder b).core = ({ u with codes := { u.codes with remoteOrder := b } } : Part).core :=
  (handCauses_core _ _).trans (markDueIf_core _ _)

theorem applySupplyOrder_evidence (b : Bool) : u.KeepsEvidence 1 (u.applySupplyOrder b) := by
  have put : u.KeepsEvidence 0 { u with codes := { u.codes with remoteOrder := b } } := .of_eq rfl rfl rfl
  exact (put.trans (markDueIf_evidence 0 _ _)).trans (handCauses_evidence _ _)

theorem schedule_core (f : Nat) :
    (u.schedule f).core =
      ({ u with tariff := { u.tariff with pending := .scheduled f, scheduleMarker := some f } } : Part).core :=
  markDueIf_core _ _

theorem schedule_evidence (f : Nat) : u.KeepsEvidence 0 (u.schedule f) := by
  have put : u.KeepsEvidence 0
      { u with tariff := { u.tariff with pending := .scheduled f, scheduleMarker := some f } } := .of_eq rfl rfl rfl
  exact put.trans (markDueIf_evidence 0 _ _)

theorem applyKeyRoll_evidence : u.KeepsEvidence 0 u.applyKeyRoll := by
  have put : u.KeepsEvidence 0
      { u with codes := { u.codes with generation := u.codes.generation + 1, serials := Serials.empty } } :=
    .of_eq rfl rfl rfl
  exact put.trans (markDue_evidence 0 _)

/-- The effect of such a code leaves the moment and the balance, and room for its entry. -/
theorem applyCode_other (kind : c.kind = 2 ∨ c.kind = 5 ∨ c.kind = 6 ∨ c.kind = 7 ∨ c.kind = 9)
    (room : u.store.journal.length < 4) :
    (u.applyCode c).store.journal.length < 8 ∧ ∀ d, (u.applyCode c).entryNow d = u.entryNow d := by
  have marked := u.markSerial_evidence 0 c.serial
  rcases kind with kind | kind | kind | kind | kind
  · rw [u.applyCode_loadLimit kind]
    have kept := (marked.trans (putLoad_evidence _ (u.load.coded c.value))).length
    exact ⟨by omega, fun d => (entryNow_of_core (putLoad_core _ _) d).trans rfl⟩
  · rw [u.applyCode_tamperClear kind]
    exact ⟨applyTamperClear_room c.value (u.markSerial c.serial) room, fun d => (entryNow_of_core (applyTamperClear_core _ _) d).trans rfl⟩
  · rw [u.applyCode_keyRoll kind]
    have kept := u.applyKeyRoll_evidence.length
    exact ⟨by omega, fun _ => rfl⟩
  · rw [u.applyCode_supplyOrder kind]
    have kept := (marked.trans (applySupplyOrder_evidence _ (c.value = 1))).length
    exact ⟨by omega, fun d => (entryNow_of_core (applySupplyOrder_core _ _) d).trans rfl⟩
  · rw [u.applyCode_midnight kind]
    have kept := (marked.trans (schedule_evidence _ c.value)).length
    exact ⟨by omega, fun d => (entryNow_of_core (schedule_core _ _) d).trans rfl⟩

end

/-! ### TARIFF_NOW (R60, R61, R88) -/

theorem fingerprint_of_bankRefusal {value : Nat} {u : Part} (h : u.bankRefusal value = none) :
    u.tariff.pending.fingerprint = some value := by
  unfold bankRefusal at h
  split at h
  · cases pending : u.tariff.pending.fingerprint with
    | none => simp [pending] at h
    | some f =>
      have same : f = value := by simpa [pending] using h
      rw [same]
  · cases h

theorem otherArea_eq (a : Option Area) : otherArea a = if a = some .areaA then .areaB else .areaA := by
  rcases a with _ | _ | _ <;> rfl

end Part

/-- Settles O39: the effect of each kind, and the commit that each but TARIFF_NOW leaves. -/
theorem acceptedOtherCode : Obligations.AcceptedOtherCode := by
  intro s e rest slots mid c powered queue head decoded screened valued u spent named cleared
  have effect : effectOf .codeScreening s.part = u.acceptCode c e.port := by
    rw [effectOf, Part.screeningDue_of_decoded powered queue head decoded]
    exact Part.judgeCode_of_accepted screened valued
  rw [exec_eq, effect]
  refine ⟨_, rfl, fun kind => ?loadLimit, fun kind => ?tamperClear, fun kind => ?keyRoll, fun kind => ?supplyOrder,
    fun kind => ?midnight, fun kind => ?now, fun kind => ?requested, fun kind room => ?entry, fun kind room => ?rolled⟩
  case now =>
    have bank : u.bankRefusal c.value = none := by simpa only [Part.valueRefusal, kind] using valued
    have fingerprint : (u.setHead (.activating c)).tariff.pending.fingerprint = some c.value :=
      Part.fingerprint_of_bankRefusal bank
    have accepted : u.acceptCode c e.port = (u.setHead (.activating c)).startActivation .code := if_pos kind
    have derived := Part.startActivation_derived fingerprint .code
    have tariff := Part.tariff_of_derived derived
    have books := Part.books_of_derived derived
    have area := Part.otherArea_eq u.tariff.activeArea
    rw [accepted]
    refine ⟨Part.codes_of_derived derived, tariff.trans ?_, books⟩
    rw [← area]
    rfl
  all_goals
    have other : c.kind ≠ 8 := by omega
    have reported : u.reportedSplit c = none := if_neg (by omega)
    rw [Part.acceptCode_eq other, reported]
  case requested => exact Part.committed_requested _ _ _ _
  case entry =>
    obtain ⟨fits, same⟩ := u.applyCode_other (c := c) (by omega) room
    have written := (u.applyCode c).committed_journaled c none (codeEntry c e.port u.codes.generation) fits
    have entry : codeEntry c e.port u.codes.generation = .codeAccepted c.kind c.serial c.value e.port :=
      if_neg (by omega)
    rw [same, entry] at written
    rw [entry]
    exact written
  case rolled =>
    obtain ⟨fits, same⟩ := u.applyCode_other (c := c) (by omega) room
    have written := (u.applyCode c).committed_journaled c none (codeEntry c e.port u.codes.generation) fits
    have entry : codeEntry c e.port u.codes.generation =
      .keyRolled u.codes.generation (u.codes.generation + 1) c.serial := if_pos kind
    rw [same, entry] at written
    rw [entry]
    exact written
  case loadLimit =>
    rw [u.applyCode_loadLimit kind]
    refine ⟨Part.committed_core_of (Part.putLoad_core _ _) _ _ _, ?_⟩
    rw [Part.committed_supply, Part.putLoad, Part.handCauses_causes]
    by_cases zero : c.value = 0
    · simp [Load.member, Load.coded, zero]
    · simp [Load.member, Load.coded, zero]
  case keyRoll =>
    rw [u.applyCode_keyRoll kind]
    exact Part.committed_core _ _ _ _
  case supplyOrder =>
    rw [u.applyCode_supplyOrder kind]
    refine ⟨Part.committed_core_of (Part.applySupplyOrder_core _ _) _ _ _, ?_⟩
    rw [Part.committed_supply, Part.applySupplyOrder, Part.handCauses_causes]
  case midnight =>
    rw [u.applyCode_midnight kind]
    exact Part.committed_core_of (Part.schedule_core _ _) _ _ _
  case tamperClear =>
    let w := u.markSerial c.serial
    have record (d : TamperCause) (entry : JournalDetail) :
        ((w.applyTamperClear c.value).committed c none entry).tamperRecord d = (w.applyTamperClear c.value).tamperRecord d :=
      Part.tamperRecord_congr (Part.committed_tamper _ _ _ _) d
    have condition (d : TamperCause) (entry : JournalDetail) :
        ((w.applyTamperClear c.value).committed c none entry).condition d = (w.applyTamperClear c.value).condition d :=
      Part.condition_of_record (record d entry)
    have member := Part.mem_namedCauses c.value
    rw [u.applyCode_tamperClear kind]
    refine ⟨Part.committed_core_of (Part.applyTamperClear_core _ _) _ _ _,
      (condition _ _).trans (Part.applyTamperClear_condition _ _ (.inl rfl)),
      (condition _ _).trans (Part.applyTamperClear_condition _ _ (.inr rfl)),
      fun d hit latched => ?_, fun d hit own present holds => ?_, fun d hit latched => ?_,
      fun d hit own present holds => ?_, fun d attack divergence closed state => ?_, fun room some => ?_, fun d => ?_⟩
    · rw [record, Part.applyTamperClear_latched c.value w latched, if_pos ((member d).mpr hit)]
    · rw [record, Part.applyTamperClear_ended c.value w own present holds, if_pos ((member d).mpr hit)]
    · rw [record, Part.applyTamperClear_latched c.value w latched, if_neg (mt (member d).mp hit)]
    · rw [record, Part.applyTamperClear_ended c.value w own present holds, if_neg (mt (member d).mp hit)]
    · rw [record]
      refine Part.applyTamperClear_stands c.value w attack divergence closed fun latched => ?_
      have latched : (u.tamperRecord d).state = .latchedAbsent := latched
      simp [latched] at state
    · obtain ⟨d, other, hit⟩ := some
      have listed (d : TamperCause) (other : d ≠ .bypass) := Part.mem_latchedOf_calmed c.value w other
      refine ⟨_, (Part.committed_evidence _ _ _ _).journaled _
        (Part.applyTamperClear_journaled c.value w room (List.ne_nil_of_mem ((listed d other).mpr hit))), listed⟩
    · rw [record]
      have history := Part.applyTamperClear_history c.value w d
      exact ⟨congrArg Prod.fst history, congrArg (fun x => x.2.1) history, congrArg (fun x => x.2.2) history⟩

end Sys2Proof.Machine
end

section
/-! Requests to the store controller and the choice of the next attempt (R23, R151 to R155, R157, R159). Settles O41. -/

namespace Sys2Proof.Machine

namespace Part

theorem startNext_of_stopped {u : Part} (stopped : u.power = .stopped) : u.startNext = u :=
  startNext_of_off (by simp [mainOn, stopped])

theorem startNext_of_class2 {u : Part} {w : Class2Write} {rest : List Class2Write} (idle : u.store.inFlight = none)
    (waiting : u.store.waiting = none) (class2 : u.store.class2 = w :: rest)
    (on : u.power = .running ∨ u.power = .starting) : u.startNext = u.startClass2 w rest := by
  rcases on with on | on <;> simp [startNext, idle, waiting, class2, on, mainOn]

section
variable {u : Part} (idle : u.store.inFlight = none) (waiting : u.store.waiting = none)
  (class2 : u.store.class2 = [] ∨ u.power = .failing)
include idle waiting class2

theorem startNext_of_journal {r : JournalRequest} {rest : List JournalRequest} (on : u.power ≠ .stopped)
    (journal : u.store.journal = r :: rest) : u.startNext = u.startJournal r rest := by
  have main : u.mainOn = true := u.mainOn_iff.mpr on
  rcases class2 with none | failing
  · simp [startNext, idle, waiting, main, none, journal]
  · cases waits : u.store.class2 <;> simp [startNext, idle, waiting, main, waits, failing, journal]

theorem startNext_of_nothing (journal : u.store.journal = []) : u.startNext = u := by
  rcases class2 with none | failing
  · simp [startNext, idle, waiting, none, journal]
  · cases waits : u.store.class2 <;> simp [startNext, idle, waiting, waits, failing, journal]

end

/-! ### The snapshot (R153, R154) -/

theorem inCheckpointStep_isSome_iff (t : Tariff) :
    t.inCheckpointStep.isSome = true ↔ ∃ a, t.activation = some a ∧ a.phase = .checkpoint := by
  unfold Tariff.inCheckpointStep
  cases t.activation with
  | none => simp
  | some a =>
    by_cases step : a.phase = .checkpoint
    · simp [step]
    · simp [step]

theorem inCheckpointStep_eq_some {t : Tariff} {a : Activation} (activation : t.activation = some a)
    (step : a.phase = .checkpoint) : t.inCheckpointStep = some a := by
  rw [Tariff.inCheckpointStep, activation]
  exact if_pos step

theorem committing_iff (c : Codes) : c.committing = true ↔ ∃ code split, c.head = some (.commit code split) := by
  unfold Codes.committing
  split
  next code split head => exact ⟨fun _ => ⟨code, split, head⟩, fun _ => rfl⟩
  all_goals next head => exact ⟨fun h => absurd h (by decide), fun ⟨_, _, h⟩ => by rw [head] at h; cases h⟩

theorem latched_eq (s : RecordState) : s.latched = decide (s ≠ .quiet ∧ s ≠ .pending false) := by
  rcases s with _ | prior | _ | _
  · rfl
  · cases prior <;> rfl
  · rfl
  · rfl

theorem snapshot_tamper (n : Nat) (reasons : ReasonSet) (u : Part) (c : TamperCause) :
    (u.snapshot n reasons).tamper.get (causeIndex c) = (u.tamperRecord c).carried := by
  simp only [snapshot, tamperRecord, Vector.get_eq_getElem, Vector.getElem_map]

theorem snapshotArea_of_none {u : Part} (none : u.tariff.inCheckpointStep = none) :
    u.snapshotArea = u.tariff.activeArea := by rw [snapshotArea, none]

theorem snapshotSerials_of_none {u : Part} (none : u.tariff.inCheckpointStep = none) :
    u.snapshotSerials = u.codes.serials := by rw [snapshotSerials, none]

theorem snapshotArea_of_some {u : Part} {a : Activation} (step : u.tariff.inCheckpointStep = some a) :
    u.snapshotArea = some a.area := by rw [snapshotArea, step]

/-- During a TARIFF_NOW's checkpoint step the snapshot carries its serial (R154). -/
theorem snapshotSerials_of_code {u : Part} {a : Activation} {code : DecodedCode}
    (step : u.tariff.inCheckpointStep = some a) (origin : a.origin = .code)
    (head : u.codes.head = some (.activating code)) : u.snapshotSerials = u.codes.serials.mark code.serial := by
  have serial : u.codes.activatingSerial = some code.serial := by rw [Codes.activatingSerial, head]
  rw [snapshotSerials, step]
  simp only [origin, if_true, serial]

theorem slotAfter_eq (v : NvArray) (slot : Nat) :
    v.slotAfter slot =
      if v.newestCheckpoint.map Prod.fst = some ((slot + 1) % 64) then ((slot + 1) % 64 + 1) % 64
      else (slot + 1) % 64 := by
  unfold NvArray.slotAfter
  cases newest : v.newestCheckpoint with
  | none => rfl
  | some x =>
    obtain ⟨n, record⟩ := x
    exact if_congr (by simp [eq_comm]) rfl rfl

end Part

/-- Settles O41: each case of the choice, and the snapshot's fields. -/
theorem checkpointRequests : Obligations.CheckpointRequests := by
  refine ⟨fun u r => ⟨rfl, fun busy => ?joins⟩, fun u still => ?still, fun u reasons waiting => ⟨?starts, ?exhausted⟩,
    fun _ _ => rfl, fun u w rest idle waiting class2 on => ?class2, fun u r d => ⟨rfl, fun full => ?full, fun room => ?waits⟩,
    fun u idle waiting class2 => ⟨fun none => ?none, fun r rest journal on => ?journal⟩,
    fun s t running hourly timely => ?hourly⟩
  case joins =>
    obtain ⟨a, busy⟩ := Option.isSome_iff_exists.mp busy
    exact Part.startNext_of_inFlight busy
  case still =>
    rcases still with busy | stopped
    · obtain ⟨a, busy⟩ := Option.isSome_iff_exists.mp busy
      exact Part.startNext_of_inFlight busy
    · exact Part.startNext_of_stopped stopped
  case starts =>
    intro idle on left array next
    have numbered : ¬ lastSequence < u.store.nextSequence := Nat.not_lt.mpr left
    refine ⟨u.snapshot u.store.nextSequence reasons, u.codes.committing, u.tariff.inCheckpointStep.isSome, ?_, rfl, rfl, rfl,
      rfl, rfl, rfl, rfl, rfl, rfl, rfl, rfl, rfl, rfl, rfl, fun c => ?_, Part.committing_iff _,
      Part.inCheckpointStep_isSome_iff _, fun none => ?_, fun a activation step => ⟨?_, fun code origin head => ?_⟩⟩
    · rw [Part.startNext_of_waiting idle (u.mainOn_iff.mpr on) waiting]
      simp only [Part.startCheckpoint, if_neg numbered, decide_eq_false numbered, Part.slotAfter_eq]
      rfl
    · rw [Part.snapshot_tamper, TamperRecord.carried, Part.latched_eq]
    · have none := Option.isSome_eq_false_iff.mp none
      exact ⟨Part.snapshotArea_of_none (Option.isNone_iff_eq_none.mp none),
        Part.snapshotSerials_of_none (Option.isNone_iff_eq_none.mp none)⟩
    · exact Part.snapshotArea_of_some (Part.inCheckpointStep_eq_some activation step)
    · exact Part.snapshotSerials_of_code (Part.inCheckpointStep_eq_some activation step) origin head
  case exhausted =>
    intro idle on gone
    have unnumbered : lastSequence < u.store.nextSequence := gone
    refine ⟨{
      record := u.snapshot u.store.nextSequence reasons, slot := u.store.nextSlot,
      firstSequence := u.store.nextSequence, retry := false, writesNothing := true, changedSince := false,
      carriesCode := u.codes.committing, carriesActivation := u.tariff.inCheckpointStep.isSome }, rfl, rfl, rfl, ?_⟩
    rw [Part.startNext_of_waiting idle (u.mainOn_iff.mpr on) waiting]
    simp only [Part.startCheckpoint, if_pos unnumbered, decide_eq_true unnumbered]
  case class2 =>
    rw [Part.startNext_of_class2 idle waiting class2 on]
    cases w <;> rfl
  case full => exact if_pos full
  case waits =>
    have submitted : u.submitJournal r = Part.startNext { u with store := { u.store with journal := u.store.journal ++ [r] } } :=
      if_neg (Nat.not_le.mpr room)
    refine ⟨submitted, fun busy => ?_⟩
    obtain ⟨a, busy⟩ := Option.isSome_iff_exists.mp busy
    exact submitted.trans (Part.startNext_of_inFlight busy)
  case none => exact Part.startNext_of_nothing idle waiting class2 none
  case journal =>
    intro n slot
    rw [Part.startNext_of_journal idle waiting class2 on journal]
    refine ⟨fun left => ?_, fun gone => if_pos gone⟩
    have numbered : ¬ lastSequence < u.store.nextJournalSequence := Nat.not_lt.mpr left
    exact if_neg numbered
  case hourly =>
    intro u
    have expires : s.part.hourly = u.requestIfDue .hourly := if_pos (by simp [running, hourly])
    rw [show exec .hourlyTimerExpiry s = _ from expire_of_not_mem timely Part.hourly, expires]
    rfl

end Sys2Proof.Machine
end

section
/-! A cause that becomes present or absent: the evidence it leaves (R135 to R137), and the TAMPER member (R139). -/

namespace Sys2Proof.Machine

/-- The end of a condition leaves what TAMPER asks of its record. -/
theorem TamperRecord.MayEnd.latched {r r' : TamperRecord} (h : r.MayEnd r') : r'.state.latched = r.state.latched := by
  rcases h with rfl | ⟨-, release, rfl⟩
  · rfl
  · unfold TamperRecord.ended
    rcases r.state with _ | prior | _ | _
    · rfl
    · cases prior <;> rfl
    · cases release <;> rfl
    · rfl

namespace Part

/-! ### The TAMPER member (R139) -/

theorem tamperMember_iff (u : Part) :
    u.tamperMember = true ↔
      ∃ d, u.policy d = .disconnect ∧ (u.tamperRecord d).state ≠ .quiet ∧ (u.tamperRecord d).state ≠ .pending false := by
  have all (d : TamperCause) : d ∈ allCauses := by cases d <;> decide
  simp only [tamperMember, holdsTamper, List.any_eq_true, all, true_and, Bool.and_eq_true, decide_eq_true_eq, latched_eq]

theorem policy_of_derived {u v : Part} (h : v.derived = u.derived) (c : TamperCause) : v.policy c = u.policy c := by
  cases c <;> simp only [policy, bankValue_of_derived h]

/-- The record of every cause stands, but that of BYPASS may end. -/
def SameRecords (u v : Part) : Prop :=
  (∀ d, d ≠ .bypass → v.tamperRecord d = u.tamperRecord d) ∧
    (u.tamperRecord .bypass).MayEnd (v.tamperRecord .bypass)

theorem SameRecords.trans {u v w : Part} (a : u.SameRecords v) (b : v.SameRecords w) : u.SameRecords w :=
  ⟨fun d h => (b.1 d h).trans (a.1 d h), a.2.trans b.2⟩

theorem SameRecords.latched {u v : Part} (h : u.SameRecords v) (d : TamperCause) :
    (v.tamperRecord d).state.latched = (u.tamperRecord d).state.latched := by
  by_cases bypass : d = .bypass
  · subst bypass
    exact h.2.latched
  · rw [h.1 d bypass]

theorem SameRecords.tamperMember {u v : Part} (h : u.SameRecords v) (derived : v.derived = u.derived) :
    v.tamperMember = u.tamperMember := by
  have holds : v.holdsTamper = u.holdsTamper := by
    funext d
    simp only [holdsTamper, policy_of_derived derived, h.latched d]
  rw [Part.tamperMember, holds, ← Part.tamperMember]

theorem handCauses_sameRecords (c : CauseSet) (u : Part) : u.SameRecords (u.handCauses c) :=
  ⟨fun _ h => handCauses_record h c u, (handCauses_bypass c u).record⟩

theorem evaluateTamper_sameRecords (u : Part) : u.SameRecords u.evaluateTamper :=
  ⟨fun _ h => evaluateTamper_record h u, (evaluateTamper_bypass u).record⟩

theorem evaluateTamper_derived (u : Part) : u.evaluateTamper.derived = u.derived :=
  derived_of_core u.evaluateTamper_core

/-- Behind an evaluation the member is what the records then ask. -/
theorem evaluateTamper_member (u : Part) :
    u.evaluateTamper.supply.causes.tamper = u.evaluateTamper.tamperMember := by
  rw [u.evaluateTamper_sameRecords.tamperMember u.evaluateTamper_derived, evaluateTamper, handCauses_causes]

theorem evaluateTamper_kind {k : NoticeKind} (h : k ≠ .supplyPending) (h' : k ≠ .awaitingConfirm) (u : Part) :
    u.KeepsKind k u.evaluateTamper := by
  have member : u.KeepsKind k { u with tamper := { u.tamper with member := u.tamperMember } } := .of_eq k rfl rfl
  exact member.trans (handCauses_kind h h' _ _)

/-! ### A cause becomes present (R136) -/

theorem presentEvidence_eq (c : TamperCause) (u : Part) :
    u.presentEvidence c =
      ((if u.policy c = .record then u.journal (.tamperPresent c (u.tamperRecord c).count (u.policy c))
        else (u.journal (.tamperPresent c (u.tamperRecord c).count (u.policy c))).place
          (.tamperRaised c (u.tamperRecord c).count (u.policy c) (u.tamperRecord c).last)).evaluateTamper).requestCheckpoint
        .tamper := rfl

/-- The entry, the notice and the checkpoint of a cause that becomes present, and TAMPER as R139 evaluates it. -/
structure PresentEvident (c : TamperCause) (u v : Part) : Prop where
  requested : v.Requested .tamper
  placed : u.policy c ≠ .record →
    v.Placed (.tamperRaised c (u.tamperRecord c).count (u.policy c) (u.tamperRecord c).last)
  journaled : u.store.journal.length < 8 →
    v.Journaled (u.entryNow (.tamperPresent c (u.tamperRecord c).count (u.policy c)))
  member : v.supply.causes.tamper = v.tamperMember

theorem presentEvidence_evident (c : TamperCause) (u : Part) : u.PresentEvident c (u.presentEvidence c) := by
  let noted : Part :=
    if u.policy c = .record then u.journal (.tamperPresent c (u.tamperRecord c).count (u.policy c))
    else (u.journal (.tamperPresent c (u.tamperRecord c).count (u.policy c))).place
      (.tamperRaised c (u.tamperRecord c).count (u.policy c) (u.tamperRecord c).last)
  have asked : noted.evaluateTamper.SameRecords (noted.evaluateTamper.requestCheckpoint .tamper) := by
    have same := tamperRecord_congr (requestCheckpoint_tamper .tamper noted.evaluateTamper)
    exact ⟨fun d _ => same d, .inl (same .bypass)⟩
  refine ⟨requestCheckpoint_requested .tamper _, fun raised => ?_, fun room => ?_, ?_⟩
  · rw [presentEvidence_eq, if_neg raised]
    refine (requestCheckpoint_kind _ .tamper _).placed ((evaluateTamper_kind ?_ ?_ _).placed (place_placed _ _))
    · simp [Notice.kind]
    · simp [Notice.kind]
  · have entry := journal_journaled (d := .tamperPresent c (u.tamperRecord c).count (u.policy c)) room
    have written : noted.Journaled (u.entryNow (.tamperPresent c (u.tamperRecord c).count (u.policy c))) := by
      simp only [noted]
      split
      · exact entry
      · exact (place_evidence 0 _ _).journaled _ entry
    exact (requestCheckpoint_evidence .tamper _).journaled _ ((evaluateTamper_evidence _).journaled _ written)
  · have member := noted.evaluateTamper_member
    rw [← asked.tamperMember (requestCheckpoint_derived .tamper _)] at member
    have causes := congrArg (fun x : Supply => x.causes.tamper) (requestCheckpoint_supply .tamper noted.evaluateTamper)
    exact causes.trans member

theorem presentEvidence_bypass (c : TamperCause) (u : Part) : u.EndsBypass 1 (u.presentEvidence c) := by
  have journal (d : JournalDetail) : u.EndsBypass 1 (u.journal d) :=
    .of_record (tamperRecord_congr (journal_tamper _ _) _) (journal_evidence d u).length (journal_run d u)
      (congrArg Tamper.buffer (journal_tamper d u))
  have asked (v : Part) : v.EndsBypass 0 (v.requestCheckpoint .tamper) :=
    .of_record (tamperRecord_congr (requestCheckpoint_tamper _ _) _) (requestCheckpoint_evidence .tamper v).length
      (requestCheckpoint_run .tamper v) (congrArg Tamper.buffer (requestCheckpoint_tamper .tamper v))
  rw [presentEvidence_eq]
  refine EndsBypass.andThen (EndsBypass.andThen ?_ (evaluateTamper_bypass _)) (asked _)
  exact .ite (journal _) ((journal _).andThen (place_bypass _ _))

theorem becomePresent_of_away {c : TamperCause} {u : Part} (away : causeCover c = none ∨ u.onBattery = false) :
    u.becomePresent c = (u.putRecord c ((u.tamperRecord c).presented u.stamp)).presentEvidence c := by
  have on (r : TamperRecord) : (u.putRecord c r).onBattery = u.onBattery := by simp [onBattery]
  unfold becomePresent
  dsimp only
  cases cover : causeCover c with
  | none => rfl
  | some k =>
    have main : u.onBattery = false := away.resolve_left (by simp [cover])
    simp [on, main]

theorem becomePresent_of_battery {c : TamperCause} {k : Cover} {u : Part} (cover : causeCover c = some k)
    (battery : u.onBattery = true) :
    u.becomePresent c = (u.putRecord c ((u.tamperRecord c).presented u.stamp)).presentOnBattery k := by
  have on (r : TamperRecord) : (u.putRecord c r).onBattery = u.onBattery := by simp [onBattery]
  unfold becomePresent
  simp [cover, on, battery]

/-- What a cause leaves that becomes present away from the battery event buffer. -/
theorem becomePresent_evident {c : TamperCause} {u : Part} (away : causeCover c = none ∨ u.onBattery = false) :
    let count := min 65535 ((u.tamperRecord c).count + 1)
    (u.becomePresent c).Requested .tamper ∧
      (u.policy c ≠ .record → (u.becomePresent c).Placed (.tamperRaised c count (u.policy c) (some u.stamp))) ∧
      (u.store.journal.length < 8 → (u.becomePresent c).Journaled (u.entryNow (.tamperPresent c count (u.policy c)))) ∧
      (u.becomePresent c).supply.causes.tamper = (u.becomePresent c).tamperMember := by
  intro count
  let put := u.putRecord c ((u.tamperRecord c).presented u.stamp)
  have policy : put.policy c = u.policy c := policy_of_derived (derived_of_core (putRecord_core _ _ u)) c
  have record : put.tamperRecord c = (u.tamperRecord c).presented u.stamp := putRecord_self _ _ _
  have entry (d : JournalDetail) : put.entryNow d = u.entryNow d := entryNow_of_core (putRecord_core _ _ u) d
  obtain ⟨requested, placed, journaled, member⟩ := put.presentEvidence_evident c
  rw [policy, record] at placed
  rw [policy, record, entry] at journaled
  rw [becomePresent_of_away away]
  exact ⟨requested, placed, fun room => journaled (lt_of_le_of_lt (putRecord_evidence 0 _ _ u).length room), member⟩

theorem becomePresent_bypass {c : TamperCause} {u : Part} (other : c ≠ .bypass)
    (away : causeCover c = none ∨ u.onBattery = false) : u.EndsBypass 1 (u.becomePresent c) := by
  have put : u.EndsBypass 0 (u.putRecord c ((u.tamperRecord c).presented u.stamp)) :=
    .of_record (putRecord_other other.symm _ _) (putRecord_evidence 0 _ _ u).length (putRecord_run _ _ u)
      (putRecord_buffer _ _ u)
  rw [becomePresent_of_away away]
  exact put.trans (presentEvidence_bypass c _)

/-! ### A condition arises (R135, R141) -/

theorem setCondition_of_same {c : TamperCause} {b : Bool} {u : Part} (same : u.condition c = b) : u.setCondition c b = u :=
  if_pos same

theorem setCondition_true {c : TamperCause} {u : Part} (absent : u.condition c = false) :
    u.setCondition c true = u.conditionArises c := by
  simp [setCondition, absent]

theorem setCondition_false {c : TamperCause} {u : Part} (present : u.condition c = true) :
    u.setCondition c false =
      if (u.conditionEnds c).mainOn then (u.conditionEnds c).evaluateTamper else u.conditionEnds c := by
  simp [setCondition, present]

/-- The part in which the condition of a cause is noted and nothing else has moved. -/
def conditionNoted (c : TamperCause) (u : Part) : Part := u.putRecord c { u.tamperRecord c with condition := true }

theorem conditionNoted_record (c : TamperCause) (u : Part) :
    (u.conditionNoted c).tamperRecord c = { u.tamperRecord c with condition := true } := putRecord_self _ _ _

theorem conditionNoted_core (c : TamperCause) (u : Part) : (u.conditionNoted c).core = u.core := putRecord_core _ _ _

theorem conditionNoted_bypass {c : TamperCause} (other : c ≠ .bypass) (u : Part) : u.EndsBypass 0 (u.conditionNoted c) :=
  .of_record (putRecord_other other.symm _ _) (putRecord_evidence 0 _ _ u).length (putRecord_run _ _ u)
    (putRecord_buffer _ _ u)

theorem conditionArises_of_dropped {c : TamperCause} {u : Part} (failing : u.power = .failing)
    (dropped : droppedAtPfw c = true) : u.conditionArises c = u.conditionNoted c := by
  simp [conditionArises, conditionNoted, failing, dropped]

section
variable {c : TamperCause} {u : Part} (kept : ¬ (u.power = .failing ∧ droppedAtPfw c = true))
include kept

theorem conditionArises_of_pending {prior : Bool} (state : (u.tamperRecord c).state = .pending prior) :
    u.conditionArises c = u.conditionNoted c := by
  simp [conditionArises, conditionNoted, kept, state]

theorem conditionArises_of_present (state : (u.tamperRecord c).state = .present) :
    u.conditionArises c =
      (u.conditionNoted c).putRecord c { u.tamperRecord c with condition := true, timer := none } := by
  simp [conditionArises, conditionNoted, kept, state]

theorem conditionArises_of_settled (state : (u.tamperRecord c).state = .quiet ∨ (u.tamperRecord c).state = .latchedAbsent) :
    u.conditionArises c =
      (u.conditionNoted c).enterPending c (decide ((u.tamperRecord c).state = .latchedAbsent)) := by
  rcases state with state | state <;> simp [conditionArises, conditionNoted, kept, state]

/-- A cause with a debounce waits for it. -/
theorem conditionArises_of_debounce (debounced : c.hasDebounce = true)
    (state : (u.tamperRecord c).state = .quiet ∨ (u.tamperRecord c).state = .latchedAbsent) :
    u.conditionArises c =
      (u.conditionNoted c).putRecord c
        { u.tamperRecord c with
          condition := true, state := .pending (decide ((u.tamperRecord c).state = .latchedAbsent)),
          timer := some (u.timeBase + debounceTicks c) } := by
  have time : (u.conditionNoted c).timeBase = u.timeBase := by simp [conditionNoted]
  rw [conditionArises_of_settled kept state, enterPending, conditionNoted_record, time]
  exact if_pos debounced

/-- A cause without one becomes present in the same event. -/
theorem conditionArises_of_immediate (immediate : c.hasDebounce = false)
    (state : (u.tamperRecord c).state = .quiet ∨ (u.tamperRecord c).state = .latchedAbsent) :
    u.conditionArises c = (u.conditionNoted c).becomePresent c := by
  rw [conditionArises_of_settled kept state, enterPending]
  exact if_neg (by simp [immediate])

end

/-- A condition that arises, of a cause whose events do not go to the battery event buffer. -/
theorem conditionArises_bypass {c : TamperCause} {u : Part} (other : c ≠ .bypass)
    (away : causeCover c = none ∨ u.onBattery = false) : u.EndsBypass 1 (u.conditionArises c) := by
  have noted := conditionNoted_bypass other u
  have put (r : TamperRecord) : u.EndsBypass 1 ((u.conditionNoted c).putRecord c r) := by
    have again : (u.conditionNoted c).EndsBypass 1 ((u.conditionNoted c).putRecord c r) :=
      .of_record (putRecord_other other.symm _ _) (putRecord_evidence 1 _ _ _).length (putRecord_run _ _ _)
        (putRecord_buffer _ _ _)
    exact noted.trans again
  have noted : u.EndsBypass 1 (u.conditionNoted c) := noted.trans (.refl 1 _)
  by_cases dropped : u.power = .failing ∧ droppedAtPfw c = true
  · rw [conditionArises_of_dropped dropped.1 dropped.2]
    exact noted
  · rcases state : (u.tamperRecord c).state with _ | prior | _ | _
    case pending => rw [conditionArises_of_pending dropped state]; exact noted
    case present => rw [conditionArises_of_present dropped state]; exact put _
    all_goals
      cases debounced : c.hasDebounce with
      | true => rw [conditionArises_of_debounce dropped debounced (by simp [state])]; exact put _
      | false =>
        rw [conditionArises_of_immediate dropped debounced (by simp [state])]
        have on : (u.conditionNoted c).onBattery = u.onBattery := by simp [conditionNoted, onBattery]
        exact (conditionNoted_bypass other u).trans (becomePresent_bypass other (by rw [on]; exact away))

/-- The evidence of a cause that becomes present in the event of its condition. -/
theorem conditionArises_evident {c : TamperCause} {u : Part} (kept : ¬ (u.power = .failing ∧ droppedAtPfw c = true))
    (immediate : c.hasDebounce = false) (cover : causeCover c = none) (other : c ≠ .bypass)
    (state : (u.tamperRecord c).state = .quiet ∨ (u.tamperRecord c).state = .latchedAbsent) :
    let r := u.tamperRecord c
    let count := min 65535 (r.count + 1)
    (u.conditionArises c).tamperRecord c =
      { r with
        condition := true, state := .present, count := count, first := some (r.first.getD u.stamp), last := some u.stamp,
        timer := none } ∧
    (u.conditionArises c).Requested .tamper ∧
    (u.policy c ≠ .record → (u.conditionArises c).Placed (.tamperRaised c count (u.policy c) (some u.stamp))) ∧
    (u.store.journal.length < 8 →
      (u.conditionArises c).Journaled (u.entryNow (.tamperPresent c count (u.policy c)))) := by
  intro r count
  have derived := derived_of_core (u.conditionNoted_core c)
  have policy := policy_of_derived derived c
  have stamp : (u.conditionNoted c).stamp = u.stamp := by rw [stamp, stamp, clock_of_derived derived]
  have entry (d : JournalDetail) := entryNow_of_core (u.conditionNoted_core c) d
  have record := u.conditionNoted_record c
  have evident := becomePresent_evident (u := u.conditionNoted c) (.inl cover)
  rw [record, policy, stamp] at evident
  obtain ⟨requested, placed, journaled, -⟩ := evident
  rw [conditionArises_of_immediate kept immediate state]
  refine ⟨?_, requested, placed, fun fits => ?_⟩
  · rw [becomePresent_self other, record, stamp]
    simp [cover, TamperRecord.presented, r, count]
  · rw [entry] at journaled
    exact journaled (lt_of_le_of_lt (putRecord_evidence 0 _ _ u).length fits)

end Part

end Sys2Proof.Machine
end

section
/-! The tamper records move (R133, R135 to R137, R141 to R143). Settles O49. -/

namespace Sys2Proof.Machine

/-! ### Records -/

/-- The record of a timed condition that arises before PFW (R135). -/
def TamperRecord.arisen (r : TamperRecord) (deadline : Nat) : TamperRecord :=
  match r.state with
  | .quiet => { r with condition := true, state := .pending false, timer := some deadline }
  | .latchedAbsent => { r with condition := true, state := .pending true, timer := some deadline }
  | .pending _ => { r with condition := true }
  | .present => { r with condition := true, timer := none }

namespace Part

theorem conditionArises_timed {c : TamperCause} {u : Part} (kept : ¬ (u.power = .failing ∧ droppedAtPfw c = true))
    (debounced : c.hasDebounce = true) :
    (u.conditionArises c).tamperRecord c = (u.tamperRecord c).arisen (u.timeBase + debounceTicks c) := by
  unfold TamperRecord.arisen
  rcases state : (u.tamperRecord c).state with _ | prior | _ | _
  case quiet =>
    rw [conditionArises_of_debounce kept debounced (.inl state), putRecord_self]
    simp [state]
  case pending =>
    rw [conditionArises_of_pending kept state, conditionNoted_record]
    simp [state]
  case present =>
    rw [conditionArises_of_present kept state, putRecord_self]
    simp [state]
  case latchedAbsent =>
    rw [conditionArises_of_debounce kept debounced (.inr state), putRecord_self]
    simp [state]

theorem setCondition_false_record {c : TamperCause} {u : Part} (other : c ≠ .bypass) (present : u.condition c = true) :
    (u.setCondition c false).tamperRecord c =
      (u.tamperRecord c).ended (if c.hasRelease then some (u.timeBase + debounceTicks c) else none) := by
  rw [setCondition_false present]
  split
  · rw [evaluateTamper_record other, conditionEnds_self]
  · exact conditionEnds_self c u

/-! ### The battery event buffer (R142, R143) -/

/-- The buffer behind an event that finds it at this length. -/
def bufferedWith (k : Cover) (opened : Bool) (u : Part) : List BatteryEvent :=
  if 4 ≤ u.tamper.buffer.length then u.tamper.buffer
  else u.tamper.buffer ++
    [{ cover := k, opened := opened, time := u.stamp, count := (u.tamperRecord (coverCause k)).count }]

theorem bufferEvent_buffer (k : Cover) (opened : Bool) (u : Part) :
    (u.bufferEvent k opened).tamper.buffer = u.bufferedWith k opened := by
  unfold bufferEvent bufferedWith
  split <;> rfl

theorem presentOnBattery_battery (k : Cover) (u : Part) :
    (u.presentOnBattery k).checkpointDue = true ∧ (u.presentOnBattery k).tamper.buffer = u.bufferedWith k true := by
  let raised := u.putRecord (coverCause k) { u.tamperRecord (coverCause k) with raisedOnBattery := true }
  let noted := (raised.bufferEvent k true).markDue
  have stamp : raised.stamp = u.stamp := by simp [raised, Part.stamp]
  have record : raised.tamperRecord (coverCause k) = { u.tamperRecord (coverCause k) with raisedOnBattery := true } :=
    putRecord_self _ _ _
  have count : (raised.tamperRecord (coverCause k)).count = (u.tamperRecord (coverCause k)).count := by rw [record]
  have buffer : noted.tamper.buffer = u.bufferedWith k true := by
    refine (bufferEvent_buffer k true raised).trans ?_
    rw [bufferedWith, bufferedWith, stamp, count, show raised.tamper.buffer = u.tamper.buffer from putRecord_buffer _ _ _]
  have evaluated : u.presentOnBattery k = if noted.mainOn then noted.evaluateTamper else noted := rfl
  rw [evaluated]
  split
  · have kept := evaluateTamper_bypass noted
    exact ⟨kept.keeps.due rfl, kept.buffer.trans buffer⟩
  · exact ⟨rfl, buffer⟩

/-- A cover that becomes present on battery sets the checkpoint-due flag and enters the buffer while it has room. -/
theorem becomePresent_battery {c : TamperCause} {k : Cover} {u : Part} (cover : causeCover c = some k)
    (battery : u.onBattery = true) :
    (u.becomePresent c).checkpointDue = true ∧
      (u.becomePresent c).tamper.buffer =
        if 4 ≤ u.tamper.buffer.length then u.tamper.buffer
        else u.tamper.buffer ++
          [{ cover := k, opened := true, time := u.stamp, count := min 65535 ((u.tamperRecord c).count + 1) }] := by
  let put := u.putRecord c ((u.tamperRecord c).presented u.stamp)
  have same := coverCause_of_causeCover cover
  have stamp : put.stamp = u.stamp := by simp [put, Part.stamp]
  have count : (put.tamperRecord (coverCause k)).count = min 65535 ((u.tamperRecord c).count + 1) := by
    rw [same, show put.tamperRecord c = (u.tamperRecord c).presented u.stamp from putRecord_self _ _ _]
    rfl
  have buffer := putRecord_buffer c ((u.tamperRecord c).presented u.stamp) u
  obtain ⟨due, buffered⟩ := put.presentOnBattery_battery k
  rw [becomePresent_of_battery cover battery]
  refine ⟨due, buffered.trans ?_⟩
  rw [bufferedWith, stamp, count, show put.tamper.buffer = u.tamper.buffer from buffer]

/-- The record of a cause that becomes present, away from the buffer and on battery (R136, R142). -/
theorem becomePresent_record {c : TamperCause} {u : Part} (other : c ≠ .bypass)
    (away : causeCover c = none ∨ u.onBattery = false) :
    (u.becomePresent c).tamperRecord c = (u.tamperRecord c).presented u.stamp := by
  have plain : ((causeCover c).isSome && u.onBattery) = false := by
    rcases away with cover | main
    · simp [cover]
    · simp [main]
  rw [becomePresent_self other, plain]
  rfl

theorem becomePresent_record_battery {c : TamperCause} {u : Part} (other : c ≠ .bypass)
    (cover : (causeCover c).isSome = true) (battery : u.onBattery = true) :
    (u.becomePresent c).tamperRecord c = { (u.tamperRecord c).presented u.stamp with raisedOnBattery := true } := by
  rw [becomePresent_self other, cover, battery]
  rfl

/-! ### A record becomes LATCHED_ABSENT (R137) -/

/-- A record whose carried form stands moves alone (R134). -/
theorem putRecord_of_carried {c : TamperCause} {r : TamperRecord} {u : Part} (same : (u.tamperRecord c).carried = r.carried) :
    u.putRecord c r =
      { u with tamper := { u.tamper with
          records := u.tamper.records.set (causeIndex c).val r (causeIndex c).isLt } } := by
  rw [putRecord, same, bne_self_eq_false]
  rfl

/-- The part in which a PRESENT record has become LATCHED_ABSENT, without the evidence of it. -/
def latchedAbsentPut (c : TamperCause) (u : Part) : Part :=
  u.putRecord c { u.tamperRecord c with state := .latchedAbsent, timer := none }

theorem conditionNoted_eq (c : TamperCause) (u : Part) :
    u.conditionNoted c =
      { u with tamper := { u.tamper with
          records := u.tamper.records.set (causeIndex c).val { u.tamperRecord c with condition := true }
            (causeIndex c).isLt } } :=
  putRecord_of_carried rfl

theorem latchedAbsentPut_record (c : TamperCause) (u : Part) :
    (u.latchedAbsentPut c).tamperRecord c = { u.tamperRecord c with state := .latchedAbsent, timer := none } :=
  putRecord_self _ _ _

theorem latchedAbsentPut_core (c : TamperCause) (u : Part) : (u.latchedAbsentPut c).core = u.core := putRecord_core _ _ _

theorem becomeAbsent_eq (c : TamperCause) (u : Part) : u.becomeAbsent c = (u.latchedAbsentPut c).absentEvidence c := rfl

/-- The evidence of the main domain at work is a journal entry. -/
theorem absentEvidence_of_entry {c : TamperCause} {u : Part}
    (entry : (causeCover c = none ∧ u.mainOn = true) ∨ ((causeCover c).isSome = true ∧ u.onBattery = false)) :
    u.absentEvidence c = u.journal (.tamperAbsent c (u.tamperRecord c).count) := by
  unfold absentEvidence
  dsimp only
  rcases entry with ⟨cover, on⟩ | ⟨cover, main⟩
  · rw [cover]
    exact if_pos on
  · obtain ⟨k, cover⟩ := Option.isSome_iff_exists.mp cover
    rw [cover]
    exact if_neg (by simp [main])

theorem becomeAbsent_of_entry {c : TamperCause} {u : Part}
    (entry : (causeCover c = none ∧ u.mainOn = true) ∨ ((causeCover c).isSome = true ∧ u.onBattery = false)) :
    u.becomeAbsent c = (u.latchedAbsentPut c).journal (.tamperAbsent c (u.tamperRecord c).count) := by
  have power : (u.latchedAbsentPut c).power = u.power := by simp [latchedAbsentPut]
  have count : ((u.latchedAbsentPut c).tamperRecord c).count = (u.tamperRecord c).count := by
    rw [latchedAbsentPut_record]
  rw [becomeAbsent_eq, absentEvidence_of_entry (by simpa only [mainOn, onBattery, power] using entry), count]

theorem becomeAbsent_journaled {c : TamperCause} {u : Part}
    (entry : (causeCover c = none ∧ u.mainOn = true) ∨ ((causeCover c).isSome = true ∧ u.onBattery = false))
    (room : u.store.journal.length < 8) :
    (u.becomeAbsent c).Journaled (u.entryNow (.tamperAbsent c (u.tamperRecord c).count)) := by
  have written := journal_journaled (d := .tamperAbsent c (u.tamperRecord c).count) (u := u.latchedAbsentPut c)
    (lt_of_le_of_lt (putRecord_evidence 0 _ _ u).length room)
  rw [entryNow_of_core (u.latchedAbsentPut_core c)] at written
  rw [becomeAbsent_of_entry entry]
  exact written

/-- A full queue takes no entry, and the record's own move sets no flag (R159; log 65). -/
theorem becomeAbsent_of_full {c : TamperCause} {u : Part} (present : (u.tamperRecord c).state = .present)
    (entry : (causeCover c = none ∧ u.mainOn = true) ∨ ((causeCover c).isSome = true ∧ u.onBattery = false))
    (full : 8 ≤ u.store.journal.length) :
    (u.becomeAbsent c).store = u.store ∧ (u.becomeAbsent c).checkpointDue = u.checkpointDue := by
  have unmarked : u.latchedAbsentPut c =
      { u with tamper := { u.tamper with
          records := u.tamper.records.set (causeIndex c).val
            { u.tamperRecord c with state := .latchedAbsent, timer := none } (causeIndex c).isLt } } := by
    have carried : (u.tamperRecord c).carried =
        ({ u.tamperRecord c with state := .latchedAbsent, timer := none } : TamperRecord).carried := by
      simp [TamperRecord.carried, RecordState.latched, present]
    exact putRecord_of_carried carried
  have discarded : (u.latchedAbsentPut c).journal (.tamperAbsent c (u.tamperRecord c).count) = u.latchedAbsentPut c := by
    rw [journal, submitJournal, unmarked]
    exact if_pos full
  rw [becomeAbsent_of_entry entry, discarded, unmarked]
  exact ⟨rfl, rfl⟩

/-- The end of a condition without a release time, of a record that is PRESENT. -/
theorem conditionEnds_of_present {c : TamperCause} {u : Part} (present : (u.tamperRecord c).state = .present)
    (release : c.hasRelease = false) :
    u.conditionEnds c = (u.putRecord c { u.tamperRecord c with condition := false }).becomeAbsent c := by
  simp [conditionEnds, present, release]

theorem setCondition_false_journaled {c : TamperCause} {u : Part} (holds : u.condition c = true)
    (present : (u.tamperRecord c).state = .present) (release : c.hasRelease = false) (cover : causeCover c = none)
    (on : u.mainOn = true) (room : u.store.journal.length < 8) :
    (u.setCondition c false).Journaled (u.entryNow (.tamperAbsent c (u.tamperRecord c).count)) := by
  let put := u.putRecord c { u.tamperRecord c with condition := false }
  have power : put.power = u.power := by simp [put]
  have record : put.tamperRecord c = { u.tamperRecord c with condition := false } := putRecord_self _ _ _
  have written := put.becomeAbsent_journaled (c := c) (.inl ⟨cover, by rw [mainOn, power]; exact on⟩)
    (lt_of_le_of_lt (putRecord_evidence 0 _ _ u).length room)
  rw [entryNow_of_core (show put.core = u.core from putRecord_core _ _ u), record,
    ← conditionEnds_of_present present release] at written
  rw [setCondition_false holds]
  split
  · exact (evaluateTamper_evidence _).journaled _ written
  · exact written

theorem becomeAbsent_buffer {c : TamperCause} {k : Cover} {u : Part} (cover : causeCover c = some k)
    (battery : u.onBattery = true) : (u.becomeAbsent c).tamper.buffer = u.bufferedWith k false := by
  have same := coverCause_of_causeCover cover
  have on : (u.latchedAbsentPut c).onBattery = true := by
    rw [← battery]
    simp [latchedAbsentPut, onBattery]
  have stamp : (u.latchedAbsentPut c).stamp = u.stamp := by simp [latchedAbsentPut, Part.stamp]
  have count : ((u.latchedAbsentPut c).tamperRecord (coverCause k)).count = (u.tamperRecord (coverCause k)).count := by
    rw [same, latchedAbsentPut_record]
  have evidence : (u.latchedAbsentPut c).absentEvidence c = ((u.latchedAbsentPut c).bufferEvent k false).markDue := by
    unfold absentEvidence
    dsimp only
    rw [cover]
    exact if_pos on
  rw [becomeAbsent_eq, evidence]
  refine (bufferEvent_buffer k false _).trans ?_
  rw [bufferedWith, bufferedWith, stamp, count,
    show (u.latchedAbsentPut c).tamper.buffer = u.tamper.buffer from putRecord_buffer _ _ _]

/-! ### The debounce and release times (R136, R137) -/

theorem debounceExpires_eq {c : TamperCause} {prior : Bool} {t : Nat} {u : Part}
    (state : (u.tamperRecord c).state = .pending prior) (timer : (u.tamperRecord c).timer = some t)
    (holds : (u.tamperRecord c).condition = true) (timed : u.timesCause c = true) :
    u.debounceExpires c = u.becomePresent c := by
  simp [debounceExpires, state, timer, holds, timed]

theorem releaseExpires_eq {c : TamperCause} {t : Nat} {u : Part} (state : (u.tamperRecord c).state = .present)
    (timer : (u.tamperRecord c).timer = some t) (absent : (u.tamperRecord c).condition = false)
    (timed : u.timesCause c = true) : u.releaseExpires c = u.becomeAbsent c := by
  simp [releaseExpires, state, timer, absent, timed]

theorem onBattery_iff (u : Part) : u.onBattery = true ↔ u.power = .stopped ∨ u.power = .failing := by simp [onBattery]

end Part

/-- A cause that another block hands on. -/
theorem handedOn {c : TamperCause} (cover : ¬ (c = .terminalCover ∨ c = .mainCover)) (magnetic : c ≠ .magnetic)
    (bypass : c ≠ .bypass) :
    causeCover c = none ∧ c.hasRelease = false ∧
      (c.hasDebounce = true ↔ c = .metrologySilent ∨ c = .neutralMissing) ∧
      (droppedAtPfw c = true ↔ c = .metrologySilent ∨ c = .neutralMissing) := by
  cases c
  case terminalCover => exact absurd (.inl rfl) cover
  case mainCover => exact absurd (.inr rfl) cover
  case magnetic => exact absurd rfl magnetic
  case bypass => exact absurd rfl bypass
  all_goals decide

/-- Settles O49: each event through the lemma of the operation that it runs. -/
theorem tamperRecordsMove : Obligations.TamperRecordsMove := by
  intro s u moved isCover onBattery room
  have arisen (r : TamperRecord) (ticks : Nat) : moved r true ticks = r.arisen (u.timeBase + ticks) := by
    simp only [moved, TamperRecord.arisen]
    cases r.state <;> rfl
  have released (r : TamperRecord) (ticks : Nat) : moved r false ticks = r.ended (some (u.timeBase + ticks)) := by
    simp only [moved, TamperRecord.ended]
    cases r.state <;> rfl
  refine ⟨fun cover opened => ?cover, fun field => ?magnet, fun c arises uncovered magnetic bypass changes powered => ?handed,
    fun c prior t debounced timely state timer holds powered => ?debounce,
    fun c t release state timer absent powered timely => ?release⟩
  case cover =>
    intro c inputs
    let w : Part := { u with inputs := inputs }
    have timed : c ≠ .bypass ∧ c.hasDebounce = true ∧ c.hasRelease = true ∧ droppedAtPfw c = false ∧ debounceTicks c = 1639 := by
      cases cover <;> decide
    obtain ⟨bypass, debounced, release, kept, ticks⟩ := timed
    have effect : exec (.coverSwitchChange cover opened) s = .next (s.becomes (w.setCondition c opened)) := by
      rw [exec_eq]
      cases cover <;> rfl
    refine ⟨fun same => ?_, fun changes => ⟨_, effect, Part.setCondition_core _ _ w, ?_,
      fun d other noBypass => Part.setCondition_other noBypass other opened w⟩⟩
    · rw [effect, Part.setCondition_of_same (u := w) same]
    · cases opened with
      | true =>
        rw [Part.setCondition_true (u := w) (eq_false_of_ne_true changes),
          Part.conditionArises_timed (u := w) (by simp [kept]) debounced, arisen, ticks]
        rfl
      | false =>
        rw [Part.setCondition_false_record (u := w) bypass (eq_true_of_ne_false changes), release, released, ticks]
        rfl
  case magnet =>
    intro inputs
    let w : Part := { u with inputs := inputs }
    have ticks : debounceTicks .magnetic = 65536 := by decide
    have working (on : u.power ≠ .stopped) :
        exec (.magneticSensorChange field) s = .next (s.becomes (w.setCondition .magnetic field)) := by
      have main : w.mainOn = true := w.mainOn_iff.mpr on
      have effect : s.part.magnetChanges field = w.setCondition .magnetic field := if_pos main
      rw [exec_eq, effectOf, effect]
    refine ⟨fun still => ?_, fun changes powered => ?_, fun absent failing present => ?_⟩
    · by_cases stopped : u.power = .stopped
      · have effect : s.part.magnetChanges field = w := if_neg (by simp [stopped, u])
        rw [exec_eq, effectOf, effect]
      · rw [working stopped, Part.setCondition_of_same (u := w) (still.resolve_right stopped)]
    · have on : u.power ≠ .stopped := by rcases powered with running | ⟨failing, -⟩ <;> simp [*]
      refine ⟨_, working on, Part.setCondition_core _ _ w, ?_,
        fun d other noBypass => Part.setCondition_other noBypass other field w⟩
      cases field with
      | true =>
        have running : u.power = .running := powered.resolve_right (by simp)
        rw [Part.setCondition_true (u := w) (eq_false_of_ne_true changes),
          Part.conditionArises_timed (u := w) (by simp [w, running]) rfl, arisen, ticks]
        rfl
      | false =>
        rw [Part.setCondition_false_record (u := w) (by decide) (eq_true_of_ne_false changes), released, ticks]
        rfl
    · subst present
      rw [working (by simp [failing]), Part.setCondition_true (u := w) (eq_false_of_ne_true absent),
        Part.conditionArises_of_dropped (u := w) failing rfl, Part.conditionNoted_eq]
      rfl
  case handed =>
    intro ticks slow v r x
    obtain ⟨cover, release, slowly, dropped⟩ := handedOn uncovered magnetic bypass
    have on : u.mainOn = true := u.mainOn_iff.mpr (by rcases powered with h | h <;> simp [h])
    have rises (h : arises = true) : v = u.conditionArises c := by
      subst h
      exact Part.setCondition_true (eq_false_of_ne_true changes)
    have ends (h : arises = false) : x = r.ended none := by
      subst h
      exact (Part.setCondition_false_record bypass (eq_true_of_ne_false changes)).trans (by rw [release]; rfl)
    refine ⟨Part.setCondition_core _ _ u, fun d other noBypass => Part.setCondition_other noBypass other arises u,
      fun h late running => ?_, fun h late failing => ?_, fun h immediate => ?_, fun h absent => ?_, fun h present => ?_⟩
    · have same : debounceTicks c = ticks := by rcases late with rfl | rfl <;> rfl
      rw [arisen, show x = _ from congrArg (fun w : Part => w.tamperRecord c) (rises h),
        Part.conditionArises_timed (by simp [running]) (slowly.mpr late), same]
    · rw [show x = _ from congrArg (fun w : Part => w.tamperRecord c) (rises h),
        Part.conditionArises_of_dropped failing (dropped.mpr late), Part.conditionNoted_record]
    · have kept : ¬ (u.power = .failing ∧ droppedAtPfw c = true) := fun h => immediate (dropped.mp h.2)
      have fast : c.hasDebounce = false := eq_false_of_ne_true (mt slowly.mp immediate)
      have record : x = (u.conditionArises c).tamperRecord c := congrArg (fun w : Part => w.tamperRecord c) (rises h)
      refine ⟨fun prior state => ?_, fun state => ?_, fun state => ?_⟩
      · rw [record, Part.conditionArises_of_pending kept state, Part.conditionNoted_record]
      · rw [record, Part.conditionArises_of_present kept state, Part.putRecord_self]
      · obtain ⟨self, requested, placed, journaled⟩ := Part.conditionArises_evident kept fast cover bypass state
        rw [record, rises h]
        exact ⟨self, requested, placed, fun room => journaled (room.trans (by decide))⟩
    · rw [ends h]
      simp only [moved, TamperRecord.ended]
      rcases state : r.state with _ | prior | _ | _
      case present => exact absurd state absent
      all_goals rfl
    · refine ⟨?_, fun room => ?_⟩
      · rw [ends h]
        simp only [TamperRecord.ended, present]
      · subst h
        exact Part.setCondition_false_journaled (eq_true_of_ne_false changes) present release cover on (room.trans (by decide))
  case debounce =>
    intro r count
    have timed : u.timesCause c = true := (u.timesCause_iff c).mpr (by
      rcases powered with running | terminal | main
      · exact .inr (.inr (by simp [running]))
      · exact .inl terminal
      · exact .inr (.inl main))
    have bypass : c ≠ .bypass := by
      rintro rfl
      cases debounced
    refine ⟨_, (expire_of_not_mem timely _).trans (congrArg (fun v => Host.Outcome.next (s.becomes v))
      (Part.debounceExpires_eq state timer holds timed)), Part.becomePresent_core c u, fun running => ?_, fun battery => ?_,
      fun d other noBypass => Part.becomePresent_other noBypass other u⟩
    · have away : causeCover c = none ∨ u.onBattery = false := .inr (by simp [Part.onBattery, running])
      obtain ⟨requested, placed, journaled, member⟩ := Part.becomePresent_evident away
      exact ⟨Part.becomePresent_record bypass away, fun raised p => placed raised p (by cases p <;> rfl),
        fun room => journaled (room.trans (by decide)), requested, by rw [member]; exact Part.tamperMember_iff _⟩
    · have covered : isCover c := powered.resolve_left (by rcases battery with h | h <;> simp [h])
      have battery : u.onBattery = true := u.onBattery_iff.mpr battery
      obtain ⟨k, cover⟩ : ∃ k, causeCover c = some k := by
        rcases covered with rfl | rfl
        · exact ⟨.terminal, rfl⟩
        · exact ⟨.main, rfl⟩
      obtain ⟨due, buffer⟩ := Part.becomePresent_battery cover battery
      refine ⟨Part.becomePresent_record_battery bypass (by rw [cover]; rfl) battery, due,
        fun fits => ⟨⟨k, true, u.stamp, count⟩, ?_, coverCause_of_causeCover cover, rfl, rfl, rfl⟩, fun full => ?_⟩
      · rw [buffer, if_neg (Nat.not_le.mpr fits)]
      · rw [buffer, if_pos full]
  case release =>
    have timed : u.timesCause c = true := (u.timesCause_iff c).mpr (by
      rcases powered with on | terminal | main
      · exact .inr (.inr on)
      · exact .inl terminal
      · exact .inr (.inl main))
    have covers (covered : isCover c) : ∃ k, causeCover c = some k := by
      rcases covered with rfl | rfl
      · exact ⟨.terminal, rfl⟩
      · exact ⟨.main, rfl⟩
    have uncovered (h : ¬ isCover c) : causeCover c = none := by
      cases c
      case terminalCover => exact absurd (.inl rfl) h
      case mainCover => exact absurd (.inr rfl) h
      all_goals rfl
    have entry (h : ¬ (isCover c ∧ onBattery)) :
        (causeCover c = none ∧ u.mainOn = true) ∨ ((causeCover c).isSome = true ∧ u.onBattery = false) := by
      by_cases covered : isCover c
      · obtain ⟨k, cover⟩ := covers covered
        exact .inr ⟨by simp [cover], eq_false_of_ne_true fun b => h ⟨covered, u.onBattery_iff.mp b⟩⟩
      · exact .inl ⟨uncovered covered, u.mainOn_iff.mpr (powered.resolve_right covered)⟩
    refine ⟨_, (expire_of_not_mem timely _).trans (congrArg (fun v => Host.Outcome.next (s.becomes v))
      (Part.releaseExpires_eq state timer absent timed)), Part.becomeAbsent_core c u, Part.becomeAbsent_self c u,
      fun covered battery fits => ?_, fun covered battery full => ?_, fun covered battery => ?_,
      fun plain full => Part.becomeAbsent_of_full state (entry plain) full, fun powered room => ?_,
      fun d other => Part.becomeAbsent_other other u⟩
    · obtain ⟨k, cover⟩ := covers covered
      have buffer := Part.becomeAbsent_buffer cover (u.onBattery_iff.mpr battery)
      have same := coverCause_of_causeCover cover
      rw [Part.bufferedWith, if_neg (Nat.not_le.mpr fits)] at buffer
      exact ⟨_, buffer, same, rfl, rfl, by rw [← same]⟩
    · obtain ⟨k, cover⟩ := covers covered
      have buffer := Part.becomeAbsent_buffer cover (u.onBattery_iff.mpr battery)
      rw [Part.bufferedWith, if_pos full] at buffer
      exact buffer
    · obtain ⟨k, cover⟩ := covers covered
      exact Part.becomeAbsent_on_battery state cover (u.onBattery_iff.mpr battery)
    · refine Part.becomeAbsent_journaled (entry fun ⟨covered, battery⟩ => ?_) (room.trans (by decide))
      rcases powered with running | ⟨-, plain⟩
      · rcases battery with h | h <;> simp [running] at h
      · exact plain covered

end Sys2Proof.Machine
end

section
/-! What the operations behind a write's end leave: the tamper records, the failure run and the checkpoint-due flag, and behind
a midnight the engine, the codes and the evidence of what came before. -/

namespace Sys2Proof.Machine

/-- `v` follows from `u` by operations that raise and end no condition but, by a closing, BYPASS, hand on no TAMPER, and
keep the store controller's run. -/
structure Part.Steady (u v : Part) : Prop where
  tamper : v.supply.causes.tamper = u.supply.causes.tamper
  records : u.SameRecords v
  keeps : u.KeepsRun v

namespace Part

namespace Steady

theorem of_kept {u v : Part} (causes : v.supply.causes.tamper = u.supply.causes.tamper) (tamper : v.tamper = u.tamper)
    (keeps : u.KeepsRun v) : u.Steady v := by
  have same := tamperRecord_congr tamper
  exact ⟨causes, ⟨fun d _ => same d, .inl (same .bypass)⟩, keeps⟩

theorem of_eq {u v : Part} (causes : v.supply.causes.tamper = u.supply.causes.tamper) (tamper : v.tamper = u.tamper)
    (writing : v.store.writing = u.store.writing) (array : v.array = u.array) (due : v.checkpointDue = u.checkpointDue) :
    u.Steady v := of_kept causes tamper (.of_eq writing array due)

theorem refl (u : Part) : u.Steady u := of_eq rfl rfl rfl rfl rfl

theorem trans {u v w : Part} (a : u.Steady v) (b : v.Steady w) : u.Steady w :=
  ⟨b.tamper.trans a.tamper, a.records.trans b.records, a.keeps.trans b.keeps⟩

theorem after {u v w : Part} (h : v.Steady w) (causes : v.supply.causes.tamper = u.supply.causes.tamper)
    (tamper : v.tamper = u.tamper) (writing : v.store.writing = u.store.writing) (array : v.array = u.array)
    (due : v.checkpointDue = u.checkpointDue) : u.Steady w := (of_eq causes tamper writing array due).trans h

theorem ite {u v w : Part} {p : Prop} [Decidable p] (a : u.Steady v) (b : u.Steady w) :
    u.Steady (if p then v else w) := by
  split
  · exact a
  · exact b

end Steady

open Part.Steady (of_kept of_eq refl ite)

theorem markDue_steady (u : Part) : u.Steady u.markDue := of_kept rfl rfl (markDue_run u)

theorem markDueIf_steady (b : Bool) (u : Part) : u.Steady (Part.markDueIf b u) :=
  of_kept (by simp) (by simp) (markDueIf_run b u)

theorem requestCheckpoint_steady (r : CheckpointReason) (u : Part) : u.Steady (u.requestCheckpoint r) :=
  of_kept (by simp) (by simp) (requestCheckpoint_run r u)

theorem submitClass2_steady (w : Class2Write) (u : Part) : u.Steady (u.submitClass2 w) :=
  of_kept (by simp) (by simp) (submitClass2_run w u)

theorem startNext_steady (u : Part) : u.Steady u.startNext := of_kept (by simp) (by simp) (startNext_run u)

theorem journal_steady (d : JournalDetail) (u : Part) : u.Steady (u.journal d) :=
  of_kept (by simp) (by simp) (journal_run d u)

theorem place_steady (x : Notice) (u : Part) : u.Steady (u.place x) := of_kept (by simp) (by simp) (place_run x u)

theorem placeOn_steady (p : Port) (x : Notice) (u : Part) : u.Steady (u.placeOn p x) := of_eq rfl rfl rfl rfl rfl

theorem putAccount_steady (a : Account) (u : Part) : u.Steady (u.putAccount a) :=
  ite (refl u) ((markDue_steady _).after rfl rfl rfl rfl rfl)

theorem placeWhen_steady (b : Prop) [Decidable b] (x : Notice) (u : Part) : u.Steady (u.placeWhen b x) :=
  ite (place_steady x u) (refl u)

theorem recompute_steady (u : Part) : u.Steady u.recompute :=
  ⟨by rw [recompute_causes], ⟨fun _ h => recompute_record h u, (recompute_bypass u).record⟩,
    (recompute_bypass u).keeps⟩

theorem handCauses_steady {c : CauseSet} {u : Part} (tamper : c.tamper = u.supply.causes.tamper) :
    u.Steady (u.handCauses c) :=
  ⟨by rw [handCauses_causes, tamper], handCauses_sameRecords c u, (handCauses_bypass c u).keeps⟩

theorem creditNotices_steady (a : Account) (u : Part) : u.Steady (u.creditNotices a) := by
  rw [creditNotices_eq]
  exact (((placeWhen_steady _ _ _).trans (placeWhen_steady _ _ _)).trans (placeWhen_steady _ _ _)).trans
    (placeWhen_steady _ _ _)

theorem deriveQuietly_steady (u : Part) : u.Steady u.deriveQuietly := by
  unfold deriveQuietly
  dsimp only
  exact (putAccount_steady u.derivedAccount u).trans
    ((creditNotices_steady _ _).after (by rfl) (by rfl) (by rfl) (by rfl) (by rfl))

theorem derive_steady (u : Part) : u.Steady u.derive :=
  ite (deriveQuietly_steady u) ((deriveQuietly_steady u).trans (recompute_steady _))

theorem afterCharge_steady (c : Nat) (u : Part) : u.Steady (u.afterCharge c) := by
  unfold afterCharge
  dsimp only
  cases u.derive.activeBank with
  | none => exact derive_steady u
  | some i => exact ite ((derive_steady u).trans (requestCheckpoint_steady .step _)) (derive_steady u)

theorem standingCharge_steady (c : Nat) (u : Part) : u.Steady (u.standingCharge c) :=
  ite (refl u) ((putAccount_steady _ u).trans (afterCharge_steady c _))

theorem dayCharge_steady (u : Part) : u.Steady u.dayCharge := by
  unfold dayCharge
  cases u.activeBank with
  | none => exact refl u
  | some i => exact standingCharge_steady _ u

theorem closeDay_steady (day : Nat) (u : Part) : u.Steady (u.closeDay day) :=
  (markDue_steady _).after rfl rfl rfl rfl rfl

theorem putLoad_steady (l : Load) (u : Part) : u.Steady (u.putLoad l) := by
  have put := (markDueIf_steady (u.load.limit != l.limit || u.load.extended != l.extended)
    { u with load := l }).after (u := u) rfl rfl rfl rfl rfl
  exact put.trans (handCauses_steady rfl)

theorem finishMidnight_steady (m : Midnight) (u : Part) : u.Steady (u.finishMidnight m) := by
  have charged : u.Steady (if u.tariff.lastStandingDay < m.day then u.dayCharge.closeDay m.day else u) :=
    ite ((dayCharge_steady u).trans (closeDay_steady _ _)) (refl u)
  exact (charged.trans (requestCheckpoint_steady .midnight _)).trans (ite (putLoad_steady _ _) (refl _))

theorem clearMarker_steady (u : Part) : u.Steady u.clearMarker := (markDueIf_steady _ _).after rfl rfl rfl rfl rfl

theorem emptyPending_steady (u : Part) : u.Steady u.emptyPending := (clearMarker_steady _).after rfl rfl rfl rfl rfl

theorem startActivation_steady (origin : ActivationOrigin) (u : Part) : u.Steady (u.startActivation origin) := by
  cases h : u.tariff.pending.fingerprint with
  | none =>
    rw [startActivation, h]
    exact refl u
  | some f =>
    rw [startActivation_eq h]
    have activating : u.Steady (u.activating origin f) := (emptyPending_steady u).trans (of_eq rfl rfl rfl rfl rfl)
    exact activating.trans (submitClass2_steady _ _)

end Part

/-! ### The engine behind a midnight (R64) -/

/-- The engine without the pending bank, the activation and the midnights. -/
def Tariff.engine (t : Tariff) : Tariff :=
  { t with
    lastStandingDay := 0, scheduleMarker := none, pending := .empty, pendingImage := [], activation := none, dayBefore := 0,
    midnight := none, midnightsWaiting := [] }

/-- `v` follows from `u` by operations of a midnight, the start of an activation or the choice of the next attempt: the
active bank, its walk and the codes stand, and the account stays derived. -/
structure Part.KeepsBank (u v : Part) : Prop where
  steady : u.Steady v
  engine : v.tariff.engine = u.tariff.engine
  codes : v.codes = u.codes
  areas : v.array.areas = u.array.areas
  ok : u.AccountDerived → v.AccountDerived
  kinds : ∀ k, k ∉ accountKinds → u.KeepsKind k v

namespace Part

theorem areas_of_derived {u v : Part} (h : v.derived = u.derived) : v.array.areas = u.array.areas := by
  have areas := congrArg Part.array h
  exact areas

theorem activeBank_of_engine {u v : Part} (engine : v.tariff.engine = u.tariff.engine)
    (areas : v.array.areas = u.array.areas) : v.activeBank = u.activeBank := by
  have active := congrArg Tariff.activeArea engine
  have areaA := congrArg NvArray.areaA areas
  have areaB := congrArg NvArray.areaB areas
  exact activeBank_congr active areaA areaB

namespace KeepsBank

theorem refl (u : Part) : u.KeepsBank u :=
  ⟨.refl u, rfl, rfl, rfl, id, fun k _ => .refl k u⟩

theorem trans {u v w : Part} (a : u.KeepsBank v) (b : v.KeepsBank w) : u.KeepsBank w :=
  ⟨a.steady.trans b.steady, b.engine.trans a.engine, b.codes.trans a.codes, b.areas.trans a.areas,
    fun h => b.ok (a.ok h), fun k h => (a.kinds k h).trans (b.kinds k h)⟩

theorem bank {u v : Part} (h : u.KeepsBank v) : v.activeBank = u.activeBank := activeBank_of_engine h.engine h.areas

end KeepsBank

theorem finishMidnight_bank (m : Midnight) (u : Part) : u.KeepsBank (u.finishMidnight m) := by
  have derived := finishMidnight_derived m u
  by_cases day : u.tariff.lastStandingDay < m.day
  · rw [if_pos day] at derived
    have engine := congrArg Tariff.engine (tariff_of_derived derived)
    have codes := codes_of_derived derived
    have areas := areas_of_derived derived
    exact ⟨finishMidnight_steady m u, engine, codes, areas, fun h => h.finishMidnight m, fun k h => finishMidnight_kind h m u⟩
  · rw [if_neg day] at derived
    have engine := congrArg Tariff.engine (tariff_of_derived derived)
    have codes := codes_of_derived derived
    have areas := areas_of_derived derived
    exact ⟨finishMidnight_steady m u, engine, codes, areas, fun h => h.finishMidnight m, fun k h => finishMidnight_kind h m u⟩

theorem putMidnights_bank (m : Option Midnight) (l : List Midnight) (u : Part) :
    u.KeepsBank { u with tariff := { u.tariff with midnight := m, midnightsWaiting := l } } :=
  ⟨.of_eq rfl rfl rfl rfl rfl, rfl, rfl, rfl, fun h => h.putMidnights m l, fun k _ => .of_eq k rfl rfl⟩

theorem clearMarker_kind (k : NoticeKind) (u : Part) : u.KeepsKind k u.clearMarker :=
  (markDueIf_kind k _ _).after rfl rfl

theorem activating_kind (k : NoticeKind) (origin : ActivationOrigin) (f : Nat) (u : Part) :
    u.KeepsKind k (u.activating origin f) := by
  have emptied : u.KeepsKind k u.emptyPending := (clearMarker_kind k _).after rfl rfl
  exact emptied.trans (.of_eq k rfl rfl)

theorem activating_account (origin : ActivationOrigin) (f : Nat) (u : Part) :
    (u.activating origin f).account = u.account ∧ (u.activating origin f).accountCauses = u.accountCauses ∧
      (u.activating origin f).supply = u.supply := by
  unfold activating emptyPending clearMarker markDueIf
  split <;> exact ⟨rfl, rfl, rfl⟩

theorem submitClass2_kind (k : NoticeKind) (w : Class2Write) (u : Part) : u.KeepsKind k (u.submitClass2 w) :=
  .of_sansStore k (by simp)

theorem startActivation_bank (origin : ActivationOrigin) (u : Part) : u.KeepsBank (u.startActivation origin) := by
  cases h : u.tariff.pending.fingerprint with
  | none =>
    rw [startActivation, h]
    exact .refl u
  | some f =>
    have derived := startActivation_derived h origin
    have engine := congrArg Tariff.engine (tariff_of_derived derived)
    have codes := codes_of_derived derived
    have areas := areas_of_derived derived
    refine ⟨startActivation_steady origin u, engine, codes, areas, fun ok => ?_,
      fun k _ => ?_⟩
    · have friendly := congrArg Tariff.friendly engine
      have bank := activeBank_of_engine engine areas
      obtain ⟨account, causes, supply⟩ := activating_account origin f u
      rw [startActivation_eq h] at friendly bank ⊢
      refine ok.congr ?_ bank friendly ?_ ?_ ?_
      · rw [submitClass2_money, account]
      · rw [submitClass2_accountCauses, causes]
      · rw [submitClass2_supply, supply]
      · rw [submitClass2_supply, supply]
    · rw [startActivation_eq h]
      exact (activating_kind k origin f u).trans (submitClass2_kind k _ _)

theorem runMidnights_bank (l : List Midnight) (u : Part) : u.KeepsBank (u.runMidnights l) := by
  induction l generalizing u with
  | nil => exact putMidnights_bank none [] u
  | cons m l ih =>
    rw [runMidnights]
    split
    · exact (putMidnights_bank (some m) l u).trans (startActivation_bank .midnight _)
    · exact (finishMidnight_bank m u).trans (ih _)

theorem continueMidnight_bank (origin : ActivationOrigin) (u : Part) : u.KeepsBank (u.continueMidnight origin) := by
  unfold continueMidnight
  split
  · exact (finishMidnight_bank _ u).trans (runMidnights_bank _ _)
  · exact .refl u

/-- A midnight goes on whole when none waits behind it. -/
theorem continueMidnight_of_some {u : Part} {m : Midnight} (midnight : u.tariff.midnight = some m)
    (alone : u.tariff.midnightsWaiting = []) : u.continueMidnight .midnight = u.midnightDone m := by
  simp only [continueMidnight, midnight, alone, runMidnights, midnightDone]

theorem continueMidnight_of_none {u : Part} {origin : ActivationOrigin}
    (still : origin ≠ .midnight ∨ u.tariff.midnight = none) : u.continueMidnight origin = u := by
  unfold continueMidnight
  split
  next m midnight =>
    rcases still with other | none
    · exact absurd rfl other
    · rw [none] at midnight
      cases midnight
  next => rfl

theorem startNext_bank (u : Part) : u.KeepsBank u.startNext := by
  have tariff : u.startNext.tariff = u.tariff := by simp
  have areas : u.startNext.array.areas = u.array.areas := by
    have areas := congrArg Part.array (startNext_sansStore u)
    exact areas
  refine ⟨startNext_steady u, by rw [tariff], by simp, areas, fun ok => ?_, fun k _ => .of_sansStore k (startNext_sansStore u)⟩
  exact ok.congr (by simp) (activeBank_of_engine (by rw [tariff]) areas) (by rw [tariff]) (by simp) (by simp) (by simp)

end Part

end Sys2Proof.Machine
end

section
/-! The end of a write attempt (R151, R152): the failure run, STORE_FAULT, and what is handed over before the next attempt. -/

namespace Sys2Proof.Machine

namespace Part

/-! ### What is submitted while an attempt is in flight -/

theorem journal_queued {d : JournalDetail} {u : Part} (busy : u.store.inFlight ≠ none) (room : u.store.journal.length < 8) :
    u.entryNow d ∈ (u.journal d).store.journal := by
  have still : u.Still := .inl busy
  rw [journal, submitJournal_of_still still, if_neg (Nat.not_le.mpr room)]
  exact List.mem_append_right _ (List.mem_singleton.mpr rfl)

theorem requestCheckpoint_waits {r : CheckpointReason} {u : Part} (busy : u.store.inFlight ≠ none) :
    (u.requestCheckpoint r).Waits r := by
  rcases u.requestCheckpoint_cases r with ⟨-, eq⟩ | ⟨idle, -, -⟩
  · rw [eq]
    exact ⟨_, rfl, (addReason_holds r r _).mpr (.inl rfl)⟩
  · exact absurd idle busy

/-! ### The next attempt (R151) -/

theorem endAttempt_eq (u : Part) : u.endAttempt = (u.putInFlight none).startNext := rfl

theorem endAttempt_journaled {q : JournalRequest} {u : Part} (queued : q ∈ u.store.journal) : u.endAttempt.Journaled q :=
  (startNext_evidence (u.putInFlight none)).journaled q (.inl queued)

theorem endAttempt_requested {r : CheckpointReason} {u : Part} (waits : u.Waits r) : u.endAttempt.Requested r :=
  (startNext_evidence (u.putInFlight none)).requested r (.inl waits)

theorem endAttempt_codes (u : Part) : u.endAttempt.codes = u.codes := by simp [endAttempt_eq, putInFlight]

theorem endAttempt_notices (u : Part) : u.endAttempt.notices = u.notices := by simp [endAttempt_eq, putInFlight]

theorem endAttempt_tamper (u : Part) : u.endAttempt.tamper = u.tamper := by simp [endAttempt_eq, putInFlight]

theorem endAttempt_run (u : Part) : u.endAttempt.store.failureRun = u.store.failureRun :=
  (startNext_run (u.putInFlight none)).run

theorem endAttempt_due {u : Part} (due : u.checkpointDue = true) : u.endAttempt.checkpointDue = true :=
  (startNext_run (u.putInFlight none)).due due

theorem endAttempt_core (u : Part) : u.endAttempt.core = u.core := by
  have kept := core_of_sansStore (startNext_sansStore (u.putInFlight none))
  exact kept

theorem endAttempt_condition (c : TamperCause) (u : Part) : u.endAttempt.condition c = u.condition c :=
  condition_of_record (tamperRecord_congr u.endAttempt_tamper c)

theorem holds_of_notices {u v : Part} (same : v.notices = u.notices) {p : Port} {x : Notice} (h : u.Holds p x) :
    v.Holds p x := by
  rw [Holds, same]
  exact h

theorem KeepsKind.holds {k : NoticeKind} {u v : Part} {p : Port} {x : Notice} (h : u.KeepsKind k v) (kind : x.kind = k)
    (held : u.Holds p x) : v.Holds p x := by
  subst kind
  obtain ⟨y, pending, same⟩ := held
  exact ⟨y, (h.none p).trans pending, same⟩

/-! ### STORE_FAULT (R152) -/

/-- STORE_FAULT takes no time to become present, with a warning in every bank (R135, R138). -/
theorem storeFault_arisen {u : Part} (absent : u.condition .storeFault = false) :
    u.StoreFaultArisen (u.setCondition .storeFault true) := by
  have kept : ¬ (u.power = .failing ∧ droppedAtPfw .storeFault = true) := fun h => by cases h.2
  refine ⟨setCondition_core _ _ u, setCondition_condition (by decide) true u, fun state => ?_⟩
  have evident := conditionArises_evident kept rfl rfl (by decide) state
  rw [setCondition_true absent]
  obtain ⟨self, requested, placed, journaled⟩ := evident
  exact ⟨self, requested, placed (by simp [policy]), journaled⟩

theorem storeFault_bypass (u : Part) : u.EndsBypass 1 (u.setCondition .storeFault true) := by
  cases holds : u.condition .storeFault with
  | true => rw [setCondition_of_same holds]; exact .refl 1 u
  | false => rw [setCondition_true holds]; exact conditionArises_bypass (by decide) (.inl rfl)

/-- The failure run behind one more failure. -/
def failedOnce (u : Part) : Part := u.setFailureRun (min 255 (u.store.failureRun + 1))

theorem failedOnce_condition (c : TamperCause) (u : Part) : u.failedOnce.condition c = u.condition c := rfl

/-- A first failure, and a failure while STORE_FAULT is present, counts alone. -/
theorem noteFailure_of_still {u : Part} (still : u.store.failureRun = 0 ∨ u.condition .storeFault = true) :
    u.noteFailure = u.failedOnce := by
  refine if_neg ?_
  rcases still with zero | present
  · simp [zero]
  · have present : (u.setFailureRun (min 255 (u.store.failureRun + 1))).condition .storeFault = true := present
    simp [present]

theorem noteFailure_of_arisen {u : Part} (run : 1 ≤ u.store.failureRun) (absent : u.condition .storeFault = false) :
    u.noteFailure = u.failedOnce.setCondition .storeFault true := by
  refine if_pos ?_
  have absent : (u.setFailureRun (min 255 (u.store.failureRun + 1))).condition .storeFault = false := absent
  have two : 2 ≤ min 255 (u.store.failureRun + 1) := by omega
  simp [absent, two]

theorem noteFailure_cases (u : Part) :
    u.noteFailure = u.failedOnce ∨ u.noteFailure = u.failedOnce.setCondition .storeFault true := by
  by_cases still : u.store.failureRun = 0 ∨ u.condition .storeFault = true
  · exact .inl (noteFailure_of_still still)
  · obtain ⟨run, absent⟩ := not_or.mp still
    exact .inr (noteFailure_of_arisen (Nat.one_le_iff_ne_zero.mpr run) (eq_false_of_ne_true absent))

theorem noteFailure_core (u : Part) : u.noteFailure.core = u.core := by
  rcases u.noteFailure_cases with eq | eq
  · rw [eq]; rfl
  · rw [eq, setCondition_core]; rfl

/-- What a failure leaves besides the run that it raises. -/
theorem noteFailure_bypass (u : Part) : u.failedOnce.EndsBypass 1 u.noteFailure := by
  rcases u.noteFailure_cases with eq | eq
  · rw [eq]; exact .refl 1 _
  · rw [eq]; exact storeFault_bypass _

theorem noteFailure_run (u : Part) : u.noteFailure.store.failureRun = min 255 (u.store.failureRun + 1) :=
  (noteFailure_bypass u).keeps.run

theorem noteFailure_condition {u : Part} (run : 1 ≤ u.store.failureRun) : u.noteFailure.condition .storeFault = true := by
  cases holds : u.condition .storeFault with
  | true => rw [noteFailure_of_still (.inr holds)]; exact holds
  | false => rw [noteFailure_of_arisen run holds]; exact setCondition_condition (by decide) true _

section
variable {k : NoticeKind} (raised : k ≠ .tamperRaised) (pending : k ≠ .supplyPending) (confirm : k ≠ .awaitingConfirm)
include raised pending confirm

theorem presentEvidence_kind (c : TamperCause) (u : Part) : u.KeepsKind k (u.presentEvidence c) := by
  have noted (d : JournalDetail) := journal_kind k d u
  rw [presentEvidence_eq]
  refine KeepsKind.trans (KeepsKind.trans ?_ (evaluateTamper_kind pending confirm _)) (requestCheckpoint_kind k .tamper _)
  exact .ite (fun _ => noted _) fun _ => (noted _).trans (place_kind (by exact raised.symm) _)

theorem storeFault_kind (u : Part) : u.KeepsKind k (u.setCondition .storeFault true) := by
  have kept : ¬ (u.power = .failing ∧ droppedAtPfw .storeFault = true) := fun h => by cases h.2
  have noted : u.KeepsKind k (u.conditionNoted .storeFault) := putRecord_kind k _ _ u
  have presents (v : Part) : v.KeepsKind k (v.becomePresent .storeFault) := by
    rw [becomePresent_of_away (.inl rfl)]
    exact (putRecord_kind k _ _ v).trans (presentEvidence_kind raised pending confirm _ _)
  cases holds : u.condition .storeFault with
  | true => rw [setCondition_of_same holds]; exact .refl k u
  | false =>
    rw [setCondition_true holds]
    rcases state : (u.tamperRecord .storeFault).state with _ | prior | _ | _
    case pending => rw [conditionArises_of_pending kept state]; exact noted
    case present => rw [conditionArises_of_present kept state]; exact noted.trans (putRecord_kind k _ _ _)
    case quiet => rw [conditionArises_of_immediate kept rfl (.inl state)]; exact noted.trans (presents _)
    case latchedAbsent => rw [conditionArises_of_immediate kept rfl (.inr state)]; exact noted.trans (presents _)

theorem noteFailure_kind (u : Part) : u.KeepsKind k u.noteFailure := by
  have counted : u.KeepsKind k u.failedOnce := .of_eq k rfl rfl
  rcases u.noteFailure_cases with eq | eq
  · rw [eq]; exact counted
  · rw [eq]; exact counted.trans (storeFault_kind raised pending confirm _)

end

/-! ### The code that a checkpoint served (R90) -/

theorem endCommit_of_commit {u : Part} {code : DecodedCode} {split : Option TopUpSplit}
    (head : u.codes.head = some (.commit code split)) (stored : Bool) :
    u.endCommit stored =
      u.settleHead (if stored then .accepted else .acceptedStoreFault) (some code)
        (split.map (fun x => (x, u.account.balance))) := by
  simp only [endCommit, head]

theorem endCommit_of_other {u : Part} (head : ∀ code split, u.codes.head ≠ some (.commit code split)) (stored : Bool) :
    u.endCommit stored = u := by
  unfold endCommit
  split
  next code split same => exact absurd same (head code split)
  all_goals rfl

/-- The queue behind its head, whose screening begins with the slots and MID as they stand (R77, R78). -/
def queueLeft (rest : List CodeEntry) (serials : Serials) (u : Part) : Codes :=
  { u.codes with
    serials := serials, queue := rest,
    head := if rest = [] then none else some (.screening u.codes.slots u.config.live.mid) }

section
variable {u : Part} {e : CodeEntry} {rest : List CodeEntry} (queue : u.codes.queue = e :: rest)
include queue

theorem settleHead_eq (result : CodeResult) (code : Option DecodedCode) (credit : Option (TopUpSplit × Int)) :
    u.settleHead result code credit =
      { u.placeOn e.port (.codeResult result code credit) with codes := u.queueLeft rest u.codes.serials } :=
  settleHead_of_queue queue result code credit

theorem settleHead_holds (result : CodeResult) (code : Option DecodedCode) (credit : Option (TopUpSplit × Int)) :
    (u.settleHead result code credit).Holds e.port (.codeResult result code credit) := by
  rw [settleHead_eq queue]
  exact placeOn_holds e.port (.codeResult result code credit) u

theorem settleHead_codes (result : CodeResult) (code : Option DecodedCode) (credit : Option (TopUpSplit × Int)) :
    (u.settleHead result code credit).codes = u.queueLeft rest u.codes.serials := by rw [settleHead_eq queue]

end

/-- A settled head moves the codes and its own notice alone. -/
theorem settleHead_steady (result : CodeResult) (code : Option DecodedCode) (credit : Option (TopUpSplit × Int)) (u : Part) :
    u.Steady (u.settleHead result code credit) := by
  cases queue : u.codes.queue with
  | nil => simp only [settleHead, queue]; exact .refl u
  | cons e rest => rw [settleHead_eq queue]; exact .of_eq rfl rfl rfl rfl rfl

theorem settleHead_kind {k : NoticeKind} (other : k ≠ .codeResult) (result : CodeResult) (code : Option DecodedCode)
    (credit : Option (TopUpSplit × Int)) (u : Part) : u.KeepsKind k (u.settleHead result code credit) := by
  cases queue : u.codes.queue with
  | nil => simp only [settleHead, queue]; exact .refl k u
  | cons e rest =>
    rw [settleHead_eq queue]
    have placed := placeOn_kind (x := .codeResult result code credit) (by simpa [Notice.kind] using other.symm) e.port u
    exact placed.trans (.of_eq k rfl rfl)

theorem settleHead_core (result : CodeResult) (code : Option DecodedCode) (credit : Option (TopUpSplit × Int)) (u : Part) :
    (u.settleHead result code credit).core = ({ u with codes := (u.settleHead result code credit).codes } : Part).core := by
  cases queue : u.codes.queue with
  | nil => simp only [settleHead, queue]
  | cons e rest => rw [settleHead_eq queue]; rfl

theorem endCommit_steady (stored : Bool) (u : Part) : u.Steady (u.endCommit stored) := by
  unfold endCommit
  split
  · exact settleHead_steady _ _ _ u
  all_goals exact .refl u

end Part

end Sys2Proof.Machine
end

section
/-! What the state at reset holds. -/

namespace Sys2Proof.Machine

/-- Settles O60: the reset state is concrete, so each field is what it evaluates to. -/
theorem resetIsANewPart : Obligations.ResetIsANewPart := by
  unfold Obligations.ResetIsANewPart
  have quiet : ∀ c : TamperCause, (State.reset.part.tamperRecord c).state = .quiet ∧
      (State.reset.part.tamperRecord c).count = 0 ∧ State.reset.part.condition c = false := by
    intro c
    cases c <;> exact ⟨rfl, rfl, rfl⟩
  have unloaded : ∀ slot, (State.reset.part.config.live.keys.get slot).loaded = false := by decide
  have blankLog : ∀ slot ∈ State.reset.part.array.log.toList, slot = Slot.blank := by
    intro slot h
    exact List.eq_of_mem_replicate h
  have blankJournal : ∀ slot ∈ State.reset.part.array.journal.toList, slot = Slot.blank := by
    intro slot h
    exact List.eq_of_mem_replicate h
  refine ⟨rfl, rfl, rfl, rfl, rfl, rfl, rfl, rfl, rfl, rfl, rfl, rfl, rfl, rfl, rfl, rfl, rfl, rfl, rfl, rfl, rfl, rfl,
    rfl, quiet, rfl, rfl, blankLog, blankJournal, rfl, rfl, rfl, rfl, rfl, rfl, rfl, rfl, rfl, rfl, rfl, rfl, rfl, unloaded,
    ?_, ?_, ?_, ?_, ?_, ?_⟩
  · decide
  · exact ⟨rfl, fun r h => absurd (blankLog _ h) (by simp), fun c h => nomatch h⟩
  · exact ⟨fun h => absurd h (by decide), fun h => absurd h (by decide)⟩
  · refine ⟨fun p => ?_, by decide, fun _ => ⟨fun p => ?_, rfl, rfl⟩⟩ <;> cases p <;> rfl
  · rfl
  · exact ⟨by decide, trivial, fun x h => absurd h (List.not_mem_nil)⟩
end Sys2Proof.Machine
end

section
/-! The notice controller: levels and routing, details, placing, fetching and completing (R178 to R182). -/

namespace Sys2Proof.Machine

/-! ### What a pending set lists -/

theorem NoticePort.mem_listed {n : NoticePort} {x : PendingNotice} :
    x ∈ n.listed ↔ ∃ i : Fin 15, n.pending.get i = some x := by
  simp only [NoticePort.listed, List.mem_filterMap, id_eq, exists_eq_right, Vector.mem_toList_iff, Vector.mem_iff_getElem]
  exact ⟨fun ⟨i, h, eq⟩ => ⟨⟨i, h⟩, eq⟩, fun ⟨i, eq⟩ => ⟨i.val, i.isLt, eq⟩⟩

theorem NoticePort.calls_iff {n : NoticePort} :
    n.calls = true ↔ ∃ (i : Fin 15) (x : PendingNotice), n.pending.get i = some x ∧ n.inService.highest < x.level := by
  simp only [NoticePort.calls, List.any_eq_true, mem_listed, NoticePort.eligible, decide_eq_true_eq]
  exact ⟨fun ⟨x, ⟨i, eq⟩, h⟩ => ⟨i, x, eq, h⟩, fun ⟨i, x, eq, h⟩ => ⟨x, ⟨i, eq⟩, h⟩⟩

/-- The pending notices of the lower kind numbers, and those of the higher ones. -/
def NoticePort.listedBefore (n : NoticePort) (i : Fin 15) : List PendingNotice := (n.pending.toList.take i).filterMap id

def NoticePort.listedBehind (n : NoticePort) (i : Fin 15) : List PendingNotice :=
  (n.pending.toList.drop (i + 1)).filterMap id

theorem NoticePort.listed_of_get {n : NoticePort} {i : Fin 15} {x : PendingNotice} (at_i : n.pending.get i = some x) :
    n.listed = n.listedBefore i ++ x :: n.listedBehind i := by
  have hi : i.val < n.pending.toList.length := by simp
  have get_i : n.pending.toList[i.val] = some x := at_i
  have whole : n.pending.toList = n.pending.toList.take i ++ some x :: n.pending.toList.drop (i + 1) := by
    rw [← get_i, List.cons_getElem_drop_succ, List.take_append_drop]
  calc n.listed = (n.pending.toList.take i ++ some x :: n.pending.toList.drop (i + 1)).filterMap id := by
        rw [← whole, NoticePort.listed]
    _ = _ := by rw [List.filterMap_append, show (some x :: n.pending.toList.drop (i + 1)).filterMap id = x :: n.listedBehind i from rfl]; rfl

theorem NoticePort.exists_of_mem_before {n : NoticePort} {i : Fin 15} {y : PendingNotice} (h : y ∈ n.listedBefore i) :
    ∃ j : Fin 15, j < i ∧ n.pending.get j = some y := by
  simp only [listedBefore, List.mem_filterMap, id_eq, exists_eq_right, List.mem_take_iff_getElem] at h
  obtain ⟨j, hj, eq⟩ := h
  have lt : j < i.val := lt_of_lt_of_le hj (min_le_left _ _)
  exact ⟨⟨j, lt_trans lt i.isLt⟩, lt, eq⟩

theorem NoticePort.exists_of_mem_behind {n : NoticePort} {i : Fin 15} {y : PendingNotice} (h : y ∈ n.listedBehind i) :
    ∃ j : Fin 15, n.pending.get j = some y := by
  obtain ⟨a, ha, eq⟩ := List.mem_filterMap.mp h
  exact NoticePort.mem_listed.mp (List.mem_filterMap.mpr ⟨a, List.mem_of_mem_drop ha, eq⟩)

/-! ### The choice of a notice -/

theorem foldl_better_of_le {x : PendingNotice} {l : List PendingNotice} (le : ∀ y ∈ l, y.level ≤ x.level) :
    l.foldl (fun best y => some (betterNotice best y)) (some x) = some x := by
  induction l with
  | nil => rfl
  | cons y l ih =>
    have keeps : betterNotice (some x) y = x := if_neg (by have := le y (by simp); omega)
    rw [List.foldl_cons, keeps, ih (fun z hz => le z (by simp [hz]))]

theorem foldl_better_lt {x : PendingNotice} {l : List PendingNotice} (lt : ∀ y ∈ l, y.level < x.level)
    {best : Option PendingNotice} (first : ∀ y, best = some y → y.level < x.level) :
    ∀ y, l.foldl (fun best y => some (betterNotice best y)) best = some y → y.level < x.level := by
  induction l generalizing best with
  | nil => exact first
  | cons z l ih =>
    refine ih (fun y hy => lt y (by simp [hy])) fun y eq => ?_
    have hz := lt z (by simp)
    cases best with
    | none => cases eq; exact hz
    | some b =>
      have hb := first b rfl
      by_cases h : b.level < z.level
      · simp only [betterNotice, h, if_true] at eq; cases eq; exact hz
      · simp only [betterNotice, h, if_false] at eq; cases eq; exact hb

theorem betterNotice_of_lt {x : PendingNotice} {best : Option PendingNotice} (h : ∀ y, best = some y → y.level < x.level) :
    betterNotice best x = x := by
  cases best with
  | none => rfl
  | some y => exact if_pos (h y rfl)

/-- The chosen notice is the eligible one of the highest level with the lowest kind number. -/
theorem NoticePort.choice_of_best {n : NoticePort} {i : Fin 15} {x : PendingNotice} (at_i : n.pending.get i = some x)
    (eligible : n.inService.highest < x.level)
    (best : ∀ (j : Fin 15) (y : PendingNotice), n.pending.get j = some y →
      y.level < x.level ∨ (y.level = x.level ∧ i ≤ j)) : n.choice = some x := by
  have lt : ∀ y ∈ (n.listedBefore i).filter n.eligible, y.level < x.level := by
    intro y hy
    obtain ⟨j, hj, eq⟩ := exists_of_mem_before (List.mem_of_mem_filter hy)
    rcases best j y eq with h | ⟨_, h⟩
    · exact h
    · omega
  have le : ∀ y ∈ (n.listedBehind i).filter n.eligible, y.level ≤ x.level := by
    intro y hy
    obtain ⟨j, eq⟩ := exists_of_mem_behind (List.mem_of_mem_filter hy)
    rcases best j y eq with h | ⟨h, _⟩ <;> omega
  have passes : n.eligible x = true := decide_eq_true eligible
  rw [NoticePort.choice, listed_of_get at_i, List.filter_append, List.filter_cons_of_pos passes, List.foldl_append, List.foldl_cons,
    betterNotice_of_lt (foldl_better_lt lt (fun y h => by cases h)), foldl_better_of_le le]

theorem NoticePort.choice_of_none {n : NoticePort}
    (none : ∀ (i : Fin 15) (x : PendingNotice), n.pending.get i = some x → x.level ≤ n.inService.highest) :
    n.choice = Option.none := by
  have empty : n.listed.filter n.eligible = [] := by
    refine List.filter_eq_nil_iff.mpr fun x hx => ?_
    obtain ⟨i, eq⟩ := NoticePort.mem_listed.mp hx
    have := none i x eq
    simp only [NoticePort.eligible, decide_eq_true_eq]
    omega
  rw [NoticePort.choice, empty]
  rfl

theorem NoticePort.size_handOut {n : NoticePort} {i : Fin 15} {x : PendingNotice} (at_i : n.pending.get i = some x)
    (kind : kindIndex x.notice.kind = i) : (n.handOut x).size = n.size - 1 := by
  have left : (n.handOut x).listed = n.listedBefore i ++ n.listedBehind i := by
    simp only [NoticePort.listed, NoticePort.handOut, kind, Vector.toList_set, listedBefore, listedBehind]
    rw [List.set_eq_take_append_cons_drop, if_pos (by simp), List.filterMap_append, List.filterMap_cons_none rfl]
  rw [NoticePort.size, NoticePort.size, left, listed_of_get at_i, List.length_append, List.length_append,
    List.length_cons]
  omega

/-! ### The details and the levels -/

theorem toBytes_one (v : Nat) : toBytes 1 v = [BitVec.ofNat 8 v] := by simp [toBytes]

theorem Levels.dropHighest_eq (l : Levels) : l.dropHighest =
    if l.four then ⟨l.one, l.two, l.three, false⟩
    else if l.three then ⟨l.one, l.two, false, false⟩
    else if l.two then ⟨l.one, false, false, false⟩
    else ⟨false, false, false, false⟩ := by
  obtain ⟨one, two, three, four⟩ := l
  cases four <;> cases three <;> cases two <;> rfl

theorem Levels.dropHighest_highest (l : Levels) : l.dropHighest.highest =
    if l.dropHighest.three then 3 else if l.dropHighest.two then 2 else if l.dropHighest.one then 1 else 0 := by
  have four : l.dropHighest.four = false := by
    obtain ⟨one, two, three, four⟩ := l
    cases four <;> cases three <;> cases two <;> rfl
  simp [Levels.highest, four]

theorem Part.fetchNotice_of_none {p : Port} {u : Part} (h : (u.notices.get p).choice = none) :
    u.fetchNotice p = (u, { status := 0x0B, fields := toBytes 1 (u.notices.get p).size }) := by
  simp only [Part.fetchNotice, h]
  rfl

theorem Part.fetchNotice_of_some {p : Port} {u : Part} {x : PendingNotice} (h : (u.notices.get p).choice = some x) :
    u.fetchNotice p = (u.putNotices p ((u.notices.get p).handOut x),
      { status := 0x00, fields := noticeFields x ((u.notices.get p).handOut x).size }) := by
  simp only [Part.fetchNotice, h]
  rfl

theorem Part.fetchNotice_of_best {p : Port} {u : Part} {i : Fin 15} {x : PendingNotice}
    (at_i : (u.notices.get p).pending.get i = some x) (kind : kindIndex x.notice.kind = i)
    (eligible : (u.notices.get p).inService.highest < x.level)
    (best : ∀ (j : Fin 15) (y : PendingNotice), (u.notices.get p).pending.get j = some y →
      y.level < x.level ∨ (y.level = x.level ∧ i ≤ j)) :
    u.fetchNotice p = (u.putNotices p
        { pending := (u.notices.get p).pending.set i.val none i.isLt, inService := (u.notices.get p).inService.enter x.level },
      { status := 0x00,
        fields := toBytes 1 (i.val + 1) ++ toBytes 1 x.level ++ toBytes 1 x.count ++ toBytes 1 x.notice.detail.length ++
          x.notice.detail ++ toBytes 1 ((u.notices.get p).size - 1) }) := by
  rw [Part.fetchNotice_of_some (NoticePort.choice_of_best at_i eligible best), NoticePort.size_handOut at_i kind]
  subst kind
  rfl

/-- The levels that stay in service, and the highest of them (R182). -/
theorem Part.noticeDone_eq (p : Port) (u : Part) :
    u.noticeDone p =
      let l := (u.notices.get p).inService
      let left : Levels :=
        if l.four then ⟨l.one, l.two, l.three, false⟩
        else if l.three then ⟨l.one, l.two, false, false⟩
        else if l.two then ⟨l.one, false, false, false⟩
        else ⟨false, false, false, false⟩
      (u.putNotices p { u.notices.get p with inService := left },
        { status := 0x00, fields := toBytes 1 (if left.three then 3 else if left.two then 2 else if left.one then 1 else 0) })
    := by
  dsimp only
  rw [← Levels.dropHighest_eq, ← Levels.dropHighest_highest]
  rfl

/-- Settles O44: the notice controller's definitions read off, and the choice of the notice handed out. -/
theorem noticesArePlacedFetchedAndDone : Obligations.NoticesArePlacedFetchedAndDone := by
  refine ⟨fun c => ⟨rfl, rfl, rfl, rfl, rfl, ?_, rfl, rfl, rfl, rfl, ?_⟩, ?_, fun u x => rfl, fun n => NoticePort.calls_iff,
    fun l => ⟨rfl, rfl, rfl, rfl, rfl⟩, fun u p x => rfl, ?_, ?_⟩
  · simp [ConfigItems.levelOf]
  · simp [ConfigItems.routingOf]
  · intro x
    cases x with
    | tamperRaised cause count policy last =>
      rcases last with _ | (_ | _) <;> rfl
    | codeResult result code credit =>
      rcases code with _ | _ <;> rcases credit with _ | _ <;> rfl
    | loadTrip estimate limit hold entries lockout => rcases lockout with _ | _ <;> rfl
    | awaitingConfirm record => exact (toBytes_one _).symm
    | _ => rfl
  · intro s p hunting
    have request {v : Part} {r : Reply} := exec_effect (k := .fetchNotice) (b := []) (v := v) (r := r) hunting (by simp) rfl rfl
    exact ⟨fun none => request (Part.fetchNotice_of_none (NoticePort.choice_of_none none)),
      fun i x at_i kind eligible best => request (Part.fetchNotice_of_best at_i kind eligible best)⟩
  · intro s p hunting
    exact exec_effect (k := .noticeDone) hunting (by simp) rfl rfl (Part.noticeDone_eq _ _)

end Sys2Proof.Machine
end

section
/-! Configuration writes: the items of the table, the live copy and the links judged at once (R173, R185, R186, R190). -/

namespace Sys2Proof.Machine

/-! ### The table of R190 -/

/-- The item numbers of CONFIG_WRITE, each with its item and the range of R185. -/
def itemTable : List (Nat × ConfigItem × Nat × Nat) :=
  [(1, .mid, 0, 4294967295), (2, .pulseWeight, 125, 10000), (3, .pmax, 1000, 150000), (4, .importOnly, 0, 1),
   (5, .relayDelay, 0, 9999), (6, .pulseWidth, 20, 200), (7, .settleTime, 50, 500), (8, .nm, 1, 5), (9, .nk, 2, 8),
   (10, .mh, 0, 5), (11, .participants, 0, 3), (20, .level .awaitingConfirm, 1, 4),
   (22, .level .creditExhausted, 1, 4), (23, .level .creditLow, 1, 4), (24, .level .ecAvailable, 1, 4),
   (25, .level .friendlyChanged, 1, 4), (26, .level .loadTrip, 1, 4), (27, .level .tariffChanged, 1, 4),
   (28, .level .clockAdjusted, 1, 4), (29, .level .bankReopened, 1, 4), (30, .level .journalAdded, 1, 4),
   (36, .routing .awaitingConfirm, 0, 7), (38, .routing .creditExhausted, 0, 7), (39, .routing .creditLow, 0, 7),
   (40, .routing .ecAvailable, 0, 7), (41, .routing .friendlyChanged, 0, 7), (42, .routing .loadTrip, 0, 7),
   (43, .routing .tariffChanged, 0, 7), (44, .routing .clockAdjusted, 0, 7), (46, .routing .journalAdded, 0, 7)]

theorem levelKind_of_ge {n : Nat} (h : 16 ≤ n) : levelKind n = none := by
  obtain ⟨m, rfl⟩ := Nat.exists_eq_add_of_le' h
  rfl

theorem configItem_of_gt {n : Nat} (h : 46 < n) : configItem n = none := by
  obtain ⟨m, rfl⟩ := Nat.exists_eq_add_of_le' h
  calc configItem (m + 46 + 1) = if 31 < m + 47 then (routingKind (m + 16)).map .routing
        else if 15 < m + 47 then (levelKind (m + 32)).map .level else none := rfl
    _ = none := by rw [if_pos (by omega), routingKind, levelKind_of_ge (by omega), ite_self]; rfl

theorem configItem_of_mem : ∀ row ∈ itemTable, configItem row.1 = some row.2.1 := by decide

theorem exists_mem_of_configItem : ∀ n < 47, ∀ item ∈ configItem n, ∃ row ∈ itemTable, row.1 = n ∧ row.2.1 = item := by
  decide

theorem configItem_iff (number : Nat) (item : ConfigItem) :
    configItem number = some item ↔ ∃ low high, (number, item, low, high) ∈ itemTable := by
  constructor
  · intro named
    have small : number < 47 := by
      by_contra large
      rw [configItem_of_gt (by omega)] at named
      cases named
    obtain ⟨⟨n, i, low, high⟩, mem, rfl, rfl⟩ := exists_mem_of_configItem number small item named
    exact ⟨low, high, mem⟩
  · rintro ⟨low, high, mem⟩
    exact configItem_of_mem _ mem

/-- The range of an item (R185); a key slot has none. -/
def itemBounds : ConfigItem → Nat × Nat
  | .mid => (0, 4294967295)
  | .pulseWeight => (125, 10000)
  | .pmax => (1000, 150000)
  | .importOnly => (0, 1)
  | .relayDelay => (0, 9999)
  | .pulseWidth => (20, 200)
  | .settleTime => (50, 500)
  | .nm => (1, 5)
  | .nk => (2, 8)
  | .mh => (0, 5)
  | .participants => (0, 3)
  | .level _ => (1, 4)
  | .routing _ => (0, 7)
  | .key _ => (1, 0)

theorem itemBounds_of_mem : ∀ row ∈ itemTable, row.2.2 = itemBounds row.2.1 := by decide

theorem itemRange_iff (item : ConfigItem) (value : Nat) :
    itemRange item value = true ↔ (itemBounds item).1 ≤ value ∧ value ≤ (itemBounds item).2 := by
  cases item <;> simp [itemRange, itemBounds, within]
  all_goals omega

/-! ### The links judged at once (R173) -/

theorem Part.judgeLink_eq (l : Link) (u : Part) :
    u.judgeLink l =
      if (u.links.get l).state ≠ .lost ∧ 4 * u.linkPeriod l ≤ u.silence l then u.loseLink l
      else if (u.links.get l).state = .up ∧ u.linkPeriod l ≤ u.silence l then u.putLinkState l .suspect
      else u := by
  have twice : (u.putLinkState l .suspect).loseLink l = u.loseLink l := by cases l <;> rfl
  have silence : ((u.putLinkState l .suspect).silence l) = u.silence l := by cases l <;> rfl
  have period : ((u.putLinkState l .suspect).linkPeriod l) = u.linkPeriod l := rfl
  have state : ((u.putLinkState l .suspect).links.get l).state = .suspect := by cases l <;> rfl
  unfold Part.judgeLink
  dsimp only
  cases h : (u.links.get l).state with
  | up =>
    by_cases suspect : u.linkPeriod l ≤ u.silence l
    · have due : u.suspectDue l = true := u.suspectDue_iff l |>.mpr ⟨h, suspect⟩
      by_cases lost : 4 * u.linkPeriod l ≤ u.silence l
      · simp [due, Part.lostDue, silence, period, state, lost, twice]
      · simp [due, Part.lostDue, silence, period, state, lost, suspect]
    · have tooLong : ¬ 4 * u.linkPeriod l ≤ u.silence l := by omega
      simp [Part.suspectDue, Part.lostDue, h, suspect, tooLong]
  | suspect => simp [Part.suspectDue, Part.lostDue, h]
  | lost => simp [Part.suspectDue, Part.lostDue, h]

/-- The part once an item has taken a value and its write is handed over (R186). -/
def Part.itemTaken (item : ConfigItem) (value : ConfigValue) (u : Part) : Part :=
  Part.startNext
    { u with
      config := { live := u.config.live.put item value, unstored := if item ∈ u.config.unstored then u.config.unstored
        else u.config.unstored ++ [item] },
      codes := { u.codes with slots := (u.config.live.put item value).keys },
      store := { u.store with class2 := u.store.class2 ++ [.config item value] } }

theorem Configuration.markUnstored_eq (c : Configuration) (item : ConfigItem) :
    c.markUnstored item =
      { c with unstored := if item ∈ c.unstored then c.unstored else c.unstored ++ [item] } := by
  by_cases h : item ∈ c.unstored <;> simp [Configuration.markUnstored, h]

theorem Part.putItem_eq (item : ConfigItem) (value : ConfigValue) (u : Part) :
    u.putItem item value = Part.judgeAfter item (u.itemTaken item value) := by
  simp only [Part.putItem, Configuration.markUnstored_eq]
  rfl

theorem Part.itemTaken_live (item : ConfigItem) (value : ConfigValue) (u : Part) :
    (u.itemTaken item value).config.live = u.config.live.put item value :=
  congrArg Configuration.live (Part.startNext_config _)

/-- The new threshold of a link is the one the link is judged by (R173). -/
theorem Part.judgeAfter_nm (value : Nat) (u : Part) :
    let v := u.itemTaken .nm (.number value)
    Part.judgeAfter .nm v =
      if (v.links.get .m).state ≠ .lost ∧ 4 * Config.milliseconds (250 * 2 ^ value) ≤ v.silence .m then v.loseLink .m
      else if (v.links.get .m).state = .up ∧ Config.milliseconds (250 * 2 ^ value) ≤ v.silence .m then
        v.putLinkState .m .suspect
      else v := by
  intro v
  have period : v.linkPeriod .m = Config.milliseconds (250 * 2 ^ value) := by
    rw [Part.linkPeriod, Part.itemTaken_live]
    rfl
  rw [← period]
  exact Part.judgeLink_eq .m v

theorem Part.judgeAfter_nk (value : Nat) (u : Part) :
    let v := u.itemTaken .nk (.number value)
    Part.judgeAfter .nk v =
      if (v.links.get .k).state ≠ .lost ∧ 4 * Config.milliseconds (250 * 2 ^ value) ≤ v.silence .k then v.loseLink .k
      else if (v.links.get .k).state = .up ∧ Config.milliseconds (250 * 2 ^ value) ≤ v.silence .k then
        v.putLinkState .k .suspect
      else v := by
  intro v
  have period : v.linkPeriod .k = Config.milliseconds (250 * 2 ^ value) := by
    rw [Part.linkPeriod, Part.itemTaken_live]
    rfl
  rw [← period]
  exact Part.judgeLink_eq .k v

theorem Part.configWrite_of_none {u : Part} {b : List Byte} (unknown : configItem (field b 0 1) = none) :
    u.configWrite b = (u, { status := 0x05, fields := [] }) := by
  simp only [Part.configWrite, unknown]
  rfl

theorem Part.configWrite_of_outside {u : Part} {b : List Byte} {item : ConfigItem}
    (named : configItem (field b 0 1) = some item) (outside : itemRange item (field b 1 4) = false) :
    u.configWrite b = (u, { status := 0x05, fields := [] }) := by
  simp only [Part.configWrite, named, outside]
  rfl

theorem Part.configWrite_of_inside {u : Part} {b : List Byte} {item : ConfigItem}
    (named : configItem (field b 0 1) = some item) (inside : itemRange item (field b 1 4) = true) :
    u.configWrite b = u.writeItem item (.number (field b 1 4)) := by
  simp only [Part.configWrite, named, inside]
  rfl

theorem Part.writeItem_of_full {u : Part} {item : ConfigItem} {value : ConfigValue}
    (full : 8 ≤ (u.store.class2.filter Class2Write.isConfig).length) :
    u.writeItem item value = (u, { status := 0x04, fields := [] }) :=
  if_pos (decide_eq_true full)

theorem Part.writeItem_of_room {u : Part} {item : ConfigItem} {value : ConfigValue}
    (room : ¬ 8 ≤ (u.store.class2.filter Class2Write.isConfig).length) :
    u.writeItem item value = (u.putItem item value, { status := 0x00, fields := [] }) :=
  if_neg (by simpa [Part.configQueueFull] using room)

theorem keySlot_of_gt {b : List Byte} (h : 3 < field b 0 1) : keySlot b = none := by
  obtain ⟨m, eq⟩ := Nat.exists_eq_add_of_le' h
  simp only [keySlot, eq]

theorem keySlot_of_eq {b : List Byte} {slot : Fin 4} (h : slot.val = field b 0 1) : keySlot b = some slot := by
  simp only [keySlot, ← h]
  fin_cases slot <;> rfl

theorem Part.loadKey_of_none {u : Part} {b : List Byte} (none : keySlot b = none) :
    u.loadKey b = (u, { status := 0x05, fields := [] }) := by
  simp only [Part.loadKey, none]
  rfl

theorem Part.loadKey_of_some {u : Part} {b : List Byte} {slot : Fin 4} (some : keySlot b = some slot) :
    u.loadKey b = u.writeItem (.key slot) (.keyWords (keyWord b 0) (keyWord b 1) (keyWord b 2) (keyWord b 3)) := by
  simp only [Part.loadKey, some]

/-- Settles O45: the item table, and each request refused or taken, with the links judged after the write. -/
theorem configurationWrites : Obligations.ConfigurationWrites := by
  refine ⟨⟨configItem_iff, ?_, fun c v => ⟨rfl, rfl, rfl, rfl, rfl, rfl, rfl, rfl, rfl, rfl, rfl, fun _ => rfl, fun _ => rfl,
    fun _ _ _ _ _ => rfl⟩⟩, fun s hunting provisioning => ?_⟩
  · intro number item low high value mem
    have bounds := itemBounds_of_mem _ mem
    rw [itemRange_iff, ← bounds]
  intro full taken judged
  refine ⟨fun b hb => ?_, fun b hb => ?_⟩
  · have request {v : Part} {r : Reply} := exec_effect (k := .configWrite) (b := b) (v := v) (r := r) hunting (by omega)
      (by simp [provisioning]; rfl) (by simp [hb]; rfl)
    have whole : field b 1 4 = beNat (b.drop 1) := by
      rw [field, slice, List.take_of_length_le (by simp [hb])]
    refine ⟨fun unknown => request (Part.configWrite_of_none unknown), fun item named => ⟨fun outside => ?_, ?_, ?_⟩⟩
    · exact request (Part.configWrite_of_outside named (by rwa [whole]))
    · intro inside h
      exact request ((Part.configWrite_of_inside named (by rwa [whole])).trans (Part.writeItem_of_full h))
    · intro inside h
      refine (request ((Part.configWrite_of_inside named (by rwa [whole])).trans (Part.writeItem_of_room h))).trans ?_
      rw [whole, Part.putItem_eq]
      cases item with
      | nm => rw [Part.judgeAfter_nm]; rfl
      | nk => rw [Part.judgeAfter_nk]; rfl
      | _ => rfl
  · have request {v : Part} {r : Reply} := exec_effect (k := .loadKey) (b := b) (v := v) (r := r) hunting (by omega)
      (by simp [provisioning]; rfl) (by simp [hb]; rfl)
    refine ⟨fun large => request (Part.loadKey_of_none (keySlot_of_gt large)), fun slot eq => ⟨fun h => ?_, fun h => ?_⟩⟩
    · exact request ((Part.loadKey_of_some (keySlot_of_eq eq)).trans (Part.writeItem_of_full h))
    · refine (request ((Part.loadKey_of_some (keySlot_of_eq eq)).trans (Part.writeItem_of_room h))).trans ?_
      rw [Part.putItem_eq]
      rfl
end Sys2Proof.Machine
end

section
/-! The requests that end provisioning (R61, R155, R187, R188). -/

namespace Sys2Proof.Machine

theorem Part.canActivate_iff (u : Part) : u.canActivate = true ↔
    u.tariff.activation = none ∧ (u.tariff.activeArea = none ∨ u.tariff.areaCarried = true) := by
  simp [Part.canActivate, Part.areaCarried]

theorem PendingState.fingerprint_eq_some {p : PendingState} {f : Nat} :
    p.fingerprint = some f ↔ p = .finished f ∨ p = .scheduled f := by
  cases p <;> simp [PendingState.fingerprint]

theorem PendingState.fingerprint_isSome {p : PendingState} :
    p.fingerprint.isSome = true ↔ ∃ f, p = .finished f ∨ p = .scheduled f := by
  simp only [Option.isSome_iff_exists, PendingState.fingerprint_eq_some]

theorem Part.activating_eq (origin : ActivationOrigin) (f : Nat) (u : Part) :
    u.activating origin f =
      Part.markDueIf u.tariff.scheduleMarker.isSome { u with tariff := u.activationTaken origin f } := by
  rw [Part.activating, Part.emptyPending, Part.clearMarker]
  dsimp only
  cases u.tariff.scheduleMarker.isSome <;> rfl

theorem Part.activateInitialBank_of_ready {u : Part} {f : Nat} (can : u.canActivate = true)
    (held : u.tariff.pending.fingerprint = some f) :
    u.activateInitialBank = (u.startActivation .initial, { status := 0x00, fields := [] }) := by
  simp only [Part.activateInitialBank, can, held]
  rfl

theorem Part.activateInitialBank_of_unready {u : Part}
    (unready : ¬ (u.canActivate = true ∧ u.tariff.pending.fingerprint.isSome = true)) :
    u.activateInitialBank = (u, { status := 0x0C, fields := [] }) :=
  if_neg (by simpa using unready)

theorem Store.writesConfig_iff (t : Store) :
    t.writesConfig = true ↔ ∃ item value retry, t.inFlight = some (.config item value retry) := by
  unfold Store.writesConfig
  split <;> simp_all

theorem Class2Write.any_isConfig {l : List Class2Write} :
    l.any Class2Write.isConfig = true ↔ ∃ item value, Class2Write.config item value ∈ l := by
  rw [List.any_eq_true]
  constructor
  · rintro ⟨w, mem, config⟩
    cases w with
    | bank area image => cases config
    | config item value => exact ⟨item, value, mem⟩
  · rintro ⟨item, value, mem⟩
    exact ⟨_, mem, rfl⟩

/-- The conditions of ENTER_SERVICE (R188). -/
theorem Part.mayEnterService_iff (u : Part) : u.mayEnterService = true ↔
    u.config.live.mid ≠ 0 ∧ (u.config.live.keys.get 0).loaded = true ∧ u.activeBank ≠ none ∧
      u.clock.valid = true ∧ (∀ item value, .config item value ∉ u.store.class2) ∧
      (∀ item value retry, u.store.inFlight ≠ some (.config item value retry)) ∧ u.config.unstored = [] := by
  have waiting : u.store.class2.any Class2Write.isConfig = false ↔ ∀ item value, .config item value ∉ u.store.class2 := by
    rw [← Bool.not_eq_true, Class2Write.any_isConfig]
    simp only [not_exists]
  have writing : u.store.writesConfig = false ↔
      ∀ item value retry, u.store.inFlight ≠ some (.config item value retry) := by
    rw [← Bool.not_eq_true, Store.writesConfig_iff]
    simp only [not_exists, ne_eq]
  simp only [Part.mayEnterService, Bool.and_eq_true, decide_eq_true_eq, Bool.not_eq_true', waiting, writing,
    Option.isSome_iff_ne_none, List.isEmpty_iff, and_assoc]

theorem Part.enterService_of_ready {u : Part} (ready : u.mayEnterService = true) :
    u.enterService = (Part.requestCheckpoint .service (Part.markDue { u with lifecycle := .inService }),
      { status := 0x00, fields := [] }) := if_pos ready

theorem Part.enterService_of_unready {u : Part} (unready : ¬ u.mayEnterService = true) :
    u.enterService = (u, { status := 0x04, fields := [] }) := if_neg unready

/-- Settles O46: each request is accepted under its conditions and otherwise without effect. -/
theorem provisioningEnds : Obligations.ProvisioningEnds := by
  refine ⟨Part.canActivate_iff, fun s hunting provisioning => ⟨⟨fun unready => ?_, fun f can held => ?_⟩,
    ⟨fun ready => ?_, fun unready => ?_⟩⟩⟩
  · refine exec_effect (k := .activateInitialBank) hunting (by simp) (by simp [provisioning]; rfl) rfl
      (Part.activateInitialBank_of_unready fun h => unready ⟨h.1, PendingState.fingerprint_isSome.mp h.2⟩)
  · have fingerprint := PendingState.fingerprint_eq_some.mpr held
    refine exec_effect (k := .activateInitialBank) hunting (by simp) (by simp [provisioning]; rfl) rfl
      ((Part.activateInitialBank_of_ready can fingerprint).trans ?_)
    rw [Part.startActivation_eq fingerprint, Part.activating_eq, Part.activationTaken, Part.newActivation,
      Part.otherArea_eq]
    rfl
  · exact exec_effect (k := .enterService) hunting (by simp) (by simp [provisioning]; rfl) rfl
      (Part.enterService_of_ready (Part.mayEnterService_iff _ |>.mpr ready))
  · exact exec_effect (k := .enterService) hunting (by simp) (by simp [provisioning]; rfl) rfl
      (Part.enterService_of_unready fun h => unready (Part.mayEnterService_iff _ |>.mp h))

end Sys2Proof.Machine
end

section
/-! The reading requests: registers, journal entries and their bytes (R160, R177, R191, R192, R195). -/

namespace Sys2Proof.Machine

/-! ### The lowest entries of the journal (R160) -/

theorem validSlots_get {α : Type} {l : List (Slot α)} {k n : Nat} {x : α} :
    (n, x) ∈ validSlots k l ↔ ∃ i, n = k + i ∧ l[i]? = some (.valid x) := by
  induction l generalizing k with
  | nil => simp [validSlots]
  | cons s l ih =>
    have later : (∃ i, n = k + i ∧ (s :: l)[i]? = some (.valid x)) ↔
        (n = k ∧ s = .valid x) ∨ (n, x) ∈ validSlots (k + 1) l := by
      rw [ih]
      constructor
      · rintro ⟨_ | i, eq, get⟩
        · exact .inl ⟨eq, by simpa using get⟩
        · exact .inr ⟨i, by omega, by simpa using get⟩
      · rintro (⟨eq, get⟩ | ⟨i, eq, get⟩)
        · exact ⟨0, eq, by simp [get]⟩
        · exact ⟨i + 1, by omega, by simpa using get⟩
    rw [later]
    cases s <;> simp [validSlots, eq_comm]

theorem validSlots_nodup {α : Type} (l : List (Slot α)) (k : Nat) : ((validSlots k l).map Prod.fst).Nodup := by
  induction l generalizing k with
  | nil => simp [validSlots]
  | cons s l ih =>
    cases s with
    | valid x =>
      refine List.nodup_cons.mpr ⟨fun h => ?_, ih (k + 1)⟩
      obtain ⟨⟨n, y⟩, mem, eq⟩ := List.mem_map.mp h
      obtain ⟨i, above, _⟩ := validSlots_get.mp mem
      dsimp only at eq
      omega
    | blank => exact ih (k + 1)
    | invalid => exact ih (k + 1)

theorem mem_insertEntry {e x : JournalEntry} {l : List JournalEntry} : x ∈ insertEntry e l ↔ x = e ∨ x ∈ l := by
  induction l with
  | nil => simp [insertEntry]
  | cons y l ih =>
    by_cases h : e.sequence < y.sequence
    · simp [insertEntry, h]
    · simp only [insertEntry, h, if_false, List.mem_cons, ih]
      tauto

theorem pairwise_insertEntry {l : List JournalEntry} (e : JournalEntry)
    (sorted : l.Pairwise (fun x y => x.sequence ≤ y.sequence)) :
    (insertEntry e l).Pairwise (fun x y => x.sequence ≤ y.sequence) := by
  induction l with
  | nil => simp [insertEntry]
  | cons y l ih =>
    obtain ⟨first, rest⟩ := List.pairwise_cons.mp sorted
    by_cases h : e.sequence < y.sequence
    · rw [insertEntry, if_pos h]
      refine List.pairwise_cons.mpr ⟨fun z hz => ?_, sorted⟩
      rcases List.mem_cons.mp hz with rfl | hz
      · exact h.le
      · exact h.le.trans (first z hz)
    · rw [insertEntry, if_neg h]
      refine List.pairwise_cons.mpr ⟨fun z hz => ?_, ih rest⟩
      rcases mem_insertEntry.mp hz with rfl | hz
      · omega
      · exact first z hz

theorem pairwise_foldl_insertEntry (l : List JournalEntry) {acc : List JournalEntry}
    (sorted : acc.Pairwise (fun x y => x.sequence ≤ y.sequence)) :
    (l.foldl (fun l e => insertEntry e l) acc).Pairwise (fun x y => x.sequence ≤ y.sequence) := by
  induction l generalizing acc with
  | nil => exact sorted
  | cons e l ih => exact ih (pairwise_insertEntry e sorted)

/-- An insertion moves no entry away from what it is paired with. -/
theorem insertEntry_paired {α : Type} (p : α × JournalEntry) (ps : List (α × JournalEntry)) :
    ∃ qs : List (α × JournalEntry), qs.Perm (p :: ps) ∧ qs.map Prod.snd = insertEntry p.2 (ps.map Prod.snd) := by
  induction ps with
  | nil => exact ⟨[p], .refl _, rfl⟩
  | cons q ps ih =>
    by_cases h : p.2.sequence < q.2.sequence
    · exact ⟨p :: q :: ps, .refl _, by simp [insertEntry, h]⟩
    · obtain ⟨qs, perm, eq⟩ := ih
      exact ⟨q :: qs, (perm.cons q).trans (.swap _ _ _), by simp [insertEntry, h, eq]⟩

theorem foldl_insertEntry_paired {α : Type} (ps acc : List (α × JournalEntry)) :
    ∃ qs : List (α × JournalEntry), qs.Perm (acc ++ ps) ∧
      qs.map Prod.snd = (ps.map Prod.snd).foldl (fun l e => insertEntry e l) (acc.map Prod.snd) := by
  induction ps generalizing acc with
  | nil => exact ⟨acc, by simp, rfl⟩
  | cons p ps ih =>
    obtain ⟨ins, perm, eq⟩ := insertEntry_paired p acc
    obtain ⟨qs, all, sorted⟩ := ih ins
    refine ⟨qs, all.trans ((perm.append_right ps).trans ?_), by rw [sorted, eq]; rfl⟩
    exact List.perm_middle.symm

/-- The entries from a number on, each with its slot, oldest first. -/
theorem Part.exists_journal_paired (n : Nat) (u : Part) :
    ∃ ps : List (Nat × JournalEntry),
      (ps.take 4).map Prod.snd = u.journalFrom n ∧
      (ps.map Prod.snd).Pairwise (fun x y => x.sequence ≤ y.sequence) ∧ (ps.map Prod.fst).Nodup ∧
      ∀ i e, (i, e) ∈ ps ↔ u.array.journal.toList[i]? = some (.valid e) ∧ n ≤ e.sequence := by
  have filtered : (((validSlots 0 u.array.journal.toList).map Prod.snd).filter (fun e => decide (n ≤ e.sequence))) =
      ((validSlots 0 u.array.journal.toList).filter (fun p => decide (n ≤ p.2.sequence))).map Prod.snd := by
    rw [List.filter_map]
    rfl
  obtain ⟨ps, perm, eq⟩ := foldl_insertEntry_paired
    ((validSlots 0 u.array.journal.toList).filter (fun p => decide (n ≤ p.2.sequence))) []
  refine ⟨ps, ?_, ?_, ?_, fun i e => ?_⟩
  · rw [Part.journalFrom, List.map_take, eq, filtered]
    rfl
  · rw [eq]
    exact pairwise_foldl_insertEntry _ List.Pairwise.nil
  · refine (perm.map Prod.fst).nodup_iff.mpr ?_
    exact (validSlots_nodup u.array.journal.toList 0).sublist (List.filter_sublist.map _)
  · rw [perm.mem_iff, List.nil_append, List.mem_filter, validSlots_get]
    simp

/-- What READ_JOURNAL gives, with the slots it stands in. -/
theorem Part.exists_journal_slots (n : Nat) (u : Part) :
    ∃ slots : List (Fin 32),
      (u.journalFrom n).length ≤ 4 ∧ (u.journalFrom n).Pairwise (fun x y => x.sequence ≤ y.sequence) ∧ slots.Nodup ∧
      slots.map (fun i => u.array.journal.get i) = (u.journalFrom n).map Slot.valid ∧
      (∀ e ∈ u.journalFrom n, n ≤ e.sequence) ∧
      ∀ (i : Fin 32) (e : JournalEntry), u.array.journal.get i = .valid e → n ≤ e.sequence →
        i ∈ slots ∨ ((u.journalFrom n).length = 4 ∧ ∀ x ∈ u.journalFrom n, x.sequence ≤ e.sequence) := by
  obtain ⟨ps, lowest, sorted, nodup, mem⟩ := u.exists_journal_paired n
  have small : ∀ p ∈ ps, p.1 < 32 := by
    intro p hp
    obtain ⟨h, _⟩ := List.getElem?_eq_some_iff.mp (mem p.1 p.2 |>.mp hp).1
    simpa using h
  have inj : ∀ p ∈ ps, ∀ q ∈ ps, Fin.ofNat 32 p.1 = Fin.ofNat 32 q.1 → p.1 = q.1 := by
    intro p hp q hq eq
    have val := congrArg Fin.val eq
    rwa [Fin.val_ofNat, Fin.val_ofNat, Nat.mod_eq_of_lt (small p hp), Nat.mod_eq_of_lt (small q hq)] at val
  have stands : ∀ p ∈ ps, u.array.journal.get (Fin.ofNat 32 p.1) = .valid p.2 := by
    intro p hp
    obtain ⟨h, eq⟩ := List.getElem?_eq_some_iff.mp (mem p.1 p.2 |>.mp hp).1
    have val : (Fin.ofNat 32 p.1) = ⟨p.1, small p hp⟩ := Fin.ext (Nat.mod_eq_of_lt (small p hp))
    rw [val]
    exact eq
  have inLowest : ∀ p ∈ ps.take 4, p ∈ ps := fun p hp => List.mem_of_mem_take hp
  refine ⟨(ps.take 4).map (fun p => Fin.ofNat 32 p.1), ?_, ?_, ?_, ?_, ?_, ?_⟩
  · rw [← lowest, List.length_map]
    exact List.length_take_le 4 ps
  · rw [← lowest, List.map_take]
    exact sorted.sublist (List.take_sublist 4 _)
  · have firsts : ((ps.take 4).map Prod.fst).Nodup := nodup.sublist ((List.take_sublist 4 ps).map _)
    rw [List.Nodup, List.pairwise_map] at firsts ⊢
    exact firsts.imp_of_mem fun hp hq ne eq => ne (inj _ (inLowest _ hp) _ (inLowest _ hq) eq)
  · rw [← lowest, List.map_map, List.map_map]
    exact List.map_congr_left fun p hp => stands p (inLowest p hp)
  · intro e he
    rw [← lowest] at he
    obtain ⟨p, hp, rfl⟩ := List.mem_map.mp he
    exact (mem p.1 p.2 |>.mp (inLowest p hp)).2
  · intro i e get from_n
    have pair : (i.val, e) ∈ ps := (mem i.val e).mpr ⟨List.getElem?_eq_some_iff.mpr ⟨by simp, get⟩, from_n⟩
    rw [← List.take_append_drop 4 ps, List.mem_append] at pair
    rcases pair with taken | left
    · exact .inl (List.mem_map.mpr ⟨_, taken, Fin.ext (Nat.mod_eq_of_lt i.isLt)⟩)
    · refine .inr ⟨?_, fun x hx => ?_⟩
      · have some_left := List.length_pos_of_mem left
        rw [List.length_drop] at some_left
        rw [← lowest, List.length_map, List.length_take]
        omega
      · rw [← lowest] at hx
        have halves := sorted
        rw [← List.take_append_drop 4 ps, List.map_append, List.pairwise_append] at halves
        exact halves.2.2 x hx e (List.mem_map_of_mem (f := Prod.snd) left)

/-! ### The check word (R153, R158) -/

theorem crc32_append (bytes : List Byte) (b : Byte) :
    crc32 (bytes ++ [b]) = ~~~ (Nat.iterate (fun x : BitVec 32 => if x.msb then (x <<< 1) ^^^ 0x04C11DB7#32 else x <<< 1) 8
      (~~~ (crc32 bytes) ^^^ (b.zeroExtend 32 <<< 24))) := by
  rw [crc32, crc32, crc, List.foldl_append, BitVec.not_not, ← crcShift_eq_iterate]
  rfl

/-! ### Journal entries (R195) -/

theorem causeBits_eq (causes : List TamperCause) :
    causeBits causes = (causes.map (fun c => 2 ^ (causeIndex c).val)).sum := by
  rw [causeBits, List.sum_eq_foldl, List.foldl_map]

/-! ### READ_DISPLAY -/

theorem Part.suppliedEstimate_cases (u : Part) :
    (u.pulse.unmeasurable = true ∨ u.pulse.lastInterval = none → u.suppliedEstimate = 0) ∧
    ∀ t, u.pulse.unmeasurable = false → u.pulse.lastInterval = some t →
      (u.pulse.elapsed ≤ t → u.suppliedEstimate = u.pulse.estimate) ∧
      (t < u.pulse.elapsed →
        u.suppliedEstimate = u.config.live.pulseWeight * 589824 / (5 * u.pulse.elapsed)) := by
  refine ⟨?_, fun t measurable last => ⟨fun le => ?_, fun lt => ?_⟩⟩
  · rintro (h | h)
    · simp [Part.suppliedEstimate, h]
    · simp [Part.suppliedEstimate, h]
  · simp [Part.suppliedEstimate, measurable, last, le]
  · have pos : u.pulse.elapsed ≠ 0 := by omega
    simp [Part.suppliedEstimate, measurable, last, Nat.not_le.mpr lt, powerOf, pos]

/-! ### The register groups -/

theorem Part.expectedPhases_eq (u : Part) : u.expectedPhases =
    match u.recon.mode, u.supply.reportedPhases with
    | .reported, some p => if p = ⟨false, false, false⟩ then ⟨true, true, true⟩ else p
    | _, _ => ⟨true, true, true⟩ := by
  unfold Part.expectedPhases
  cases u.recon.mode with
  | pulseOnly => rfl
  | reported =>
    rcases u.supply.reportedPhases with _ | ⟨l1, l2, l3⟩
    · rfl
    · cases l1 <;> cases l2 <;> cases l3 <;> rfl

theorem Part.readRegisters_of_some {u : Part} {b : List Byte} {fields : List Byte}
    (h : u.registerGroup (groupNumber b) = some fields) :
    u.readRegisters b = (u, { status := 0x00, fields := fields }) := by
  simp only [Part.readRegisters, h]
  rfl

theorem Part.readRegisters_of_none {u : Part} {b : List Byte} (h : u.registerGroup (groupNumber b) = none) :
    u.readRegisters b = (u, { status := 0x05, fields := [] }) := by
  simp only [Part.readRegisters, h]
  rfl

theorem Part.registerGroup_eq {u : Part} {n : Nat} {g1 g2 g3 g4 g5 g6 g7 g8 : List Byte} (h1 : u.group1 = g1)
    (h2 : u.group2 = g2) (h3 : u.group3 = g3) (h4 : u.group4 = g4) (h5 : u.group5 = g5) (h6 : u.group6 = g6)
    (h7 : u.group7 = g7) (h8 : u.group8 = g8) :
    u.registerGroup n =
      match n with
      | 1 => some g1
      | 2 => some g2
      | 3 => some g3
      | 4 => some g4
      | 5 => some g5
      | 6 => some g6
      | 7 => some g7
      | 8 => some g8
      | _ => none := by
  subst h1 h2 h3 h4 h5 h6 h7 h8
  rfl

theorem groupNumber_singleton (b : Byte) : groupNumber [b] = b.toNat := by
  simp [groupNumber, field, slice, beNat]

/-- Settles O47: the numberings, the bytes of an entry and of each group read off, and the journal's lowest entries. -/
theorem readingRequests : Obligations.ReadingRequests := by
  refine ⟨?_, ?_, ?_, ⟨rfl, crc32_append⟩, fun s => ⟨?_, ?_, ?_, ?_⟩⟩
  · exact ⟨rfl, rfl, rfl, fun op => by cases h : op.stage <;> simp [relayNumber, stageNumber, h], rfl, rfl, rfl, rfl, fun _ => rfl, fun _ => rfl, rfl, rfl, rfl, rfl, rfl, rfl,
      fun _ => rfl, fun _ => rfl⟩
  · exact ⟨fun _ => rfl, fun _ _ => rfl, fun _ _ => by simp [toBytesSigned], by decide⟩
  · intro e r port content time body
    have detail : content = (r.detail.kindNumber, r.detail.bytes) := by
      cases h : r.detail with
      | tamperCleared causes =>
        simp only [content, h, JournalDetail.bytes, causeBits_eq]
        rfl
      | supplyOpened reason n x =>
        simp only [content, h, JournalDetail.bytes, OpeningRecord.byte, toBytes_one, oneByte]
        rfl
      | codeAccepted kind serial value origin => cases origin <;> simp only [content, h] <;> rfl
      | tariffActivated version fingerprint area => cases area <;> simp only [content, h] <;> rfl
      | participantAbsent l direction => cases l <;> simp only [content, h] <;> rfl
      | loadTrip estimate limit hold n length => cases length <;> simp only [content, h] <;> rfl
      | ledgerRestored found n =>
        rcases found with _ | ⟨sequence, _ | _, reasons⟩ <;> simp only [content, h] <;> rfl
      | _ =>
        simp only [content, h]
        rfl
    have stamp : time = (r.stamp.count, r.stamp.isValid.toNat) := by
      cases h : r.stamp <;> simp [time, h, Stamp.count, Stamp.isValid]
    have same : body = e.body := by
      simp only [body, detail, stamp]
      rfl
    rw [same]
    rfl
  · intro hunting u elapsed
    exact ⟨u.suppliedEstimate, u.suppliedEstimate_cases.1, u.suppliedEstimate_cases.2,
      exec_effect (k := .readDisplay) hunting (by simp) rfl rfl rfl⟩
  · intro p hunting u operation version
    have running : operation = optionBytes 1 (u.supply.relay.direction.map directionNumber) ++
        optionBytes 1 (u.supply.relay.reason.map reasonNumber) := by
      cases h : u.supply.relay <;> simp only [operation, h] <;> rfl
    have active : version = optionBytes 2 (u.activeBank.map bankVersion) := by
      cases h : u.activeBank <;> simp only [version, h] <;> rfl
    refine exec_effect (k := .readState) hunting (by simp) rfl rfl ?_
    simp only [running, active, Part.readState, Part.stateFields, ReqKind.effect, List.append_assoc]
    rfl
  · intro hunting b u flag option time list left a group1 group2 group3 waiting lockout group4 expected attempt group5
      cause group6 group7 newest writing c shown slot level routing store group8 group
    have flags : flag = fun x => [flagByte x] := rfl
    have options : option = optionBytes := by
      funext n x
      cases x <;> rfl
    have times : time = optionStampBytes := by
      funext x
      rcases x with _ | (_ | _) <;> rfl
    have same2 : u.group2 = group2 := by
      rw [Part.group2, Part.windowFields]
      cases h : u.recon.window <;> simp only [group2, h] <;> rfl
    have attempts : attempt = u.supply.relay.attempt := by
      cases h : u.supply.relay <;> simp only [attempt, h] <;> rfl
    have same5 : u.group5 = group5 := by
      simp only [Part.group5, group5, options, flags, attempts, toBytes_one, oneByte, OpeningRecord.byte,
        Part.expectedPhases_eq]
      rfl
    have causes : u.causeFields = cause := by
      funext c
      simp only [Part.causeFields, cause, options, times, flags]
      cases (u.tamperRecord c).state <;> rfl
    have same6 : u.group6 = group6 := by
      simp only [Part.group6, group6, causes, allCauses, List.take, List.flatMap_cons, List.flatMap_nil, List.append_nil,
        List.append_assoc]
    have same7 : u.group7 = group7 := by
      simp only [Part.group7, group7, causes, allCauses, List.drop, List.flatMap_cons, List.flatMap_nil, List.append_nil,
        List.append_assoc]
    have writes : store = u.storeFields := by
      simp only [store, options, times, flags, Part.storeFields]
      rcases h : u.store.inFlight with _ | (_ | _ | _ | _) <;> simp only [writing, h] <;> rfl
    have slots : u.slotFields = slot := rfl
    have levels : u.levelFields = level := rfl
    have routings : u.routingFields = routing := rfl
    have same8 : u.group8 = group8 := by
      rw [Part.group8, ← writes]
      simp only [group8, Part.configFields, slots, levels, routings, levelKinds, routingKinds, List.flatMap_cons,
        List.flatMap_nil, List.append_nil, List.append_assoc]
      rfl
    have same : u.registerGroup (groupNumber [b]) = group := by
      rw [groupNumber_singleton]
      exact Part.registerGroup_eq rfl same2 rfl rfl same5 same6 same7 same8
    rw [← same]
    cases h : u.registerGroup (groupNumber [b]) with
    | none => exact exec_effect (k := .readRegisters) hunting (by simp) rfl rfl (Part.readRegisters_of_none h)
    | some fields => exact exec_effect (k := .readRegisters) hunting (by simp) rfl rfl (Part.readRegisters_of_some h)
  · intro hunting b hb u
    have whole : field b 0 4 = beNat b := by
      rw [field, slice, List.drop_zero, List.take_of_length_le hb.le]
    obtain ⟨slots, kept⟩ := u.exists_journal_slots (beNat b)
    refine ⟨u.journalFrom (beNat b), slots, ?_, kept⟩
    refine exec_effect (k := .readJournal) hunting (by omega) rfl (by simp [hb]; rfl) ?_
    show (u, okWith (u.journalFields (field b 0 4))) = _
    rw [whole]
    rfl

end Sys2Proof.Machine
end

section
/-! The load limiter: the one-second evaluation, a trip, the ends of lockouts (R122 to R129). -/

namespace Sys2Proof.Machine

/-- An expiry that nothing has overtaken has its event's effect. -/
theorem exec_of_not_overtaken {i : Instr} {s : State} {f : Part → Part} (h : i ∉ s.part.overtaken)
    (hf : effectOf i = Part.unlessOvertaken i f) : exec i s = .next (s.becomes (f s.part)) := by
  rw [exec_eq, hf, Part.unlessOvertaken_of_not_mem h]

namespace Part

/-! ### An entry behind the queue -/

theorem journal_eq_submitJournal (d : JournalDetail) (u : Part) : u.journal d = u.submitJournal (u.entryNow d) := rfl

/-- The first attempt at this entry is in flight. -/
def Attempts (q : JournalRequest) (u : Part) : Prop :=
  ∃ (e : JournalEntry) (slot : Nat) (writesNothing : Bool),
    u.store.inFlight = some (.journal e slot false writesNothing) ∧ e.request = q

theorem startJournal_attempts (q : JournalRequest) (rest : List JournalRequest) (u : Part) :
    (u.startJournal q rest).Attempts q ∧ (u.startJournal q rest).store.journal = rest := by
  unfold startJournal
  dsimp only
  split
  · exact ⟨⟨_, _, _, rfl, rfl⟩, rfl⟩
  · exact ⟨⟨_, _, _, rfl, rfl⟩, rfl⟩

/-- An entry submitted to a part with its supply is last in the queue, or it is the one being written and none waits. -/
theorem submitJournal_last {u : Part} (running : u.power = .running) (room : u.store.journal.length < 8)
    (q : JournalRequest) :
    (u.submitJournal q).store.inFlight ≠ none ∧
      ([q] <:+ (u.submitJournal q).store.journal ∨
        ((u.submitJournal q).Attempts q ∧ (u.submitJournal q).store.journal = [])) := by
  rw [submitJournal, if_neg (by omega)]
  generalize hv : ({ u with store := { u.store with journal := u.store.journal ++ [q] } } : Part) = v
  have power : v.power = .running := by rw [← hv]; exact running
  have queue : v.store.journal = u.store.journal ++ [q] := by rw [← hv]
  have on : v.mainOn = true := v.mainOn_iff.mpr (by simp [power])
  cases idle : v.store.inFlight with
  | some a => rw [startNext_of_inFlight idle]; exact ⟨by simp [idle], .inl ⟨_, queue.symm⟩⟩
  | none =>
    cases waiting : v.store.waiting with
    | some reasons =>
      rw [startNext_of_waiting idle on waiting]
      exact ⟨by simp [startCheckpoint], .inl ⟨_, queue.symm⟩⟩
    | none =>
      cases class2 : v.store.class2 with
      | cons w rest =>
        rw [startNext_of_class2 idle waiting class2 (.inl power), startClass2_eq]
        exact ⟨by simp, .inl ⟨_, queue.symm⟩⟩
      | nil =>
        cases journal : u.store.journal with
        | nil =>
          rw [startNext_of_journal idle waiting (.inl class2) (by simp [power]) (r := q) (rest := [])
            (by rw [queue, journal]; rfl)]
          obtain ⟨⟨e, slot, w, attempt, same⟩, rest⟩ := startJournal_attempts q [] v
          exact ⟨by simp [attempt], .inr ⟨⟨e, slot, w, attempt, same⟩, rest⟩⟩
        | cons first more =>
          rw [startNext_of_journal idle waiting (.inl class2) (by simp [power]) (r := first) (rest := more ++ [q])
            (by rw [queue, journal]; rfl)]
          obtain ⟨⟨e, slot, w, attempt, _⟩, rest⟩ := startJournal_attempts first (more ++ [q]) v
          exact ⟨by simp [attempt], .inl ⟨more, rest.symm⟩⟩

theorem submitJournal_of_busy {u : Part} (busy : u.store.inFlight ≠ none) (room : u.store.journal.length < 8)
    (q : JournalRequest) :
    u.submitJournal q = { u with store := { u.store with journal := u.store.journal ++ [q] } } := by
  rw [submitJournal_of_still (.inl busy), if_neg (by omega)]

/-- Of two entries submitted together, the second stands right behind the first. -/
theorem submitJournal_pair {u : Part} (running : u.power = .running) (room : u.store.journal.length < 7)
    (p q : JournalRequest) :
    [p, q] <:+ ((u.submitJournal p).submitJournal q).store.journal ∨
      (((u.submitJournal p).submitJournal q).Attempts p ∧ ((u.submitJournal p).submitJournal q).store.journal = [q]) := by
  obtain ⟨busy, last⟩ := submitJournal_last running (by omega) p
  have small := (submitJournal_evidence p u).length
  rw [submitJournal_of_busy busy (by omega)]
  rcases last with ⟨before, eq⟩ | ⟨attempt, none⟩
  · exact .inl ⟨before, by rw [← eq]; simp⟩
  · exact .inr ⟨attempt, by rw [none]; rfl⟩

/-! ### The one-second evaluation (R124) -/

/-- The part at an evaluation: the estimate has been read, and the next evaluation is a second away. -/
def evaluating (u : Part) : Part :=
  { u.readEstimate with load := { u.load with nextEvaluation := u.timeBase + 32768 } }

/-- An evaluation counts nothing (R124). -/
def LoadIdle (u : Part) : Prop :=
  u.load.lockoutUntil.isSome = true ∨ u.load.extended = true ∨ u.load.limit = 0 ∨ u.suppliedEstimate ≤ u.load.limit

theorem evaluateLoad_of_idle {u : Part} (h : u.activeBank = none ∨ u.LoadIdle) :
    u.evaluateLoad = u.evaluating.setOverLimit 0 := by
  unfold evaluateLoad
  dsimp only
  split
  next none => rfl
  next i bank =>
    have bank : u.activeBank = some i := bank
    rcases h with none | lockout | extended | zero | below
    · rw [bank] at none
      cases none
    · exact if_pos (by simp [Load.member, readEstimate, lockout])
    · exact if_pos (by simp [Load.member, readEstimate, extended])
    · split
      · rfl
      · exact if_pos zero
    · split
      · rfl
      · split
        · rfl
        · exact if_neg (Nat.not_lt.mpr below)

/-- Beyond the idle cases the over-limit time decides. -/
theorem evaluateLoad_of_counts {u : Part} {i : Image} (bank : u.activeBank = some i) (counts : ¬ u.LoadIdle) :
    u.evaluateLoad =
      if bankHoldTime i ≤ u.load.overLimit + 1 then u.evaluating.loadTrip i
      else u.evaluating.setOverLimit (u.load.overLimit + 1) := by
  simp only [LoadIdle, not_or, Bool.not_eq_true, Nat.not_le] at counts
  obtain ⟨unlocked, plain, limited, above⟩ := counts
  unfold evaluateLoad
  dsimp only
  split
  next none => exact absurd (none.symm.trans bank) (by simp)
  next j bank' =>
    obtain rfl : j = i := Option.some.inj (bank'.symm.trans bank)
    have open' : ¬ u.evaluating.load.member = true := by simp [Load.member, evaluating, unlocked, plain]
    exact ((if_neg open').trans (if_neg limited)).trans (if_pos above)

theorem evaluateLoad_of_counting {u : Part} {i : Image} (bank : u.activeBank = some i) (counts : ¬ u.LoadIdle)
    (short : u.load.overLimit + 1 < bankHoldTime i) :
    u.evaluateLoad = u.evaluating.setOverLimit (u.load.overLimit + 1) := by
  rw [evaluateLoad_of_counts bank counts, if_neg (by omega)]

theorem evaluateLoad_of_trip {u : Part} {i : Image} (bank : u.activeBank = some i) (counts : ¬ u.LoadIdle)
    (long : bankHoldTime i ≤ u.load.overLimit + 1) : u.evaluateLoad = u.evaluating.loadTrip i := by
  rw [evaluateLoad_of_counts bank counts, if_pos long]

/-! ### A trip (R125, R126, R129) -/

/-- The limiter behind a trip. -/
def trippedLoad (i : Image) (u : Part) : Load :=
  { u.load with
    trips := tripsAfter u.load.trips u.timeBase, overLimit := 0,
    extended := u.load.extended || decide (3 ≤ (tripsAfter u.load.trips u.timeBase).length),
    lockoutUntil := if 3 ≤ (tripsAfter u.load.trips u.timeBase).length then u.load.lockoutUntil
      else some (u.timeBase + bankLockoutTime i * 32768) }

/-- The ordinary lockout's length; none for an extended one. -/
def lockoutLength (i : Image) (u : Part) : Option Nat :=
  if 3 ≤ (tripsAfter u.load.trips u.timeBase).length then none else some (bankLockoutTime i)

theorem trippedLoad_of_unlocked {u : Part} (i : Image) (unlocked : u.load.lockoutUntil = none)
    (plain : u.load.extended = false) :
    u.trippedLoad i =
      { u.load with
        trips := tripsAfter u.load.trips u.timeBase, overLimit := 0,
        extended := decide (3 ≤ (tripsAfter u.load.trips u.timeBase).length),
        lockoutUntil := (u.lockoutLength i).map (fun n => u.timeBase + n * 32768) } := by
  by_cases h : 3 ≤ (tripsAfter u.load.trips u.timeBase).length <;>
    simp [trippedLoad, lockoutLength, unlocked, plain, h]

/-- A trip's LOAD_TRIP, as the notice and as the entry (R129). -/
def tripNotice (i : Image) (u : Part) : Notice :=
  .loadTrip u.pulse.estimate u.load.limit (bankHoldTime i) (tripsAfter u.load.trips u.timeBase).length (u.lockoutLength i)

def tripEntry (i : Image) (u : Part) : JournalDetail :=
  .loadTrip u.pulse.estimate u.load.limit (bankHoldTime i) (tripsAfter u.load.trips u.timeBase).length (u.lockoutLength i)

/-- The part behind a trip before its entries (R125). -/
def tripped (i : Image) (u : Part) : Part := (u.putLoad (u.trippedLoad i)).place (u.tripNotice i)

theorem loadTrip_eq (i : Image) (u : Part) :
    u.loadTrip i =
      if 3 ≤ (tripsAfter u.load.trips u.timeBase).length then
        ((u.tripped i).journal (u.tripEntry i)).journal (.extendedLockout (tripsAfter u.load.trips u.timeBase))
      else (u.tripped i).journal (u.tripEntry i) := by
  by_cases h : 3 ≤ (tripsAfter u.load.trips u.timeBase).length <;>
    simp [loadTrip, h, tripped, trippedLoad, tripNotice, tripEntry, lockoutLength, Config.seconds]

section
variable (i : Image) (u : Part)

theorem tripped_core : (u.tripped i).core = ({ u with load := u.trippedLoad i } : Part).core := by
  rw [tripped, place_core, putLoad_core]

theorem loadTrip_core : (u.loadTrip i).core = ({ u with load := u.trippedLoad i } : Part).core := by
  rw [loadTrip_eq]
  split
  · rw [journal_core, journal_core, tripped_core]
  · rw [journal_core, tripped_core]

theorem trippedLoad_member : (u.trippedLoad i).member = true := by
  by_cases h : 3 ≤ (tripsAfter u.load.trips u.timeBase).length <;> simp [trippedLoad, Load.member, h]

theorem loadTrip_causes : (u.loadTrip i).supply.causes.loadLimit = true := by
  have causes : (u.tripped i).supply.causes.loadLimit = true := by
    rw [tripped, place_supply, putLoad, handCauses_causes]
    exact trippedLoad_member i u
  rw [loadTrip_eq]
  split
  · rwa [journal_supply, journal_supply]
  · rwa [journal_supply]

theorem loadTrip_placed : (u.loadTrip i).Placed (u.tripNotice i) := by
  have placed : (u.tripped i).Placed (u.tripNotice i) := place_placed _ _
  rw [loadTrip_eq]
  split
  · exact ((journal_kind _ _ _).trans (journal_kind _ _ _)).placed placed
  · exact (journal_kind _ _ _).placed placed

theorem tripped_evidence : u.KeepsEvidence 1 (u.tripped i) := (putLoad_evidence u _).trans (place_evidence 0 _ _)

theorem tripped_entryNow (d : JournalDetail) : (u.tripped i).entryNow d = u.entryNow d :=
  entryNow_of_core (tripped_core i u) d

end

/-- The entries of a trip: LOAD_TRIP, and behind it for an extended lockout EXTENDED_LOCKOUT (R129). -/
theorem loadTrip_journaled {u : Part} (i : Image) (running : u.power = .running) (room : u.store.journal.length < 4) :
    (u.loadTrip i).Journaled (u.entryNow (u.tripEntry i)) ∧
      (3 ≤ (tripsAfter u.load.trips u.timeBase).length →
        [u.entryNow (u.tripEntry i), u.entryNow (.extendedLockout (tripsAfter u.load.trips u.timeBase))] <:+
            (u.loadTrip i).store.journal ∨
          ((u.loadTrip i).Attempts (u.entryNow (u.tripEntry i)) ∧
            (u.loadTrip i).store.journal =
              [u.entryNow (.extendedLockout (tripsAfter u.load.trips u.timeBase))])) := by
  have length := (tripped_evidence i u).length
  have power : (u.tripped i).power = .running := (power_of_derived (derived_of_core (tripped_core i u))).trans running
  have journaled : ((u.tripped i).journal (u.tripEntry i)).Journaled (u.entryNow (u.tripEntry i)) := by
    rw [← tripped_entryNow]
    exact journal_journaled (by omega)
  rw [loadTrip_eq]
  split
  next extended =>
    refine ⟨(journal_evidence _ _).journaled _ journaled, fun _ => ?_⟩
    have second : ((u.tripped i).journal (u.tripEntry i)).entryNow
        (.extendedLockout (tripsAfter u.load.trips u.timeBase)) =
          u.entryNow (.extendedLockout (tripsAfter u.load.trips u.timeBase)) :=
      (entryNow_of_core (journal_core _ _) _).trans (tripped_entryNow i u _)
    have pair := submitJournal_pair power (by omega) ((u.tripped i).entryNow (u.tripEntry i))
      (((u.tripped i).journal (u.tripEntry i)).entryNow (.extendedLockout (tripsAfter u.load.trips u.timeBase)))
    rw [second, tripped_entryNow] at pair
    have written : ((u.tripped i).journal (u.tripEntry i)).journal (.extendedLockout (tripsAfter u.load.trips u.timeBase)) =
        ((u.tripped i).submitJournal (u.entryNow (u.tripEntry i))).submitJournal
          (u.entryNow (.extendedLockout (tripsAfter u.load.trips u.timeBase))) := by
      rw [journal_eq_submitJournal (.extendedLockout _), second, journal_eq_submitJournal (u.tripEntry i),
        tripped_entryNow]
    rwa [written]
  next short => exact ⟨journaled, fun h => absurd h short⟩

/-! ### The ends of lockouts (R127) -/

theorem lockoutExpires_of_active {u : Part} (active : u.power = .running ∨ u.power = .failing) :
    u.lockoutExpires = u.putLoad { u.load with lockoutUntil := none } := if_pos (u.active_iff.mpr active)

end Part

/-- Settles O48: the evaluation's cases, a trip with its lockout and entries, and the ends of lockouts. -/
theorem loadLimiter : Obligations.LoadLimiter := by
  intro s
  refine ⟨fun running fresh => ?_, fun stopped fresh => ?_, fun active fresh => ?_, fun fresh => ?_, fun old => ?_⟩
  · have event : exec .loadEvaluation s = .next (s.becomes s.part.evaluateLoad) :=
      (exec_of_not_overtaken fresh rfl).trans (by rw [Part.evaluationDue, if_pos (s.part.running_iff.mpr running)])
    refine ⟨fun idle => ?_, fun i bank counts => ⟨fun short => ?_, fun long => ?_⟩⟩
    · rw [event, Part.evaluateLoad_of_idle idle]
      rfl
    · rw [event, Part.evaluateLoad_of_counting (u := s.part) bank counts short]
      rfl
    · have tripped : s.part.evaluateLoad = s.part.evaluating.loadTrip i := Part.evaluateLoad_of_trip bank counts long
      intro kept trips length entered
      have load : s.part.evaluating.trippedLoad i = entered.load := by
        refine (Part.trippedLoad_of_unlocked i ?_ ?_).trans rfl
        · exact Option.not_isSome_iff_eq_none.mp fun h => counts (.inl h)
        · exact Bool.eq_false_iff.mpr fun h => counts (.inr (.inl h))
      have lockout : s.part.evaluating.lockoutLength i = length := rfl
      have entries := Part.loadTrip_journaled (u := s.part.evaluating) i running
      refine ⟨s.part.evaluating.loadTrip i, by rw [event, tripped], ?_, Part.loadTrip_causes i _,
        Part.loadTrip_placed i s.part.evaluating, fun room => ⟨(entries room).1, fun extended => ?_⟩⟩
      · rw [Part.loadTrip_core, load]
        rfl
      · rcases (entries room).2 extended with last | ⟨⟨e, slot, w, attempt, same⟩, left⟩
        · exact .inl last
        · exact .inr ⟨⟨e, slot, w, attempt, same⟩, left⟩
  · rw [exec_of_not_overtaken fresh rfl, Part.evaluationDue, if_neg (fun h => stopped (s.part.running_iff.mp h))]
  · refine ⟨_, exec_of_not_overtaken fresh rfl, ?_, ?_⟩
    · rw [Part.lockoutExpires_of_active active, Part.putLoad_core]
    · rw [Part.lockoutExpires_of_active active, Part.putLoad, Part.handCauses_causes]
      rfl
  · exact exec_of_not_overtaken fresh rfl
  · exact exec_of_overtaken (f := Part.tripAges) old rfl

end Sys2Proof.Machine
end

section
/-! The requests and timers that start an operation (R104, R105, R113, R117, R118), and its stages up to SETTLE (R106 to
R108, R119). -/

namespace Sys2Proof.Machine

/-- An expiry of the main domain has its event's effect while the domain has its supply. -/
theorem exec_of_active {i : Instr} {s : State} {f : Part → Part} (active : s.part.power = .running ∨ s.part.power = .failing)
    (fresh : i ∉ s.part.overtaken) (hf : effectOf i = Part.unlessOvertaken i (Part.whileActive f)) :
    exec i s = .next (s.becomes (f s.part)) := by
  rw [exec_of_not_overtaken fresh hf, Part.whileActive, if_pos (s.part.active_iff.mpr active)]

namespace Part

theorem taking_power (u : Part) (p : Port) (kind : Byte) : (u.taking p kind).power = u.power := by
  unfold taking beginTaking linkUp
  cases p <;> dsimp only
  · rfl
  · split
    · simp
      rfl
    · rfl
  · rfl

/-! ### What starts an operation -/

theorem startOperation_tamperRecord (c : TamperCause) (dir : Direction) (r : Reason) {u : Part} (running : u.power = .running) :
    (u.startOperation dir r).tamperRecord c = (u.leaveBypassWatch dir).tamperRecord c := by
  rw [startOperation, if_pos (u.running_iff.mpr running)]
  simp only [placeIf_record]
  exact (putLogical_record .inProgress _ c).trans (putOpeningRecord_record _ _ c)

/-- A closing that leaves AWAITING_CONFIRM leaves no BYPASS present (R116). -/
theorem startOperation_condition_of_awaiting {u : Part} (running : u.power = .running)
    (relay : u.supply.relay = .settled .awaitingConfirm) (r : Reason) :
    (u.startOperation .closing r).condition .bypass = false := by
  rw [condition, startOperation_tamperRecord .bypass .closing r running]
  show (u.leaveBypassWatch .closing).condition .bypass = false
  simp only [leaveBypassWatch, relay]
  split
  next => exact conditionEnds_condition .bypass u
  next absent => exact Bool.eq_false_iff.mpr absent

theorem confirmReconnect_of_some {u : Part} {r : Reason} (h : u.confirmReason = some r) :
    u.confirmReconnect = (u.startOperation .closing r, { status := 0x00, fields := [] }) := by
  simp only [confirmReconnect, h]
  rfl

theorem confirmReconnect_of_none {u : Part} (h : u.confirmReason = none) :
    u.confirmReconnect = (u, { status := 0x0A, fields := [] }) := by
  simp only [confirmReconnect, h]
  rfl

theorem confirmReason_of_awaiting {u : Part} (relay : u.supply.relay = .settled .awaitingConfirm) :
    u.confirmReason = some .confirmed := by
  simp only [confirmReason, relay]

theorem confirmReason_of_stuckOpen {u : Part} (relay : u.supply.relay = .settled .stuckOpen) :
    u.confirmReason = if u.supply.openRequired then none else some .recovery := by
  simp only [confirmReason, relay]

theorem confirmReason_of_other {u : Part} (awaits : u.supply.relay ≠ .settled .awaitingConfirm)
    (recovers : ¬ (u.supply.relay = .settled .stuckOpen ∧ u.supply.openRequired = false)) : u.confirmReason = none := by
  unfold confirmReason
  split
  next relay => exact absurd relay awaits
  next relay => exact if_pos (by simpa using fun closed => recovers ⟨relay, closed⟩)
  all_goals rfl

theorem relayTest_of_none {u : Part} {b : List Byte} (h : testDirection b = none) :
    u.relayTest b = (u, { status := 0x05, fields := [] }) := by
  simp only [relayTest, h]
  rfl

theorem relayTest_of_operating {u : Part} {b : List Byte} {dir : Direction} {op : Operation}
    (h : testDirection b = some dir) (relay : u.supply.relay = .operating op) :
    u.relayTest b = (u, { status := 0x04, fields := [] }) := by
  simp only [relayTest, h, relay]
  rfl

theorem relayTest_of_settled {u : Part} {b : List Byte} {dir : Direction} {st : Settled}
    (h : testDirection b = some dir) (relay : u.supply.relay = .settled st) :
    u.relayTest b = (u.startOperation dir .test, { status := 0x00, fields := [] }) := by
  simp only [relayTest, h, relay]
  rfl

theorem jump_of_lost {u : Part} (lost : u.supply.jumpSince.isSome = true) (relay : u.supply.relay = .settled .closed) :
    u.jump = u.startOperation .closing .jump := by
  simp [jump, lost, relay, Relay.watchedForJump]

theorem retry_of_stuck {u : Part} {t : Nat} (relay : u.supply.relay = .settled .stuckClosed)
    (timer : u.supply.retryAt = some t) :
    u.retry = if u.supply.openRequired then u.startOperation .opening .retry else u.startRetryTimer .stuckClosed := by
  simp only [retry, relay, timer]

end Part

theorem testDirection_of_gt {b : Byte} (h : 1 < b.toNat) : testDirection [b] = none := by
  have byte : field [b] 0 1 = b.toNat := by simp [field, slice, beNat]
  obtain ⟨m, eq⟩ := Nat.exists_eq_add_of_le' h
  simp only [testDirection, byte, eq]

theorem testDirection_of_le {b : Byte} (h : b.toNat ≤ 1) :
    testDirection [b] = some (if b = 0 then .opening else .closing) := by
  have byte : field [b] 0 1 = b.toNat := by simp [field, slice, beNat]
  by_cases zero : b = 0
  · subst zero
    rfl
  · have one : b.toNat = 1 := by
      have : b.toNat ≠ 0 := fun e => zero (BitVec.eq_of_toNat_eq e)
      omega
    simp only [testDirection, byte, one, zero, if_false]

/-- Settles O51: each request and timer starts its operation or is without one. -/
theorem operationsStart : Obligations.OperationsStart := by
  intro s running
  have startedBy {u : Part} (power : u.power = .running) (dir : Direction) {r : Reason} (plain : r ≠ .test) :
      Part.Started u (u.startOperation dir r) dir r u.participants := by
    have started := Part.startOperation_started (u.running_iff.mpr power) dir r
    rwa [if_neg plain] at started
  refine ⟨fun hunting => ?_, fun hunting provisioning b => ?_, fun lost closed fresh => ?_, fun t stuck timer fresh => ?_⟩
  · have power : (s.part.taking .k 0x05).power = .running := (Part.taking_power _ _ _).trans running
    have request {v : Part} {r : Reply} := exec_effect (k := .confirmReconnect) (b := []) (v := v) (r := r) hunting
      (by simp) rfl rfl
    refine ⟨?_, fun awaits recovers => request (Part.confirmReconnect_of_none (Part.confirmReason_of_other awaits recovers))⟩
    rintro (awaits | ⟨stuck, closed⟩)
    · refine ⟨_, request (Part.confirmReconnect_of_some (Part.confirmReason_of_awaiting awaits)), fun _ =>
        ⟨startedBy power .closing (by decide), Part.startOperation_condition_of_awaiting power awaits _⟩, fun recovers => ?_⟩
      exact absurd (awaits.symm.trans recovers.1) (by simp)
    · have reason : (s.part.taking .k 0x05).confirmReason = some .recovery := by
        rw [Part.confirmReason_of_stuckOpen stuck, closed]
        rfl
      refine ⟨_, request (Part.confirmReconnect_of_some reason), fun awaits => ?_, fun _ =>
        startedBy power .closing (by decide)⟩
      exact absurd (stuck.symm.trans awaits) (by simp)
  · have power : (s.part.taking .s 0x14).power = .running := (Part.taking_power _ _ _).trans running
    have request {v : Part} {r : Reply} := exec_effect (k := .relayTest) (b := [b]) (v := v) (r := r) hunting
      (by simp) (by simp [provisioning]; rfl) rfl
    refine ⟨fun large => request (Part.relayTest_of_none (testDirection_of_gt large)),
      fun op small relay => request (Part.relayTest_of_operating (testDirection_of_le small) relay),
      fun st small relay => ⟨_, request (Part.relayTest_of_settled (testDirection_of_le small) relay), ?_⟩⟩
    exact Part.startOperation_started ((Part.running_iff _).mpr power) _ .test
  · refine ⟨_, (exec_of_active (.inl running) fresh rfl).trans ?_, startedBy running .closing (by decide)⟩
    rw [Part.jump_of_lost lost closed]
  · have event : exec .retryTimerExpiry s = .next (s.becomes s.part.retry) := exec_of_active (.inl running) fresh rfl
    rw [event, Part.retry_of_stuck stuck timer]
    refine ⟨fun required => ⟨_, ?_, startedBy running .opening (by decide)⟩, fun closed => ?_⟩
    · rw [if_pos required]
    · rw [if_neg (by simp [closed])]
      rfl

end Sys2Proof.Machine
end

section
/-! The stages of an operation up to SETTLE (R106 to R108, R119). -/

namespace Sys2Proof.Machine

namespace Part

/-! ### The handshake (R106) -/

theorem ready_of_settled {u : Part} {st : Settled} (relay : u.supply.relay = .settled st) (l : Link) : u.ready l = u := by
  simp only [ready, relay]

theorem ready_of_operating {u : Part} {op : Operation} (relay : u.supply.relay = .operating op) (l : Link) :
    u.ready l =
      if op.stage = .handshake ∧ op.awaited.get l = true then
        if ({ op with answered := op.answered.set l true } : Operation).allAnswered then
          u.enterStage .zxWait { op with answered := op.answered.set l true }
        else u.putOperation { op with answered := op.answered.set l true }
      else u := by
  simp only [ready, relay, Bool.and_eq_true, decide_eq_true_eq]

theorem absentEntry_eq (op : Operation) (l : Link) (u : Part) :
    u.absentEntry op l =
      if op.awaited.get l = true ∧ op.answered.get l = false then u.journal (.participantAbsent l op.direction) else u := by
  simp [absentEntry]

theorem endHandshake_of_stage {u : Part} {op : Operation} (relay : u.supply.relay = .operating op)
    (stage : op.stage = .handshake) (running : u.power = .running) :
    u.endHandshake = ((u.absentEntry op .m).absentEntry op .k).enterStage .zxWait op := by
  simp [endHandshake, relay, stage, u.running_iff.mpr running]

/-- After PFW no stage before PULSE ends (R119). -/
theorem endHandshake_of_failing {u : Part} (failing : u.power = .failing) : u.endHandshake = u := by
  cases relay : u.supply.relay <;> simp [endHandshake, running, failing, relay]

theorem endZxWait_of_failing {u : Part} (failing : u.power = .failing) (b : Bool) : u.endZxWait b = u := by
  cases relay : u.supply.relay <;> simp [endZxWait, running, failing, relay]

theorem endDelay_of_failing {u : Part} (failing : u.power = .failing) : u.endDelay = u := by
  cases relay : u.supply.relay <;> simp [endDelay, running, failing, relay]

/-! ### ZX_WAIT, DELAY, PULSE (R107, R108) -/

theorem endZxWait_of_stage {u : Part} {op : Operation} (relay : u.supply.relay = .operating op)
    (stage : op.stage = .zxWait) (running : u.power = .running) (b : Bool) : u.endZxWait b = u.startDelay b op := by
  simp [endZxWait, relay, stage, u.running_iff.mpr running]

theorem startDelay_of_pos {op : Operation} (delay : 0 < op.relayDelay) (b : Bool) (u : Part) :
    u.startDelay b op = u.enterStage .delay { op with synchronised := b } := if_neg (by simpa using delay.ne')

theorem startDelay_of_zero {op : Operation} (none : op.relayDelay = 0) (b : Bool) (u : Part) :
    u.startDelay b op = u.startPulse { op with synchronised := b } := if_pos none

theorem endDelay_of_stage {u : Part} {op : Operation} (relay : u.supply.relay = .operating op)
    (stage : op.stage = .delay) (running : u.power = .running) : u.endDelay = u.startPulse op := by
  simp [endDelay, relay, stage, u.running_iff.mpr running]

theorem endPulse_of_stage {u : Part} {op : Operation} (relay : u.supply.relay = .operating op)
    (stage : op.stage = .pulse) : u.endPulse = (u.drive false false).enterStage .settle op := by
  simp [endPulse, relay, stage]

end Part

theorem Operation.allAnswered_iff (op : Operation) : op.allAnswered = true ↔
    (op.awaited.m = true → op.answered.m = true) ∧ (op.awaited.k = true → op.answered.k = true) := by
  cases h : op.awaited.m <;> cases h' : op.awaited.k <;> simp [Operation.allAnswered, h, h']

/-- Settles O52: SWITCH_READY and each stage's end, before and after PFW. -/
theorem operationStages : Obligations.OperationStages := by
  intro s op stage drive pulse
  refine ⟨fun l hunting => ?_, fun relay running => ?_, fun relay failing => ?_, fun relay active pulsing fresh => ?_⟩
  · have request : exec (.switchReady (linkPort l) []) s =
        .next (s.replied (linkPort l) 0x02 { status := 0x00, fields := [] } ((s.part.taking (linkPort l) 0x02).ready l)) := by
      cases l
      · exact exec_effect (k := .switchReady) hunting (by simp) rfl rfl rfl
      · exact exec_effect (k := .switchReady) hunting (by simp) rfl rfl rfl
    rw [request]
    intro u answered last marked
    have all : marked.allAnswered = true ↔ last := Operation.allAnswered_iff marked
    refine ⟨fun relay handshake awaited isLast => ?_, fun relay handshake awaited notLast => ?_, ?_⟩
    · rw [Part.ready_of_operating relay, if_pos ⟨handshake, awaited⟩, if_pos (all.mpr isLast)]
      rfl
    · rw [Part.ready_of_operating relay, if_pos ⟨handshake, awaited⟩, if_neg (fun h => notLast (all.mp h))]
      rfl
    · rintro (⟨st, relay⟩ | ⟨relay, other⟩)
      · rw [Part.ready_of_settled relay]
      · rw [Part.ready_of_operating relay, if_neg]
        rintro ⟨handshake, awaited⟩
        rcases other with later | unawaited
        · exact later handshake
        · exact absurd (awaited.symm.trans unawaited) (by simp)
  · refine ⟨fun handshake fresh => ?_, fun zxWait delay => ⟨?_, fun fresh => ?_⟩, fun zxWait delay => ⟨?_, fun fresh => ?_⟩,
      fun delay fresh => ?_⟩
    · rw [exec_of_not_overtaken (f := Part.endHandshake) fresh rfl, Part.endHandshake_of_stage relay handshake running,
        Part.absentEntry_eq, Part.absentEntry_eq]
      rfl
    · rw [exec_eq, show effectOf .zxEdge = Part.endZxWait true from rfl, Part.endZxWait_of_stage relay zxWait running,
        Part.startDelay_of_pos delay]
      rfl
    · rw [exec_of_not_overtaken (f := Part.endZxWait false) fresh rfl, Part.endZxWait_of_stage relay zxWait running,
        Part.startDelay_of_pos delay]
      rfl
    · rw [exec_eq, show effectOf .zxEdge = Part.endZxWait true from rfl, Part.endZxWait_of_stage relay zxWait running,
        Part.startDelay_of_zero delay]
      rfl
    · rw [exec_of_not_overtaken (f := Part.endZxWait false) fresh rfl, Part.endZxWait_of_stage relay zxWait running,
        Part.startDelay_of_zero delay]
      rfl
    · rw [exec_of_not_overtaken (f := Part.endDelay) fresh rfl, Part.endDelay_of_stage relay delay running]
      rfl
  · refine ⟨fun _ fresh => ?_, fun _ => ⟨?_, fun fresh => ?_⟩, fun _ fresh => ?_⟩
    · rw [exec_of_not_overtaken (f := Part.endHandshake) fresh rfl, Part.endHandshake_of_failing failing]
    · rw [exec_eq, show effectOf .zxEdge = Part.endZxWait true from rfl, Part.endZxWait_of_failing failing]
    · rw [exec_of_not_overtaken (f := Part.endZxWait false) fresh rfl, Part.endZxWait_of_failing failing]
    · rw [exec_of_not_overtaken (f := Part.endDelay) fresh rfl, Part.endDelay_of_failing failing]
  · rw [exec_of_active (f := Part.endPulse) active fresh rfl, Part.endPulse_of_stage relay pulsing]
    rfl

end Sys2Proof.Machine
end

section
/-! Blanking and the watch over the contacts (R44, R115 to R117). -/

namespace Sys2Proof.Machine

theorem TamperRecord.presented_mayEnd {r r' : TamperRecord} {t : Stamp} (h : (r.presented t).MayEnd r') :
    r'.count = min 65535 (r.count + 1) ∧ r'.last = some t ∧ (r'.state = .present ∨ r'.state = .latchedAbsent) := by
  rcases h with rfl | ⟨-, release, rfl⟩
  · exact ⟨rfl, rfl, .inl rfl⟩
  · cases release with
    | none => exact ⟨rfl, rfl, .inr rfl⟩
    | some t => exact ⟨rfl, rfl, .inl rfl⟩

namespace Part

/-! ### BYPASS (R116) -/

/-- An arising of BYPASS raises it; a closing that leaves OPEN may end it at once. -/
theorem setCondition_bypass_arises {u : Part} (absent : u.condition .bypass = false)
    (away : (u.tamperRecord .bypass).state = .quiet ∨ (u.tamperRecord .bypass).state = .latchedAbsent) :
    (({ u.tamperRecord .bypass with condition := true } : TamperRecord).presented u.stamp).MayEnd
      ((u.setCondition .bypass true).tamperRecord .bypass) := by
  have kept : ¬ (u.power = .failing ∧ droppedAtPfw .bypass = true) := by simp [droppedAtPfw]
  have noted : (u.conditionNoted .bypass).tamperRecord .bypass = { u.tamperRecord .bypass with condition := true } :=
    putRecord_self _ _ _
  have stamp : (u.conditionNoted .bypass).stamp = u.stamp := by simp [Part.stamp, conditionNoted]
  rw [setCondition_true absent, conditionArises_of_immediate kept rfl away, becomePresent_of_away (.inl rfl), noted, stamp]
  have raised := (presentEvidence_bypass .bypass ((u.conditionNoted .bypass).putRecord .bypass
    (({ u.tamperRecord .bypass with condition := true } : TamperRecord).presented u.stamp))).record
  rwa [putRecord_self] at raised

theorem setCondition_bypass_ended {u : Part} (present : u.condition .bypass = true) :
    (u.setCondition .bypass false).tamperRecord .bypass = (u.tamperRecord .bypass).ended none := by
  have ended : (u.conditionEnds .bypass).tamperRecord .bypass = (u.tamperRecord .bypass).ended none :=
    conditionEnds_self .bypass u
  have evaluated : (u.conditionEnds .bypass).evaluateTamper.tamperRecord .bypass = (u.tamperRecord .bypass).ended none := by
    rcases (evaluateTamper_bypass (u.conditionEnds .bypass)).record with same | ⟨holds, _⟩
    · exact same.trans ended
    · rw [ended, TamperRecord.ended_condition] at holds
      cases holds
  rw [setCondition_false present]
  split
  · exact evaluated
  · exact ended

theorem setCondition_bypass_gone (u : Part) : (u.setCondition .bypass false).condition .bypass = false := by
  by_cases present : u.condition .bypass = true
  · rw [condition, setCondition_bypass_ended present]
    exact TamperRecord.ended_condition _ _
  · rw [setCondition_of_same (Bool.eq_false_iff.mpr present)]
    exact Bool.eq_false_iff.mpr present

/-! ### Blanking (R115) -/

theorem endBlanking_of_running {u : Part} (running : u.power = .running) (blanking : u.supply.blankingUntil ≠ none) :
    u.endBlanking =
      if u.recon.mode = .reported then ({ u with supply := { u.supply with blankingUntil := none } } : Part).openWindow
      else { u with supply := { u.supply with blankingUntil := none } } := by
  have runs : (u.running && u.supply.blankingUntil.isSome) = true := by
    simp [u.running_iff.mpr running, Option.isSome_iff_ne_none, blanking]
  rw [endBlanking, if_pos runs]
  dsimp only
  cases u.recon.mode <;> rfl

theorem endBlanking_of_over {u : Part} (past : u.power ≠ .running ∨ u.supply.blankingUntil = none) : u.endBlanking = u := by
  refine if_neg ?_
  rcases past with stopped | none
  · simp [running, stopped]
  · simp [none]

end Part

/-! ### The timers of the watch (R116, R117) -/

theorem qualify_of_holds {holds : Bool} (h : holds = true) (since : Option Nat) (now : Nat) :
    qualify holds since now = some (since.getD now) := if_pos h

theorem qualify_of_not {holds : Bool} (h : ¬ holds = true) (since : Option Nat) (now : Nat) :
    qualify holds since now = none := if_neg h

theorem PhaseSet.any_iff (p : PhaseSet) : p.any = true ↔ p ≠ ⟨false, false, false⟩ := by
  obtain ⟨l1, l2, l3⟩ := p
  cases l1 <;> cases l2 <;> cases l3 <;> decide

theorem PhaseSet.disjoint_iff (p q : PhaseSet) : p.disjoint q = true ↔
    (q.l1 = true → p.l1 = false) ∧ (q.l2 = true → p.l2 = false) ∧ (q.l3 = true → p.l3 = false) := by
  have apart (a b : Bool) : (!(a && b)) = true ↔ (b = true → a = false) := by
    cases a <;> cases b <;> decide
  simp only [PhaseSet.disjoint, Bool.and_eq_true, apart, and_assoc]

theorem Relay.watchedForBypass_iff (r : Relay) :
    r.watchedForBypass = true ↔ r = .settled .opened ∨ r = .settled .awaitingConfirm := by
  rcases r with (_ | _ | _ | _ | _) | op <;> simp [Relay.watchedForBypass]

theorem Relay.watchedForJump_iff (r : Relay) : r.watchedForJump = true ↔ r = .settled .closed := by
  rcases r with (_ | _ | _ | _ | _) | op <;> simp [Relay.watchedForJump]

/-- Settles O54: the end of blanking, the sense, the arising and end of BYPASS, and when each timer of the watch runs. -/
theorem blankingAndContactWatch : Obligations.BlankingAndContactWatch := by
  intro s
  refine ⟨fun running blanking fresh => ?_, fun past fresh => ?_, fun sense => ?_, fun active since fresh => ?_,
    fun active gone fresh => ?_, ?_⟩
  · rw [exec_of_not_overtaken (f := Part.endBlanking) fresh rfl, Part.endBlanking_of_running running blanking]
    exact ⟨fun mode => by rw [if_pos mode]; rfl, fun mode => by
      rw [if_neg fun reported => absurd (reported.symm.trans mode) (by decide)]⟩
  · rw [exec_of_not_overtaken (f := Part.endBlanking) fresh rfl, Part.endBlanking_of_over past]
  · rw [exec_eq]
    rfl
  · refine ⟨(exec_of_active active fresh rfl).trans ?_, fun absent away => ?_⟩
    · rw [Part.bypassArises, if_pos (Option.isSome_iff_ne_none.mpr since)]
    · have raised := TamperRecord.presented_mayEnd (Part.setCondition_bypass_arises absent away)
      exact raised
  · refine ⟨s.part.setCondition .bypass false, (exec_of_active active fresh rfl).trans ?_, by simp,
      Part.setCondition_bypass_gone _, fun present holds => ?_⟩
    · rw [Part.bypassEnds, if_pos (Option.isSome_iff_ne_none.mpr gone)]
    · rw [Part.setCondition_bypass_ended holds]
      simp [TamperRecord.ended, present]
  · intro u v clear watched any expected lost
    have clears : (u.active && u.supply.blankingUntil.isNone) = true ↔ clear := by
      simp [clear]
    have senses : u.inputs.sense.any = true ↔ any := PhaseSet.any_iff _
    have watches : (u.active && u.supply.blankingUntil.isNone && u.supply.relay.watchedForBypass) = true ↔ watched := by
      rw [Bool.and_eq_true, clears, Relay.watchedForBypass_iff]
    have rises : (u.active && u.supply.blankingUntil.isNone && u.supply.relay.watchedForBypass && u.inputs.sense.any &&
        !u.condition .bypass) = true ↔ watched ∧ any ∧ u.condition .bypass = false := by
      rw [Bool.and_eq_true, Bool.and_eq_true, watches, senses, Bool.not_eq_true', and_assoc]
    have ends : (u.active && u.supply.blankingUntil.isNone && u.supply.relay.watchedForBypass && !u.inputs.sense.any &&
        u.condition .bypass) = true ↔ watched ∧ ¬ any ∧ u.condition .bypass = true := by
      rw [Bool.and_eq_true, Bool.and_eq_true, watches, Bool.not_eq_true', ← Bool.not_eq_true, senses, and_assoc]
    have phases : u.expectedPhases = expected := u.expectedPhases_eq
    have jumps : (u.active && u.supply.blankingUntil.isNone && u.supply.relay.watchedForJump &&
        u.inputs.sense.disjoint u.expectedPhases) = true ↔ clear ∧ u.supply.relay = .settled .closed ∧ lost := by
      rw [Bool.and_eq_true, Bool.and_eq_true, clears, Relay.watchedForJump_iff, PhaseSet.disjoint_iff,
        phases, and_assoc]
    exact ⟨rfl, fun h => qualify_of_holds (rises.mpr h) _ _, fun h => qualify_of_not (fun k => h (rises.mp k)) _ _,
      fun h => qualify_of_holds (ends.mpr h) _ _, fun h => qualify_of_not (fun k => h (ends.mp k)) _ _,
      fun h => qualify_of_holds (jumps.mpr h) _ _, fun h => qualify_of_not (fun k => h (jumps.mp k)) _ _⟩

end Sys2Proof.Machine
end

section
/-! The end of the settle time: what the closing of a window leaves of the operation in progress, the success and the fault
(R43, R109 to R112, R115). -/

namespace Sys2Proof.Machine

/-- An operation in progress stays as it is, and with it the opening record; no SUPPLY_CHANGED is placed. -/
structure Part.DuringOperation (op : Operation) (u v : Part) : Prop where
  relay : v.supply.relay = .operating op
  record : v.supply.record = u.supply.record
  kind : u.KeepsKind .supplyChanged v

namespace Part.DuringOperation

variable {op : Operation} {u v w : Part}

theorem refl (h : u.supply.relay = .operating op) : u.DuringOperation op u := ⟨h, rfl, .refl _ u⟩

theorem trans (a : u.DuringOperation op v) (b : v.DuringOperation op w) : u.DuringOperation op w :=
  ⟨b.relay, b.record.trans a.record, a.kind.trans b.kind⟩

theorem of_supply (h : u.supply.relay = .operating op) (supply : v.supply = u.supply) (kind : u.KeepsKind .supplyChanged v) :
    u.DuringOperation op v := ⟨by rw [supply]; exact h, by rw [supply], kind⟩

theorem ite {p : Prop} [Decidable p] (a : u.DuringOperation op v) (b : u.DuringOperation op w) :
    u.DuringOperation op (if p then v else w) := by
  split
  · exact a
  · exact b

end Part.DuringOperation

namespace Part

open DuringOperation (refl of_supply)

/-! ### While an operation is in progress -/

section
variable {op : Operation} {u : Part} (h : u.supply.relay = .operating op)
include h

theorem handCauses_during (c : CauseSet) : u.DuringOperation op (u.handCauses c) := by
  refine .ite (refl h) ?_
  have same := recompute_operating (u := { u with supply := { u.supply with causes := c } }) h
  rw [same]
  exact ⟨h, rfl, .of_eq _ rfl rfl⟩

theorem evaluateTamper_during : u.DuringOperation op u.evaluateTamper := by
  have handed := handCauses_during (u := { u with tamper := { u.tamper with member := u.tamperMember } }) h
    { u.supply.causes with tamper := u.tamperMember }
  exact ⟨handed.relay, handed.record, evaluateTamper_kind (by decide) (by decide) u⟩

theorem presentEvidence_during (c : TamperCause) : u.DuringOperation op (u.presentEvidence c) := by
  have kind : u.KeepsKind .supplyChanged (u.presentEvidence c) :=
    presentEvidence_kind (by decide) (by decide) (by decide) c u
  refine ⟨?_, ?_, kind⟩
  all_goals
    rw [presentEvidence_eq, requestCheckpoint_supply]
    generalize hw : (if u.policy c = .record then _ else _ : Part) = w
    have supply : w.supply = u.supply := by
      rw [← hw]
      split <;> simp
    have evaluated := evaluateTamper_during (u := w) (by rw [supply]; exact h)
  · exact evaluated.relay
  · exact evaluated.record.trans (by rw [supply])

end

/-- A cause without debounce, cover and release time, and one that PFW does not drop. -/
structure Plain (c : TamperCause) : Prop where
  immediate : c.hasDebounce = false
  cover : causeCover c = none
  kept : droppedAtPfw c = false

section
variable {op : Operation} {u : Part} (h : u.supply.relay = .operating op)
include h

theorem conditionArises_during {c : TamperCause} (plain : Plain c) : u.DuringOperation op (u.conditionArises c) := by
  have kept : ¬ (u.power = .failing ∧ droppedAtPfw c = true) := by simp [plain.kept]
  have put {v : Part} (hv : v.supply.relay = .operating op) (r : TamperRecord) : v.DuringOperation op (v.putRecord c r) :=
    of_supply hv (putRecord_supply _ _ _) (putRecord_kind _ _ _ _)
  have noted : u.DuringOperation op (u.conditionNoted c) := put h _
  have presents {v : Part} (hv : v.supply.relay = .operating op) : v.DuringOperation op (v.becomePresent c) := by
    rw [becomePresent_of_away (.inl plain.cover)]
    exact (put hv _).trans (presentEvidence_during (put hv _).relay c)
  rcases state : (u.tamperRecord c).state with _ | prior | _ | _
  case pending => rw [conditionArises_of_pending kept state]; exact noted
  case present => rw [conditionArises_of_present kept state]; exact noted.trans (put noted.relay _)
  case quiet =>
    rw [conditionArises_of_immediate kept plain.immediate (.inl state)]
    exact noted.trans (presents noted.relay)
  case latchedAbsent =>
    rw [conditionArises_of_immediate kept plain.immediate (.inr state)]
    exact noted.trans (presents noted.relay)

theorem setCondition_during {c : TamperCause} (plain : Plain c) (b : Bool) : u.DuringOperation op (u.setCondition c b) := by
  have ended : u.DuringOperation op (u.conditionEnds c) :=
    of_supply h (conditionEnds_supply c u) (conditionEnds_kind _ c u)
  by_cases same : u.condition c = b
  · rw [setCondition_of_same same]
    exact refl h
  · cases b with
    | true =>
      rw [setCondition_true (Bool.eq_false_iff.mpr same)]
      exact conditionArises_during h plain
    | false =>
      rw [setCondition_false (by simpa using same)]
      exact .ite (ended.trans (evaluateTamper_during ended.relay)) ended

theorem windowConditions_during (x : Window) : u.DuringOperation op (u.windowConditions x) := by
  have integrity := setCondition_during h (c := .pulseIntegrity) ⟨rfl, rfl, rfl⟩ (decide (16 ≤ x.malformed))
  exact integrity.trans (setCondition_during integrity.relay ⟨rfl, rfl, rfl⟩ _)

theorem derive_during : u.DuringOperation op u.derive := by
  have quiet : u.DuringOperation op u.deriveQuietly :=
    ⟨by simp [deriveQuietly, h], by simp [deriveQuietly], deriveQuietly_kind (by decide) u⟩
  refine .ite quiet ?_
  rw [recompute_operating quiet.relay]
  exact quiet

theorem afterCharge_during (c : Nat) : u.DuringOperation op (u.afterCharge c) := by
  have derived := derive_during h
  unfold afterCharge
  dsimp only
  cases u.derive.activeBank with
  | none => exact derived
  | some i =>
    exact .ite (derived.trans (of_supply derived.relay (requestCheckpoint_supply _ _) (requestCheckpoint_kind _ _ _)))
      derived

theorem chargeShortfall_during (x : Window) : u.DuringOperation op (u.chargeShortfall x) := by
  unfold chargeShortfall
  cases u.windowShortfall x with
  | none => exact refl h
  | some d =>
    have put : u.DuringOperation op (u.putAccount (u.chargedAccount d true)) :=
      of_supply h (putAccount_supply _ _) (u.putAccount_kind _ _)
    exact put.trans (afterCharge_during put.relay _)

theorem unjudgedClose_during : u.DuringOperation op u.unjudgedClose := by
  cases opened : u.recon.window with
  | none => rw [unjudgedClose_none opened]; exact refl h
  | some x =>
    have closed : u.DuringOperation op { u with recon := { u.recon with window := none } } :=
      of_supply h rfl (.of_eq _ rfl rfl)
    have charged := closed.trans (chargeShortfall_during closed.relay x)
    rw [unjudgedClose, opened]
    exact charged.trans (windowConditions_during charged.relay x)

end

/-! ### A beginning of blanking (R43, R115) -/

/-- The window that a beginning of blanking closes has been closed. -/
def blankingClosed (u : Part) : Part := if u.supply.blankingUntil.isSome then u else u.unjudgedClose

theorem startBlanking_eq (u : Part) :
    u.startBlanking =
      { u.blankingClosed with supply := { u.blankingClosed.supply with
          blankingUntil := some (u.blankingClosed.timeBase + 2 * 32768) } } := rfl

theorem blankingClosed_during {op : Operation} {u : Part} (h : u.supply.relay = .operating op) :
    u.DuringOperation op u.blankingClosed := .ite (refl h) (unjudgedClose_during h)

theorem blankingClosed_evidence (u : Part) : u.KeepsEvidence 5 u.blankingClosed := by
  unfold blankingClosed
  split
  · exact .refl 5 u
  · exact unjudgedClose_evidence u

/-- The account behind a beginning of blanking. -/
def blankingAccount (u : Part) : Account := if u.supply.blankingUntil.isSome then u.account else u.unjudgedAccount

/-- The part behind a beginning of blanking, up to what a derivation changes. -/
def blankingItems (u : Part) : Part :=
  { u with
    account := u.blankingAccount,
    recon := { u.recon with window := if u.supply.blankingUntil.isSome then u.recon.window else none },
    supply := { u.supply with blankingUntil := some (u.timeBase + 2 * 32768) } }

theorem shortfallAccount_derived (u : Part) (x : Window) :
    (u.derived.shortfallAccount x).books = (u.shortfallAccount x).books := by
  have same : u.derived.windowShortfall x = u.windowShortfall x := rfl
  unfold shortfallAccount
  rw [same]
  cases u.windowShortfall x <;> rfl

theorem blankingAccount_derived (u : Part) : u.derived.blankingAccount.books = u.blankingAccount.books := by
  have same : u.derived.supply.blankingUntil = u.supply.blankingUntil := rfl
  have window : u.derived.recon.window = u.recon.window := rfl
  unfold blankingAccount unjudgedAccount
  rw [same, window]
  cases u.supply.blankingUntil with
  | some t => rfl
  | none =>
    cases u.recon.window with
    | none => rfl
    | some x => exact u.shortfallAccount_derived x

theorem blankingItems_of_derived {u v : Part} (h : v.derived = u.derived) :
    v.blankingItems.derived = u.blankingItems.derived := by
  refine derived_map blankingItems (fun w => ?_) h
  exact congrArg (fun a => { w.blankingItems.derived with account := a }) w.blankingAccount_derived

theorem startBlanking_derived (u : Part) : u.startBlanking.derived = u.blankingItems.derived := by
  have closed : u.blankingClosed.derived =
      ({ u with
          account := u.blankingAccount,
          recon := { u.recon with window := if u.supply.blankingUntil.isSome then u.recon.window else none } } :
        Part).derived := by
    unfold blankingClosed blankingAccount
    cases u.supply.blankingUntil with
    | some t => rfl
    | none => exact u.unjudgedClose_derived_eq
  rw [startBlanking_eq]
  exact derived_map (fun w => { w with supply := { w.supply with blankingUntil := some (w.timeBase + 2 * 32768) } })
    (fun _ => rfl) closed

/-! ### Success (R110, R112) -/

/-- The part behind a success, before its decision (R110). -/
def succeeded (op : Operation) (u : Part) : Part :=
  (((u.place (.supplyChanged (settledBy op.direction) op.direction op.reason op.attempt op.synchronised)).journal
    (successEntry op u.supply.record)).startBlanking.settleRelay (settledBy op.direction)).requestCheckpoint .relay

theorem succeed_eq (op : Operation) (u : Part) : u.succeed op = (u.succeeded op).recompute := by
  rw [succeed, succeeded]
  simp

theorem place_journal_core (x : Notice) (d : JournalDetail) (u : Part) : ((u.place x).journal d).core = u.core := by
  rw [journal_core, place_core]

/-- The part once a success is announced and journaled. -/
def announced (op : Operation) (u : Part) : Part :=
  (u.place (.supplyChanged (settledBy op.direction) op.direction op.reason op.attempt op.synchronised)).journal
    (successEntry op u.supply.record)

theorem succeeded_eq (op : Operation) (u : Part) :
    u.succeeded op = ((u.announced op).startBlanking.settleRelay (settledBy op.direction)).requestCheckpoint .relay := rfl

section
variable (op : Operation) (u : Part)

theorem announced_core : (u.announced op).core = u.core := place_journal_core _ _ u

theorem announced_supply : (u.announced op).supply = u.supply := by simp [announced]

theorem announced_placed :
    (u.announced op).Placed (.supplyChanged (settledBy op.direction) op.direction op.reason op.attempt op.synchronised) :=
  (journal_kind _ _ _).placed (place_placed _ _)

theorem announced_journaled (room : u.store.journal.length < 8) :
    (u.announced op).Journaled (u.entryNow (successEntry op u.supply.record)) := by
  have written := journal_journaled (d := successEntry op u.supply.record)
    (u := u.place (.supplyChanged (settledBy op.direction) op.direction op.reason op.attempt op.synchronised))
    (lt_of_le_of_lt (place_evidence 0 _ u).length room)
  rwa [entryNow_of_core (place_core _ u)] at written

theorem succeeded_derived : (u.succeeded op).derived = u.blankingItems.derived := by
  rw [succeeded_eq, requestCheckpoint_derived, derived_of_core (settleRelay_core _ _), startBlanking_derived]
  exact blankingItems_of_derived (derived_of_core (u.announced_core op))

theorem succeeded_evidence : (u.announced op).KeepsEvidence 5 (u.succeeded op) := by
  have blanked : (u.announced op).KeepsEvidence 5 (u.announced op).startBlanking := (u.announced op).blankingClosed_evidence.before
  exact (blanked.trans (settleRelay_evidence 0 _ _)).trans (requestCheckpoint_evidence _ _)

theorem succeeded_requested : (u.succeeded op).Requested .relay := requestCheckpoint_requested _ _

theorem succeeded_supply :
    (u.succeeded op).supply =
      { (u.announced op).startBlanking.supply with
        relay := .settled (settledBy op.direction), logical := .settled (settledBy op.direction) } := by
  rw [succeeded_eq, requestCheckpoint_supply, settleRelay, putLogical_supply]

theorem succeeded_tamper : (u.succeeded op).tamper = (u.announced op).blankingClosed.tamper := by
  rw [succeeded_eq]
  simp [settleRelay, putLogical, startBlanking_eq]

end

section
variable {op : Operation} {u : Part} (h : u.supply.relay = .operating op)
include h

theorem announced_blanking : (u.announced op).DuringOperation op (u.announced op).blankingClosed :=
  blankingClosed_during (by rw [announced_supply]; exact h)

theorem succeeded_record : (u.succeeded op).supply.record = u.supply.record := by
  rw [succeeded_supply]
  exact (announced_blanking h).record.trans (by rw [announced_supply])

theorem succeeded_placed :
    (u.succeeded op).Placed (.supplyChanged (settledBy op.direction) op.direction op.reason op.attempt op.synchronised) := by
  have blanked : (u.announced op).KeepsKind .supplyChanged (u.announced op).startBlanking :=
    (announced_blanking h).kind.trans (.of_eq _ rfl rfl)
  have kept := (blanked.trans (settleRelay_kind _ (settledBy op.direction) _)).trans (requestCheckpoint_kind _ .relay _)
  exact KeepsKind.placed (x := .supplyChanged (settledBy op.direction) op.direction op.reason op.attempt op.synchronised)
    kept (u.announced_placed op)

end

/-- The window that the beginning of blanking closes is judged for its conditions (R43). -/
theorem succeeded_conditions {u : Part} {x : Window} (op : Operation) (unblanked : u.supply.blankingUntil = none)
    (opened : u.recon.window = some x) :
    (u.succeeded op).condition .pulseIntegrity = decide (16 ≤ x.malformed) ∧
    (u.succeeded op).condition .reverseEnergy = (u.config.live.importOnly && decide (10000 < x.exportTotal)) ∧
    (x.er + u.windowTolerance x < x.ep → (u.succeeded op).AccountDerived) := by
  have derived := derived_of_core (u.announced_core op)
  have window : (u.announced op).recon.window = some x := (congrArg Recon.window (recon_of_derived derived)).trans opened
  have closed : (u.announced op).blankingClosed = (u.announced op).unjudgedClose :=
    if_neg (by simp [announced_supply, unblanked])
  have config := config_of_derived derived
  have tolerance : (u.announced op).windowTolerance x = u.windowTolerance x := by
    rw [windowTolerance, windowTolerance, bankValue_of_derived derived, config]
  obtain ⟨integrity, reverse⟩ := unjudgedClose_conditions window
  have tamper (c : TamperCause) : (u.succeeded op).condition c = (u.announced op).unjudgedClose.condition c := by
    rw [← closed]
    exact congrArg (fun t : Tamper => (t.records.get (causeIndex c)).condition) (u.succeeded_tamper op)
  refine ⟨(tamper _).trans integrity, (tamper _).trans (reverse.trans (by rw [config])), fun short => ?_⟩
  rw [← tolerance] at short
  have charged := unjudgedClose_ok window short
  rw [← closed] at charged
  have blanked : (u.announced op).startBlanking.AccountDerived := charged
  have settled : ((u.announced op).startBlanking.settleRelay (settledBy op.direction)).AccountDerived :=
    blanked.of_core (settleRelay_core _ _) (.of_eq (by simp [settleRelay]))
  exact settled.requestCheckpoint .relay

/-! ### The fault (R111, R112) -/

/-- The part behind a fault, before its decision (R111). -/
def faulted (op : Operation) (u : Part) : Part :=
  ((((u.settleRelay (stuckBy op.direction)).startRetryTimer (stuckBy op.direction)).place
    (.relayFault op.direction op.reason u.inputs.sense)).journal
      (.relayFault op.direction op.reason u.inputs.sense)).requestCheckpoint .relay

theorem fault_eq (op : Operation) (u : Part) : u.fault op = (u.faulted op).recompute := rfl

section
variable (op : Operation) (u : Part)

theorem startRetryTimer_core (st : Settled) (u : Part) : (u.startRetryTimer st).core = u.core := rfl

theorem faulted_core : (u.faulted op).core = u.core := by
  rw [faulted, requestCheckpoint_core, journal_core, place_core, startRetryTimer_core, settleRelay_core]

theorem faulted_supply :
    (u.faulted op).supply =
      { u.supply with
        relay := .settled (stuckBy op.direction), logical := .settled (stuckBy op.direction),
        retryAt := if op.direction = .opening then some (u.timeBase + 3600 * 32768) else none } := by
  cases dir : op.direction <;> simp [faulted, dir, startRetryTimer, stuckBy, Config.seconds]

theorem faulted_requested : (u.faulted op).Requested .relay := requestCheckpoint_requested _ _

theorem faulted_journaled (room : u.store.journal.length < 8) :
    (u.faulted op).Journaled (u.entryNow (.relayFault op.direction op.reason u.inputs.sense)) := by
  let placed := ((u.settleRelay (stuckBy op.direction)).startRetryTimer (stuckBy op.direction)).place
    (.relayFault op.direction op.reason u.inputs.sense)
  have settled : u.KeepsEvidence 0 ((u.settleRelay (stuckBy op.direction)).startRetryTimer (stuckBy op.direction)) :=
    (settleRelay_evidence 0 (stuckBy op.direction) u).before
  have length : placed.store.journal.length ≤ u.store.journal.length + 0 := (settled.trans (place_evidence 0 _ _)).length
  have core : placed.core = u.core := by
    rw [place_core, startRetryTimer_core, settleRelay_core]
  have written := journal_journaled (d := .relayFault op.direction op.reason u.inputs.sense) (u := placed) (by omega)
  rw [entryNow_of_core core] at written
  exact (requestCheckpoint_evidence .relay _).journaled _ written

theorem faulted_placed : (u.faulted op).Placed (.relayFault op.direction op.reason u.inputs.sense) :=
  KeepsKind.placed (x := .relayFault op.direction op.reason u.inputs.sense)
    ((journal_kind _ _ _).trans (requestCheckpoint_kind _ _ _)) (place_placed _ _)

end

/-! ### The judgement (R109) -/

theorem endSettle_of_stage {u : Part} {op : Operation} (relay : u.supply.relay = .operating op) (stage : op.stage = .settle) :
    u.endSettle = if u.verifies op then u.succeed op else u.failAttempt op := by
  simp [endSettle, relay, stage]

theorem verifies_of_opening {u : Part} {op : Operation} (dir : op.direction = .opening) :
    u.verifies op = true ↔ u.inputs.sense = ⟨false, false, false⟩ := by
  simp only [verifies, dir, Bool.not_eq_true', ← Bool.not_eq_true, PhaseSet.any_iff, not_not]

theorem verifies_of_closing {u : Part} {op : Operation} (dir : op.direction = .closing) :
    u.verifies op = true ↔
      (u.expectedPhases.l1 = true → u.inputs.sense.l1 = true) ∧ (u.expectedPhases.l2 = true → u.inputs.sense.l2 = true) ∧
        (u.expectedPhases.l3 = true → u.inputs.sense.l3 = true) := by
  have implies (a b : Bool) : (!a || b) = true ↔ (a = true → b = true) := by
    cases a <;> cases b <;> decide
  simp only [verifies, dir, PhaseSet.covers, Bool.and_eq_true, implies, and_assoc]

theorem blankingAccount_eq (u : Part) :
    u.blankingAccount =
      match u.supply.blankingUntil, u.recon.window with
      | none, some x => if x.er + u.windowTolerance x < x.ep then u.chargedAccount (min 1000000 (x.ep - x.er)) true else u.account
      | _, _ => u.account := by
  unfold blankingAccount unjudgedAccount
  cases u.supply.blankingUntil with
  | some t => rfl
  | none =>
    cases u.recon.window with
    | none => rfl
    | some x => exact u.shortfallAccount_eq x

end Part

theorem settledBy_eq (dir : Direction) : settledBy dir = if dir = .opening then .opened else .closed := by cases dir <;> rfl

theorem stuckBy_eq (dir : Direction) : stuckBy dir = if dir = .opening then .stuckClosed else .stuckOpen := by cases dir <;> rfl

/-- Settles O53: the success, the further attempts and the fault. -/
theorem verifySettlesOrRetries : Obligations.VerifySettlesOrRetries := by
  intro s op relay stage fresh active u sense expected verified reached stuck entry requested
  have phases : u.expectedPhases = expected := u.expectedPhases_eq
  have judged : u.verifies op = true ↔ verified := by
    cases dir : op.direction with
    | opening =>
      have same : verified = (sense = ⟨false, false, false⟩) := by simp only [verified, dir]
      rw [same]
      exact Part.verifies_of_opening dir
    | closing =>
      have same : verified = ((expected.l1 → sense.l1) ∧ (expected.l2 → sense.l2) ∧ (expected.l3 → sense.l3)) := by
        simp only [verified, dir]
      rw [same, ← phases]
      exact Part.verifies_of_closing dir
  have settles : settledBy op.direction = reached := settledBy_eq op.direction
  have sticks : stuckBy op.direction = stuck := stuckBy_eq op.direction
  have written : successEntry op u.supply.record = entry := by
    cases dir : op.direction <;> simp only [successEntry, entry, dir]
  have event : exec .settleEnd s = .next (s.becomes (if u.verifies op then u.succeed op else u.failAttempt op)) := by
    rw [exec_of_active (f := Part.endSettle) active fresh rfl, Part.endSettle_of_stage relay stage]
  refine ⟨fun ok => ⟨u.succeeded op, ?_, ?_, ?_, ?_, ?_, ?_, ?_, ?_, ?_⟩, fun bad early running => ?_,
    fun bad early failing => ?_, fun bad last => ⟨u.faulted op, ?_, Part.faulted_core op u, ?_, ?_, ?_, ?_, ?_, ?_, ?_⟩⟩
  · rw [event, if_pos (judged.mpr ok), Part.succeed_eq]
  · rw [Part.succeeded_supply, settles]
  · rw [Part.succeeded_supply, settles]
  · exact Part.succeeded_record relay
  · exact Part.succeeded_requested op u
  · intro p
    rw [← settles]
    exact Part.succeeded_placed relay p (by cases p <;> rfl)
  · intro room
    rw [← written]
    exact (Part.succeeded_evidence op u).journaled _ (Part.announced_journaled op u (by omega))
  · intro x unblanked opened
    exact Part.succeeded_conditions op unblanked opened
  · rw [Part.succeeded_derived, Part.blankingItems, Part.blankingAccount_eq]
    rfl
  · rw [event, if_neg (fun h => bad (judged.mp h)), Part.failAttempt, if_neg (by omega),
      if_pos (u.running_iff.mpr running)]
    rfl
  · rw [event, if_neg (fun h => bad (judged.mp h)), Part.failAttempt, if_neg (by omega), if_neg (by simp [failing])]
    rfl
  · rw [event, if_neg (fun h => bad (judged.mp h)), Part.failAttempt, if_pos last, Part.fault_eq]
  · rw [Part.faulted_supply, sticks]
  · rw [Part.faulted_supply, sticks]
  · rw [Part.faulted_supply]
  · rw [Part.faulted_supply]
  · exact Part.faulted_requested op u
  · exact fun room => Part.faulted_journaled op u (by omega)
  · exact fun p => Part.faulted_placed op u p (by cases p <;> rfl)

end Sys2Proof.Machine
end

section
/-! The completion of an activation (R62, R82, R88): what is handed over before a midnight that waited goes on. -/

namespace Sys2Proof.Machine

/-- The codes once the serial of a TARIFF_NOW at the head is spent. -/
def Codes.spent (c : Codes) : Codes :=
  match c.head with
  | some (.activating code) => { c with serials := c.serials.mark code.serial }
  | some (.screening _ _) | some (.commit _ _) | none => c

theorem Codes.spent_of_activating {c : Codes} {code : DecodedCode} (head : c.head = some (.activating code)) :
    c.spent = { c with serials := c.serials.mark code.serial } := by
  simp only [spent, head]

theorem Codes.spent_of_other {c : Codes} (head : ∀ code, c.head ≠ some (.activating code)) : c.spent = c := by
  unfold spent
  split
  next code same => exact absurd same (head code)
  all_goals rfl

namespace Part

/-! ### The serial of a TARIFF_NOW -/

theorem spendActivating_of_activating {u : Part} {code : DecodedCode} (head : u.codes.head = some (.activating code)) :
    u.spendActivating =
      journal (.codeAccepted code.kind code.serial code.value .s)
        { u with codes := { u.codes with serials := u.codes.serials.mark code.serial } } := by
  simp only [spendActivating, head]

theorem spendActivating_of_other {u : Part} (head : ∀ code, u.codes.head ≠ some (.activating code)) :
    u.spendActivating = u := by
  unfold spendActivating
  split
  next code same => exact absurd same (head code)
  all_goals rfl

/-- The journal length with the entry that an ending of BYPASS would add. -/
def entriesDue (u : Part) : Nat := u.store.journal.length + (u.condition .bypass).toNat

theorem entriesDue_le (u : Part) : u.entriesDue ≤ u.store.journal.length + 1 := by
  have bound := (u.condition .bypass).toNat_le
  rw [entriesDue]
  omega

theorem length_le_entriesDue (u : Part) : u.store.journal.length ≤ u.entriesDue := Nat.le_add_right _ _

theorem activating_or_not (u : Part) :
    (∃ code, u.codes.head = some (.activating code)) ∨ ∀ code, u.codes.head ≠ some (.activating code) := by
  by_cases h : ∃ code, u.codes.head = some (.activating code)
  · exact .inl h
  · exact .inr (not_exists.mp h)

theorem spendActivating_core (u : Part) :
    u.spendActivating.core = ({ u with codes := u.codes.spent } : Part).core := by
  rcases u.activating_or_not with ⟨code, head⟩ | head
  · rw [spendActivating_of_activating head, Codes.spent_of_activating head]
    exact journal_core _ _
  · rw [spendActivating_of_other head, Codes.spent_of_other head]

theorem spendActivating_steady (u : Part) : u.Steady u.spendActivating := by
  unfold spendActivating
  split
  · exact (journal_steady _ _).after rfl rfl rfl rfl rfl
  all_goals exact .refl u

theorem spendActivating_kind (k : NoticeKind) (u : Part) : u.KeepsKind k u.spendActivating := by
  unfold spendActivating
  split
  · exact (journal_kind k _ _).after rfl rfl
  all_goals exact .refl k u

theorem journal_entries (d : JournalDetail) (u : Part) : (u.journal d).entriesDue ≤ u.entriesDue + 1 := by
  have length := (journal_evidence d u).length
  have condition : (u.journal d).condition .bypass = u.condition .bypass :=
    condition_of_record (tamperRecord_congr (journal_tamper d u) _)
  rw [entriesDue, entriesDue, condition]
  omega

theorem spendActivating_entries (u : Part) : u.spendActivating.entriesDue ≤ u.entriesDue + 1 := by
  rcases u.activating_or_not with ⟨code, head⟩ | head
  · rw [spendActivating_of_activating head]
    exact journal_entries _ { u with codes := { u.codes with serials := u.codes.serials.mark code.serial } }
  · rw [spendActivating_of_other head]
    exact Nat.le_succ _

/-! ### The new bank -/

/-- The part whose active bank is the one written, before the engine walks in it. -/
def bankSwitched (area : Area) (stored : Bool) (u : Part) : Part :=
  { u with tariff := { u.tariff with activeArea := some area, areaCarried := stored, activation := none } }

theorem switchBank_eq (area : Area) (stored : Bool) (u : Part) :
    u.switchBank area stored =
      ((u.bankSwitched area stored).walkQuietly.deriveQuietly.evaluateTamperQuietly).recompute := rfl

theorem switchBank_derived (area : Area) (stored : Bool) (u : Part) :
    (u.switchBank area stored).derived = (u.bankSwitched area stored).walkQuietly.derived := by
  rw [switchBank_eq, recompute_derived, derived_of_core (evaluateTamperQuietly_core _), deriveQuietly_derived]

theorem AccountDerived.evaluateTamperQuietly {u : Part} (h : u.AccountDerived) : u.evaluateTamperQuietly.AccountDerived :=
  h.congr rfl rfl rfl rfl rfl rfl

theorem switchBank_ok (area : Area) (stored : Bool) (u : Part) : (u.switchBank area stored).AccountDerived :=
  (deriveQuietly_ok _).evaluateTamperQuietly.recompute

theorem evaluateTamperQuietly_records (u : Part) : u.SameRecords u.evaluateTamperQuietly := ⟨fun _ _ => rfl, .inl rfl⟩

theorem evaluateTamperQuietly_member (u : Part) :
    u.evaluateTamperQuietly.supply.causes.tamper = u.evaluateTamperQuietly.tamperMember :=
  (u.evaluateTamperQuietly_records.tamperMember (derived_of_core u.evaluateTamperQuietly_core)).symm

theorem switchBank_member (area : Area) (stored : Bool) (u : Part) :
    (u.switchBank area stored).supply.causes.tamper = (u.switchBank area stored).tamperMember := by
  have kept := recompute_steady (u.bankSwitched area stored).walkQuietly.deriveQuietly.evaluateTamperQuietly
  rw [switchBank_eq, kept.tamper, kept.records.tamperMember (recompute_derived _)]
  exact evaluateTamperQuietly_member _

theorem switchBank_records (area : Area) (stored : Bool) (u : Part) : u.SameRecords (u.switchBank area stored) := by
  have walked : u.SameRecords (u.bankSwitched area stored).walkQuietly := ⟨fun _ _ => rfl, .inl rfl⟩
  exact ((walked.trans (deriveQuietly_steady _).records).trans (evaluateTamperQuietly_records _)).trans
    (recompute_steady _).records

theorem switchBank_keeps (area : Area) (stored : Bool) (u : Part) : u.KeepsRun (u.switchBank area stored) := by
  have walked : u.KeepsRun (u.bankSwitched area stored).walkQuietly := .of_eq rfl rfl rfl
  have evaluated (v : Part) : v.KeepsRun v.evaluateTamperQuietly := .of_eq rfl rfl rfl
  exact ((walked.trans (deriveQuietly_steady _).keeps).trans (evaluated _)).trans (recompute_steady _).keeps

theorem switchBank_kind {k : NoticeKind} (h : k ∉ accountKinds) (area : Area) (stored : Bool) (u : Part) :
    u.KeepsKind k (u.switchBank area stored) := by
  have walked : u.KeepsKind k (u.bankSwitched area stored).walkQuietly := .of_eq k rfl rfl
  have evaluated (v : Part) : v.KeepsKind k v.evaluateTamperQuietly := .of_eq k rfl rfl
  exact ((walked.trans (deriveQuietly_kind h _)).trans (evaluated _)).trans (recompute_kind_of_account h _)

theorem SameRecords.condition_le {u v : Part} (h : u.SameRecords v) :
    (v.condition .bypass).toNat ≤ (u.condition .bypass).toNat := by
  rcases h.2 with same | ⟨-, release, ended⟩
  · rw [condition_of_record same]
  · have absent : v.condition .bypass = false := by
      rw [condition, ended]
      exact TamperRecord.ended_condition _ _
    rw [absent]
    exact Nat.zero_le _

theorem switchBank_entries (area : Area) (stored : Bool) (u : Part) :
    (u.switchBank area stored).entriesDue ≤ u.entriesDue := by
  let q := (u.bankSwitched area stored).walkQuietly.deriveQuietly
  have derived := (deriveQuietly_evidence 0 (u.bankSwitched area stored).walkQuietly).length
  have condition := (deriveQuietly_steady (u.bankSwitched area stored).walkQuietly).records.condition_le
  have decided := (recompute_bypass q.evaluateTamperQuietly).entries
  have first : q.store.journal.length ≤ u.store.journal.length := derived
  have second : (q.condition .bypass).toNat ≤ (u.condition .bypass).toNat := condition
  have third : (u.switchBank area stored).store.journal.length + ((u.switchBank area stored).condition .bypass).toNat ≤
    q.store.journal.length + (q.condition .bypass).toNat + 0 := decided
  rw [entriesDue, entriesDue]
  omega

end Part

end Sys2Proof.Machine
end

section
/-! An activation completes (R62): what its checkpoint's end hands over, up to the choice of the next attempt. -/

namespace Sys2Proof.Machine

namespace Part

theorem entryNow_of_derived {w b : Part} (h : w.derived = b.derived) (d : JournalDetail) : w.entryNow d = b.entryNow d := by
  have balance := congrArg Account.balance (books_of_derived h)
  have balance : w.account.balance = b.account.balance := balance
  rw [entryNow, entryNow, stamp, stamp, clock_of_derived h, balance]

theorem policy_of_bank {u v : Part} (h : v.activeBank = u.activeBank) (c : TamperCause) : v.policy c = u.policy c := by
  cases c <;> simp only [policy, bankValue, h]

theorem SameRecords.tamperMember_of_bank {u v : Part} (h : u.SameRecords v) (bank : v.activeBank = u.activeBank) :
    v.tamperMember = u.tamperMember := by
  have holds : v.holdsTamper = u.holdsTamper := by
    funext d
    simp only [holdsTamper, policy_of_bank bank, h.latched d]
  rw [Part.tamperMember, holds, ← Part.tamperMember]

theorem walked_congr {u v : Part} (clock : v.clock = u.clock) (bank : v.activeBank = u.activeBank)
    (tariff : v.tariff = u.tariff) : v.walked = u.walked := by
  rw [Part.walked, Part.walked, clock, bank, tariff]

theorem walkQuietly_of_derived {u v : Part} (h : v.derived = u.derived) :
    v.walkQuietly.derived = u.walkQuietly.derived := by
  have walked : v.walked = u.walked := walked_congr (clock_of_derived h) (activeBank_of_derived h) (tariff_of_derived h)
  rw [walkQuietly, walkQuietly, walked]
  exact derived_map (fun w => { w with tariff := u.walked }) (fun _ => rfl) h

/-! ### The hand-over (R62) -/

section
variable (a : Activation) (ok : Bool) (u : Part)

/-- The serial of a TARIFF_NOW is spent, and the new bank is active. -/
def bankActive : Part := (Part.markDueIf (!ok) u).spendActivating.switchBank a.area ok

/-- The activation is journaled and announced. -/
def bankTaken : Part :=
  ((u.bankActive a ok).journal (.tariffActivated (bankVersion a.image) a.fingerprint a.area)).place
    (.tariffChanged (bankVersion a.image) a.fingerprint)

theorem completeActivation_of_some {u : Part} {a : Activation} (active : u.tariff.activation = some a) (ok : Bool) :
    u.completeActivation ok =
      ((u.bankTaken a ok).endActivating (if ok then .accepted else .acceptedStoreFault)).continueMidnight a.origin := by
  simp only [completeActivation, active]
  rfl

theorem completeActivation_of_none {u : Part} (none : u.tariff.activation = none) (ok : Bool) :
    u.completeActivation ok = u := by
  simp only [completeActivation, none]

/-- The part with the new bank, up to what a derivation changes. -/
def bankItems : Part := (({ u with codes := u.codes.spent } : Part).bankSwitched a.area ok).walkQuietly

theorem bankActive_derived : (u.bankActive a ok).derived = (u.bankItems a ok).derived := by
  have spent : (Part.markDueIf (!ok) u).spendActivating.derived = ({ u with codes := u.codes.spent } : Part).derived := by
    have codes : (Part.markDueIf (!ok) u).codes = u.codes := by simp
    refine (derived_of_core (spendActivating_core _)).trans ?_
    rw [codes]
    exact derived_map (fun w => { w with codes := u.codes.spent }) (fun _ => rfl) (markDueIf_derived _ _)
  have switched := derived_map (fun w => w.bankSwitched a.area ok) (fun _ => rfl) spent
  rw [bankActive, switchBank_derived]
  exact walkQuietly_of_derived switched

theorem bankTaken_derived : (u.bankTaken a ok).derived = (u.bankItems a ok).derived := by
  rw [bankTaken, place_derived, journal_derived, bankActive_derived]

theorem bankActive_keeps : u.KeepsRun (u.bankActive a ok) :=
  ((markDueIf_run _ u).trans (spendActivating_steady _).keeps).trans (switchBank_keeps a.area ok _)

theorem bankTaken_after : (u.bankActive a ok).Steady (u.bankTaken a ok) := (journal_steady _ _).trans (place_steady _ _)

theorem bankTaken_keeps : u.KeepsRun (u.bankTaken a ok) := (u.bankActive_keeps a ok).trans (u.bankTaken_after a ok).keeps

theorem bankTaken_records : u.SameRecords (u.bankTaken a ok) :=
  (((markDueIf_steady _ u).records.trans (spendActivating_steady _).records).trans
    (switchBank_records a.area ok _)).trans (u.bankTaken_after a ok).records

theorem bankTaken_member : (u.bankTaken a ok).supply.causes.tamper = (u.bankTaken a ok).tamperMember := by
  have after := u.bankTaken_after a ok
  have derived : (u.bankTaken a ok).derived = (u.bankActive a ok).derived := by
    rw [bankTaken, place_derived, journal_derived]
  rw [after.tamper, after.records.tamperMember derived]
  exact switchBank_member _ _ _

theorem bankTaken_ok : (u.bankTaken a ok).AccountDerived := by
  have switched : (u.bankActive a ok).AccountDerived := switchBank_ok _ _ _
  exact switched.of_core (by rw [bankTaken, place_core, journal_core]) (.of_eq (by simp [bankTaken]))

theorem bankTaken_placed : (u.bankTaken a ok).Placed (.tariffChanged (bankVersion a.image) a.fingerprint) :=
  place_placed _ _

theorem bankTaken_kind {k : NoticeKind} (h : k ∉ accountKinds) (other : k ≠ .tariffChanged) :
    u.KeepsKind k (u.bankTaken a ok) :=
  ((((markDueIf_kind k _ u).trans (spendActivating_kind k _)).trans (switchBank_kind h a.area ok _)).trans
    (journal_kind k _ _)).trans (place_kind (by exact other.symm) _)

theorem bankTaken_due (failed : ok = false) : (u.bankTaken a ok).checkpointDue = true := by
  have marked : (Part.markDueIf (!ok) u).checkpointDue = true := by
    rw [failed]
    rfl
  exact (((spendActivating_steady _).keeps.trans (switchBank_keeps a.area ok _)).trans
    (u.bankTaken_after a ok).keeps).due marked

end

section
variable {a : Activation} {u : Part} (busy : u.store.inFlight ≠ none) (room : u.entriesDue ≤ 6)
include busy room

theorem bankTaken_queued (ok : Bool) :
    (u.bankActive a ok).entryNow (.tariffActivated (bankVersion a.image) a.fingerprint a.area) ∈
      (u.bankTaken a ok).store.journal := by
  have marked : (Part.markDueIf (!ok) u).entriesDue = u.entriesDue := by
    cases ok <;> rfl
  have spent := spendActivating_entries (Part.markDueIf (!ok) u)
  have switched := switchBank_entries a.area ok (Part.markDueIf (!ok) u).spendActivating
  have length := length_le_entriesDue (u.bankActive a ok)
  have few : (u.bankActive a ok).store.journal.length < 8 := by
    have bound : (u.bankActive a ok).entriesDue ≤ u.entriesDue + 1 := by
      rw [← marked]
      exact switched.trans spent
    omega
  have queued := journal_queued (d := .tariffActivated (bankVersion a.image) a.fingerprint a.area)
    ((u.bankActive_keeps a ok).busy busy) few
  rw [bankTaken, place_store]
  exact queued

theorem bankTaken_spent {code : DecodedCode} (head : u.codes.head = some (.activating code)) (ok : Bool) :
    u.entryNow (.codeAccepted code.kind code.serial code.value .s) ∈ (u.bankTaken a ok).store.journal := by
  have marks : u.KeepsRun (Part.markDueIf (!ok) u) := markDueIf_run _ u
  have head : (Part.markDueIf (!ok) u).codes.head = some (.activating code) := by simpa using head
  have length : (Part.markDueIf (!ok) u).store.journal.length = u.store.journal.length := by cases ok <;> rfl
  have few := length_le_entriesDue u
  have entry : (Part.markDueIf (!ok) u).entryNow (.codeAccepted code.kind code.serial code.value .s) =
      u.entryNow (.codeAccepted code.kind code.serial code.value .s) := entryNow_of_derived (markDueIf_derived _ _) _
  have queued := journal_queued (d := .codeAccepted code.kind code.serial code.value .s)
    (u := { Part.markDueIf (!ok) u with codes :=
      { (Part.markDueIf (!ok) u).codes with serials := (Part.markDueIf (!ok) u).codes.serials.mark code.serial } })
    (marks.busy busy) (by rw [length]; omega)
  have spent : u.entryNow (.codeAccepted code.kind code.serial code.value .s) ∈
      (Part.markDueIf (!ok) u).spendActivating.store.journal := by
    rw [spendActivating_of_activating head, ← entry]
    exact queued
  have stillBusy := (marks.trans (spendActivating_steady _).keeps).busy busy
  exact ((switchBank_keeps a.area ok _).trans (u.bankTaken_after a ok).keeps).queue stillBusy _ spent

end

end Part

end Sys2Proof.Machine
end

section
/-! What stands behind the completion of an activation: the engine, the account, the codes, the evidence and the midnight that
waited (R61, R62, R64, R82). -/

namespace Sys2Proof.Machine

namespace Part

/-! ### The result of a TARIFF_NOW -/

theorem endActivating_of_activating {u : Part} {code : DecodedCode} (head : u.codes.head = some (.activating code))
    (result : CodeResult) : u.endActivating result = u.settleHead result (some code) none := by
  simp only [endActivating, head]

theorem endActivating_of_other {u : Part} (head : ∀ code, u.codes.head ≠ some (.activating code)) (result : CodeResult) :
    u.endActivating result = u := by
  unfold endActivating
  split
  next code same => exact absurd same (head code)
  all_goals rfl

theorem endActivating_steady (result : CodeResult) (u : Part) : u.Steady (u.endActivating result) := by
  rcases u.activating_or_not with ⟨code, head⟩ | head
  · rw [endActivating_of_activating head]; exact settleHead_steady _ _ _ u
  · rw [endActivating_of_other head]; exact .refl u

theorem endActivating_kind {k : NoticeKind} (other : k ≠ .codeResult) (result : CodeResult) (u : Part) :
    u.KeepsKind k (u.endActivating result) := by
  rcases u.activating_or_not with ⟨code, head⟩ | head
  · rw [endActivating_of_activating head]; exact settleHead_kind other _ _ _ u
  · rw [endActivating_of_other head]; exact .refl k u

theorem endActivating_core (result : CodeResult) (u : Part) :
    (u.endActivating result).core = ({ u with codes := (u.endActivating result).codes } : Part).core := by
  rcases u.activating_or_not with ⟨code, head⟩ | head
  · rw [endActivating_of_activating head]; exact settleHead_core _ _ _ u
  · rw [endActivating_of_other head]

theorem endActivating_causes (result : CodeResult) (u : Part) :
    (u.endActivating result).supply = u.supply ∧ (u.endActivating result).account = u.account ∧
      (u.endActivating result).accountCauses = u.accountCauses := by
  rcases u.activating_or_not with ⟨code, head⟩ | head
  · rw [endActivating_of_activating head]
    cases queue : u.codes.queue with
    | nil => simp only [settleHead, queue, and_self]
    | cons e rest => rw [settleHead_eq queue]; exact ⟨rfl, rfl, rfl⟩
  · rw [endActivating_of_other head]; exact ⟨rfl, rfl, rfl⟩

theorem endActivating_ok {u : Part} (h : u.AccountDerived) (result : CodeResult) : (u.endActivating result).AccountDerived := by
  obtain ⟨supply, account, causes⟩ := endActivating_causes result u
  have core := derived_of_core (endActivating_core result u)
  have bank : (u.endActivating result).activeBank = u.activeBank :=
    (activeBank_of_derived core).trans (activeBank_congr rfl rfl rfl)
  have tariff : (u.endActivating result).tariff = u.tariff := (tariff_of_derived core).trans rfl
  exact h.congr (by rw [account]) bank (by rw [tariff]) causes (by rw [supply]) (by rw [supply])

/-- The codes are no input of the tariff and of the active bank. -/
theorem tariff_of_derivedWithCodes {u w : Part} {k : Codes} (h : w.derived = ({ u with codes := k } : Part).derived) :
    w.tariff = u.tariff := by
  have tariff := congrArg Part.tariff h
  exact tariff

theorem bank_of_derivedWithCodes {u w : Part} {k : Codes} (h : w.derived = ({ u with codes := k } : Part).derived) :
    w.activeBank = u.activeBank := (activeBank_of_derived h).trans (activeBank_congr rfl rfl rfl)

/-! ### The completed activation -/

section
variable (a : Activation) (ok : Bool) (u : Part)

/-- The part before a midnight that waited goes on (R62). -/
def bankHanded : Part := (u.bankTaken a ok).endActivating (if ok then .accepted else .acceptedStoreFault)

theorem bankTaken_codes : (u.bankTaken a ok).codes = u.codes.spent := by
  have codes := codes_of_derived (u.bankTaken_derived a ok)
  exact codes

theorem bankTaken_config : (u.bankTaken a ok).config = u.config := by
  have config := config_of_derived (u.bankTaken_derived a ok)
  exact config

theorem bankHanded_derived :
    (u.bankHanded a ok).derived = ({ u.bankItems a ok with codes := (u.bankHanded a ok).codes } : Part).derived := by
  refine (derived_of_core (endActivating_core _ _)).trans ?_
  exact derived_map (fun w => { w with codes := (u.bankHanded a ok).codes }) (fun _ => rfl) (u.bankTaken_derived a ok)

theorem bankHanded_tariff : (u.bankHanded a ok).tariff = (u.bankSwitched a.area ok).walked := by
  have tariff : (u.bankHanded a ok).tariff = (u.bankItems a ok).tariff :=
    tariff_of_derivedWithCodes (u.bankHanded_derived a ok)
  have items : (u.bankItems a ok).tariff = (({ u with codes := u.codes.spent } : Part).bankSwitched a.area ok).walked := rfl
  have walked : (({ u with codes := u.codes.spent } : Part).bankSwitched a.area ok).walked =
      (u.bankSwitched a.area ok).walked := walked_congr rfl (activeBank_congr rfl rfl rfl) rfl
  exact (tariff.trans items).trans walked

theorem bankHanded_records : u.SameRecords (u.bankHanded a ok) :=
  (u.bankTaken_records a ok).trans (endActivating_steady _ _).records

theorem bankHanded_keeps : u.KeepsRun (u.bankHanded a ok) :=
  (u.bankTaken_keeps a ok).trans (endActivating_steady _ _).keeps

theorem bankHanded_bank : (u.bankHanded a ok).activeBank = (u.bankTaken a ok).activeBank := by
  rw [activeBank_of_derived (u.bankTaken_derived a ok), bank_of_derivedWithCodes (u.bankHanded_derived a ok)]

theorem bankHanded_member : (u.bankHanded a ok).supply.causes.tamper = (u.bankHanded a ok).tamperMember := by
  have steady := endActivating_steady (if ok then .accepted else .acceptedStoreFault) (u.bankTaken a ok)
  have causes : (u.bankHanded a ok).supply.causes.tamper = (u.bankTaken a ok).supply.causes.tamper := steady.tamper
  rw [causes, bankTaken_member, ← steady.records.tamperMember_of_bank (u.bankHanded_bank a ok)]
  rfl

theorem bankHanded_ok : (u.bankHanded a ok).AccountDerived := endActivating_ok (u.bankTaken_ok a ok) _

theorem bankHanded_placed : (u.bankHanded a ok).Placed (.tariffChanged (bankVersion a.image) a.fingerprint) :=
  KeepsKind.placed (x := .tariffChanged (bankVersion a.image) a.fingerprint) (endActivating_kind (k := .tariffChanged) (by decide) _ _)
    (u.bankTaken_placed a ok)

theorem bankHanded_due (failed : ok = false) : (u.bankHanded a ok).checkpointDue = true :=
  (endActivating_steady _ _).keeps.due (u.bankTaken_due a ok failed)

end

section
variable {a : Activation} {u : Part}

theorem bankHanded_of_activating {code : DecodedCode} {e : CodeEntry} {rest : List CodeEntry} (ok : Bool)
    (head : u.codes.head = some (.activating code)) (queue : u.codes.queue = e :: rest) :
    (u.bankHanded a ok).codes = u.queueLeft rest (u.codes.serials.mark code.serial) ∧
      (u.bankHanded a ok).Holds e.port
        (.codeResult (if ok then .accepted else .acceptedStoreFault) (some code) none) := by
  have codes : (u.bankTaken a ok).codes = { u.codes with serials := u.codes.serials.mark code.serial } :=
    (u.bankTaken_codes a ok).trans (Codes.spent_of_activating head)
  have head : (u.bankTaken a ok).codes.head = some (.activating code) := by rw [codes]; exact head
  have queue : (u.bankTaken a ok).codes.queue = e :: rest := by rw [codes]; exact queue
  rw [bankHanded, endActivating_of_activating head]
  refine ⟨?_, settleHead_holds queue _ _ _⟩
  rw [settleHead_codes queue, queueLeft, bankTaken_config, codes]
  rfl

theorem bankHanded_of_other (ok : Bool) (head : ∀ code, u.codes.head ≠ some (.activating code)) :
    u.bankHanded a ok = u.bankTaken a ok := by
  have codes : (u.bankTaken a ok).codes = u.codes := (u.bankTaken_codes a ok).trans (Codes.spent_of_other head)
  rw [bankHanded, endActivating_of_other (by rw [codes]; exact head)]

theorem bankHanded_codes_of_other (ok : Bool) (head : ∀ code, u.codes.head ≠ some (.activating code)) :
    (u.bankHanded a ok).codes = u.codes := by
  rw [bankHanded_of_other ok head]
  exact (u.bankTaken_codes a ok).trans (Codes.spent_of_other head)

/-- A result placed before stays pending when no TARIFF_NOW is at the head. -/
theorem bankHanded_holds {p : Port} {x : Notice} (kind : x.kind = .codeResult) (ok : Bool)
    (head : ∀ code, u.codes.head ≠ some (.activating code)) (held : u.Holds p x) : (u.bankHanded a ok).Holds p x := by
  rw [bankHanded_of_other ok head]
  exact (u.bankTaken_kind a ok (k := .codeResult) (by decide) (by decide)).holds kind held

end

/-! ### Behind the next attempt's choice -/

theorem endAttempt_supply (u : Part) : u.endAttempt.supply = u.supply := by simp [endAttempt_eq, putInFlight]

theorem AccountDerived.endAttempt {u : Part} (h : u.AccountDerived) : u.endAttempt.AccountDerived :=
  h.of_core u.endAttempt_core (.of_eq (by rw [endAttempt_supply]))

section
variable {a : Activation} {u : Part} (active : u.tariff.activation = some a) (ok : Bool)
include active

theorem completeActivation_eq : u.completeActivation ok = (u.bankHanded a ok).continueMidnight a.origin :=
  completeActivation_of_some active ok

theorem completeActivation_bank : (u.bankHanded a ok).KeepsBank (u.completeActivation ok) := by
  rw [completeActivation_eq active ok]
  exact continueMidnight_bank _ _

theorem completeActivation_records : u.SameRecords (u.completeActivation ok) :=
  (u.bankHanded_records a ok).trans (completeActivation_bank active ok).steady.records

theorem completeActivation_keeps : u.KeepsRun (u.completeActivation ok) :=
  (u.bankHanded_keeps a ok).trans (completeActivation_bank active ok).steady.keeps

theorem completeActivation_member :
    (u.completeActivation ok).supply.causes.tamper = (u.completeActivation ok).tamperMember := by
  have kept := completeActivation_bank active ok
  rw [kept.steady.tamper, kept.steady.records.tamperMember_of_bank kept.bank]
  exact u.bankHanded_member a ok

theorem completeActivation_engine :
    (u.completeActivation ok).tariff.engine = ((u.bankSwitched a.area ok).walked).engine := by
  rw [(completeActivation_bank active ok).engine, bankHanded_tariff]

theorem completeActivation_queued {q : JournalRequest} (busy : u.store.inFlight ≠ none)
    (queued : q ∈ (u.bankTaken a ok).store.journal) : q ∈ (u.completeActivation ok).store.journal :=
  (completeActivation_bank active ok).steady.keeps.queue ((u.bankHanded_keeps a ok).busy busy) q
    ((endActivating_steady _ _).keeps.queue ((u.bankTaken_keeps a ok).busy busy) q queued)

end

end Part

end Sys2Proof.Machine
end

section
/-! A completed activation and the next attempt behind it (R62, R64): the engine, the midnight that waited and the code. -/

namespace Sys2Proof.Machine

theorem Midnight.limiter_eq (m : Midnight) (l : Load) :
    m.limiter l = if m.backward = false ∨ Config.backwardSettingEndsLockout = true then { l with extended := false } else l := by
  have reaches : m.reachesLimiter = true ↔ m.backward = false ∨ Config.backwardSettingEndsLockout = true := by
    simp [Midnight.reachesLimiter]
  exact if_congr reaches rfl rfl

namespace Part

theorem endAttempt_kind (k : NoticeKind) (u : Part) : u.KeepsKind k u.endAttempt := by
  have ended : u.KeepsKind k (u.putInFlight none) := .of_eq k rfl rfl
  exact ended.trans (.of_sansStore k (startNext_sansStore _))

theorem endAttempt_tariff (u : Part) : u.endAttempt.tariff = u.tariff := tariff_of_derived (derived_of_core u.endAttempt_core)

theorem endAttempt_bank (u : Part) : u.endAttempt.activeBank = u.activeBank :=
  activeBank_of_derived (derived_of_core u.endAttempt_core)

theorem endAttempt_clock (u : Part) : u.endAttempt.clock = u.clock := clock_of_derived (derived_of_core u.endAttempt_core)

theorem endAttempt_load (u : Part) : u.endAttempt.load = u.load := load_of_derived (derived_of_core u.endAttempt_core)

theorem endAttempt_books (u : Part) : u.endAttempt.account.books = u.account.books :=
  books_of_derived (derived_of_core u.endAttempt_core)

theorem endAttempt_holds {p : Port} {x : Notice} {u : Part} (held : u.Holds p x) : u.endAttempt.Holds p x :=
  holds_of_notices u.endAttempt_notices held

theorem endAttempt_records (u : Part) : u.SameRecords u.endAttempt := by
  have same := tamperRecord_congr u.endAttempt_tamper
  exact ⟨fun d _ => same d, .inl (same .bypass)⟩

/-- A midnight processed whole while an attempt is in flight leaves its checkpoint waiting (R64). -/
theorem finishMidnight_waits {u : Part} (busy : u.store.inFlight ≠ none) (m : Midnight) : (u.finishMidnight m).Waits .midnight := by
  have charged : u.KeepsRun (if u.tariff.lastStandingDay < m.day then u.dayCharge.closeDay m.day else u) :=
    (Steady.ite ((dayCharge_steady u).trans (closeDay_steady _ _)) (.refl u)).keeps
  have busy := charged.busy busy
  have waits := requestCheckpoint_waits (r := .midnight) busy
  have told (v : Part) : v.KeepsRun (if m.reachesLimiter then v.loadMidnight else v) :=
    (Steady.ite (putLoad_steady _ v) (.refl v)).keeps
  exact (told _).waits ((requestCheckpoint_run .midnight _).busy busy) _ waits

/-! ### The handed-over bank -/

section
variable {a : Activation} {u : Part} (ok : Bool)

theorem bankHanded_clock : (u.bankHanded a ok).clock = u.clock := by
  have clock := clock_of_derived (u.bankHanded_derived a ok)
  exact clock

theorem bankHanded_load : (u.bankHanded a ok).load = u.load := by
  have load := load_of_derived (u.bankHanded_derived a ok)
  exact load

theorem bankHanded_books : (u.bankHanded a ok).account.books = u.account.books := by
  have books := books_of_derived (u.bankHanded_derived a ok)
  exact books

/-- What the walk leaves of the engine. -/
theorem walked_elsewhere (v : Part) :
    v.walked.activeArea = v.tariff.activeArea ∧ v.walked.areaCarried = v.tariff.areaCarried ∧
      v.walked.activation = v.tariff.activation ∧ v.walked.midnight = v.tariff.midnight ∧
      v.walked.midnightsWaiting = v.tariff.midnightsWaiting ∧ v.walked.lastStandingDay = v.tariff.lastStandingDay := by
  by_cases valid : v.clock.valid = true
  · cases bank : v.activeBank with
    | none => rw [walked_of_none (.inr bank)]; exact ⟨rfl, rfl, rfl, rfl, rfl, rfl⟩
    | some i => simp only [Part.walked, valid, bank, if_true, and_self]
  · rw [walked_of_none (.inl (eq_false_of_ne_true valid))]
    exact ⟨rfl, rfl, rfl, rfl, rfl, rfl⟩

theorem bankHanded_midnight :
    (u.bankHanded a ok).tariff.activation = none ∧ (u.bankHanded a ok).tariff.midnight = u.tariff.midnight ∧
      (u.bankHanded a ok).tariff.midnightsWaiting = u.tariff.midnightsWaiting ∧
      (u.bankHanded a ok).tariff.lastStandingDay = u.tariff.lastStandingDay := by
  obtain ⟨-, -, activation, midnight, waiting, day⟩ := walked_elsewhere (u.bankSwitched a.area ok)
  rw [bankHanded_tariff]
  exact ⟨activation, midnight, waiting, day⟩

end

/-! ### The completed activation -/

section
variable {a : Activation} {u : Part} (active : u.tariff.activation = some a) (ok : Bool)
include active

/-- The new area is active, and it has been carried where its checkpoint succeeded (R62; log 11). -/
theorem completed_area :
    (u.completeActivation ok).endAttempt.tariff.activeArea = some a.area ∧
      (u.completeActivation ok).endAttempt.tariff.areaCarried = ok := by
  have engine := completeActivation_engine active ok
  obtain ⟨area, carried, -⟩ := walked_elsewhere (u.bankSwitched a.area ok)
  have newArea := congrArg Tariff.activeArea engine
  have newCarried := congrArg Tariff.areaCarried engine
  rw [endAttempt_tariff]
  exact ⟨newArea.trans area, newCarried.trans carried⟩

theorem completed_walk_of_valid {i : Image} (bank : (u.bankSwitched a.area ok).activeBank = some i)
    (valid : u.clock.valid = true) :
    (u.completeActivation ok).endAttempt.tariff.currentRecord = some (currentRecord i u.clock.count) ∧
      (u.completeActivation ok).endAttempt.tariff.band = recordBand i (currentRecord i u.clock.count) ∧
      (u.completeActivation ok).endAttempt.tariff.friendly = recordFriendly i (currentRecord i u.clock.count) := by
  have engine := completeActivation_engine active ok
  have valid : (u.bankSwitched a.area ok).clock.valid = true := valid
  have newRecord := congrArg Tariff.currentRecord engine
  have newBand := congrArg Tariff.band engine
  have newFriendly := congrArg Tariff.friendly engine
  rw [endAttempt_tariff]
  exact ⟨newRecord.trans (walked_record valid bank), newBand.trans (walked_band valid bank),
    newFriendly.trans (walked_friendly valid bank)⟩

theorem completed_walk_of_invalid (invalid : u.clock.valid = false) :
    (u.completeActivation ok).endAttempt.tariff.currentRecord = none ∧
      (u.completeActivation ok).endAttempt.tariff.band = 0 ∧
      (u.completeActivation ok).endAttempt.tariff.friendly = false := by
  have invalid : (u.bankSwitched a.area ok).clock.valid = false := invalid
  have engine := completeActivation_engine active ok
  rw [walked_of_none (.inl invalid)] at engine
  have newRecord := congrArg Tariff.currentRecord engine
  have newBand := congrArg Tariff.band engine
  have newFriendly := congrArg Tariff.friendly engine
  rw [endAttempt_tariff]
  exact ⟨newRecord, newBand, newFriendly⟩

theorem completed_due (failed : ok = false) : (u.completeActivation ok).endAttempt.checkpointDue = true :=
  endAttempt_due ((completeActivation_bank active ok).steady.keeps.due (u.bankHanded_due a ok failed))

theorem completed_ok : (u.completeActivation ok).endAttempt.AccountDerived :=
  ((completeActivation_bank active ok).ok (u.bankHanded_ok a ok)).endAttempt

theorem completed_member :
    (u.completeActivation ok).endAttempt.supply.causes.tamper = true ↔
      ∃ d, (u.completeActivation ok).endAttempt.policy d = .disconnect ∧
        ((u.completeActivation ok).endAttempt.tamperRecord d).state ≠ .quiet ∧
        ((u.completeActivation ok).endAttempt.tamperRecord d).state ≠ .pending false := by
  rw [endAttempt_supply, completeActivation_member active ok,
    ← (endAttempt_records _).tamperMember_of_bank (endAttempt_bank _), tamperMember_iff]

theorem completed_placed :
    (u.completeActivation ok).endAttempt.Placed (.tariffChanged (bankVersion a.image) a.fingerprint) := by
  have changed := (completeActivation_bank active ok).kinds .tariffChanged (by decide)
  exact KeepsKind.placed (x := .tariffChanged (bankVersion a.image) a.fingerprint) (changed.trans (endAttempt_kind _ _))
    (u.bankHanded_placed a ok)

theorem completed_codes : (u.completeActivation ok).endAttempt.codes = (u.bankHanded a ok).codes := by
  rw [endAttempt_codes, (completeActivation_bank active ok).codes]

theorem completed_holds {p : Port} {x : Notice} (kind : x.kind = .codeResult) (held : (u.bankHanded a ok).Holds p x) :
    (u.completeActivation ok).endAttempt.Holds p x :=
  endAttempt_holds (((completeActivation_bank active ok).kinds .codeResult (by decide)).holds kind held)

/-- No midnight waited for the activation. -/
theorem completed_of_unwaited (still : a.origin ≠ .midnight ∨ u.tariff.midnight = none) :
    (u.completeActivation ok).endAttempt.tariff.activation = none ∧
      (u.completeActivation ok).endAttempt.tariff.midnight = u.tariff.midnight ∧
      (u.completeActivation ok).endAttempt.tariff.lastStandingDay = u.tariff.lastStandingDay ∧
      (u.completeActivation ok).endAttempt.clock = u.clock ∧ (u.completeActivation ok).endAttempt.load = u.load ∧
      (u.completeActivation ok).endAttempt.account.books = u.account.books := by
  obtain ⟨activation, midnight, -, day⟩ := u.bankHanded_midnight (a := a) ok
  have none : u.completeActivation ok = u.bankHanded a ok := by
    rw [completeActivation_eq active ok, continueMidnight_of_none]
    rw [midnight]
    exact still
  rw [endAttempt_tariff, endAttempt_clock, endAttempt_load, endAttempt_books, none]
  exact ⟨activation, midnight, day, bankHanded_clock ok, bankHanded_load ok, bankHanded_books ok⟩

/-- The midnight that waited alone goes on. -/
theorem completed_of_midnight {m : Midnight} (origin : a.origin = .midnight) (midnight : u.tariff.midnight = some m)
    (alone : u.tariff.midnightsWaiting = []) :
    u.completeActivation ok = (u.bankHanded a ok).midnightDone m := by
  obtain ⟨-, waits, behind, -⟩ := u.bankHanded_midnight (a := a) ok
  rw [completeActivation_eq active ok, origin, continueMidnight_of_some (waits.trans midnight) (behind.trans alone)]

end

/-! ### A midnight behind an activation (R64) -/

/-- The midnight `m` has gone on from `u` with this standing charge. -/
structure MidnightEnded (m : Midnight) (charge : Nat) (u v : Part) : Prop where
  tariff : v.tariff.activation = u.tariff.activation ∧ v.tariff.midnight = none ∧ v.tariff.activeArea = u.tariff.activeArea
  requested : v.Requested .midnight
  load : v.load =
    if m.backward = false ∨ Config.backwardSettingEndsLockout = true then { u.load with extended := false } else u.load
  unclosed : u.tariff.lastStandingDay < m.day →
    v.tariff.lastStandingDay = m.day ∧ v.clock = { u.clock with adjustment := 0 } ∧
      v.account.books = (if charge = 0 then u.account else u.account.standing charge).books
  closed : m.day ≤ u.tariff.lastStandingDay →
    v.tariff.lastStandingDay = u.tariff.lastStandingDay ∧ v.clock = u.clock ∧ v.account.books = u.account.books

theorem midnightDone_ended {u : Part} (busy : u.store.inFlight ≠ none) (m : Midnight) :
    u.MidnightEnded m (u.bankValue bankStandingCharge 0) (u.midnightDone m).endAttempt := by
  have run := u.midnightDone_run m
  have waits : (u.midnightDone m).Waits .midnight := finishMidnight_waits busy m
  have account : u.dayAccount = if u.bankValue bankStandingCharge 0 = 0 then u.account
      else u.account.standing (u.bankValue bankStandingCharge 0) := by
    split
    next none => exact dayAccount_of_noCharge none
    next some => exact dayAccount_of_charge some
  refine ⟨?_, endAttempt_requested waits, ?_, fun day => ?_, fun day => ?_⟩
  · rw [endAttempt_tariff, run.tariff]
    exact ⟨rfl, rfl, rfl⟩
  · rw [endAttempt_load, run.load, Midnight.limiter_eq]
  · rw [endAttempt_tariff, endAttempt_clock, endAttempt_books, ← account]
    exact run.of_unclosed day
  · rw [endAttempt_tariff, endAttempt_clock, endAttempt_books]
    exact run.of_closed (Nat.not_lt.mpr day)

end Part

end Sys2Proof.Machine
end

section
/-! The end of a checkpoint attempt (R90, R152, R156, R157): success, retry, and the second failure. -/

namespace Sys2Proof.Machine

theorem NvArray.slotAfter_eq (v : NvArray) (slot : Nat) :
    v.slotAfter slot =
      if v.newestCheckpoint.map Prod.fst = some ((slot + 1) % 64) then ((slot + 1) % 64 + 1) % 64 else (slot + 1) % 64 := by
  unfold NvArray.slotAfter
  cases v.newestCheckpoint with
  | none => rfl
  | some x => exact if_congr (by rw [Option.map_some, Option.some_inj, eq_comm]) rfl rfl

namespace Part

/-! ### Before the code and the activation learn the outcome -/

/-- A checkpoint that reads back, before the conditions of R152. -/
def checkpointWritten (c : CheckpointAttempt) (u : Part) : Part :=
  Part.setFailureRun 0
    { u with array := u.array.setLog c.slot (.valid c.record), checkpointDue := c.changedSince }

/-- A checkpoint that reads back, before the code and the activation that it served learn it. -/
def checkpointKept (c : CheckpointAttempt) (u : Part) : Part :=
  ((u.checkpointWritten c).setCondition .storeFault false).noteCarried c.record.activeArea

/-- A checkpoint that failed twice, before the code and the activation that it served learn it. -/
def checkpointFailed (c : CheckpointAttempt) (u : Part) : Part :=
  (u.journal (.storeFault 1 c.slot c.firstSequence c.record.sequence)).noteFailure

/-- `v` is `u` once the store controller has noted an attempt's outcome: the attempt is still in flight, and the carried items
stand but for the mark of the active area. -/
structure Outcome (u v : Part) : Prop where
  derived : ∃ carried, v.derived =
    ({ u with tariff := { u.tariff with areaCarried := carried }, codes := v.codes } : Part).derived
  busy : v.store.inFlight ≠ none
  entries : v.entriesDue ≤ u.entriesDue + 2

theorem EndsBypass.entriesDue {n : Nat} {u v : Part} (h : u.EndsBypass n v) : v.entriesDue ≤ u.entriesDue + n := h.entries

section
variable {c : CheckpointAttempt} {u : Part}

theorem checkpointKept_codes : (u.checkpointKept c).codes = u.codes := by
  have codes : ((u.checkpointWritten c).setCondition .storeFault false).codes = (u.checkpointWritten c).codes := by simp
  exact codes

theorem checkpointKept_outcome (busy : u.store.inFlight ≠ none) : u.Outcome (u.checkpointKept c) := by
  have ended := setCondition_false_bypass (c := .storeFault) (by decide) rfl (u.checkpointWritten c)
  have core : (u.checkpointKept c).core =
      ({ u.checkpointWritten c with
        tariff := { u.tariff with areaCarried := (u.checkpointKept c).tariff.areaCarried } } : Part).core := by
    have noted := congrArg
      (fun w : Part => { w with tariff := { w.tariff with areaCarried := (u.checkpointKept c).tariff.areaCarried } })
      (setCondition_core .storeFault false (u.checkpointWritten c))
    exact noted
  refine ⟨⟨(u.checkpointKept c).tariff.areaCarried, ?_⟩, ended.keeps.busy busy, Nat.le_succ_of_le ended.entriesDue⟩
  rw [checkpointKept_codes]
  exact derived_of_core core

theorem checkpointKept_condition : (u.checkpointKept c).condition .storeFault = false :=
  setCondition_condition (by decide) false (u.checkpointWritten c)

theorem checkpointKept_run : (u.checkpointKept c).store.failureRun = 0 :=
  (setCondition_false_bypass (c := .storeFault) (by decide) rfl (u.checkpointWritten c)).keeps.run

theorem checkpointFailed_core : (u.checkpointFailed c).core = u.core := by
  rw [checkpointFailed, noteFailure_core, journal_core]

theorem checkpointFailed_codes : (u.checkpointFailed c).codes = u.codes := codes_of_derived (derived_of_core checkpointFailed_core)

theorem failedOnce_entries (u : Part) : u.failedOnce.entriesDue = u.entriesDue := rfl

theorem checkpointFailed_outcome (busy : u.store.inFlight ≠ none) : u.Outcome (u.checkpointFailed c) := by
  have entries := journal_entries (.storeFault 1 c.slot c.firstSequence c.record.sequence) u
  have failed := noteFailure_bypass (u.journal (.storeFault 1 c.slot c.firstSequence c.record.sequence))
  have counted := failed.entriesDue
  rw [failedOnce_entries] at counted
  refine ⟨⟨u.tariff.areaCarried, ?_⟩, failed.keeps.busy ((journal_run _ u).busy busy), ?_⟩
  · rw [checkpointFailed_codes]
    exact derived_of_core checkpointFailed_core
  · rw [checkpointFailed]
    omega

theorem checkpointFailed_run : (u.checkpointFailed c).store.failureRun = min 255 (u.store.failureRun + 1) := by
  rw [checkpointFailed, noteFailure_run, (journal_run _ u).run]

theorem checkpointFailed_condition (run : 1 ≤ u.store.failureRun) : (u.checkpointFailed c).condition .storeFault = true :=
  noteFailure_condition (by rw [(journal_run _ u).run]; exact run)

theorem checkpointFailed_due (due : u.checkpointDue = true) : (u.checkpointFailed c).checkpointDue = true :=
  (noteFailure_bypass _).keeps.due ((journal_run _ u).due due)

theorem checkpointFailed_queued (busy : u.store.inFlight ≠ none) (room : u.store.journal.length < 8) :
    u.entryNow (.storeFault 1 c.slot c.firstSequence c.record.sequence) ∈ (u.checkpointFailed c).store.journal :=
  (noteFailure_bypass _).keeps.queue ((journal_run _ u).busy busy) _ (journal_queued busy room)

end

/-! ### The code that the checkpoint carried (R90) -/

theorem endCommit_core (stored : Bool) (u : Part) :
    (u.endCommit stored).core = ({ u with codes := (u.endCommit stored).codes } : Part).core := by
  unfold endCommit
  split
  · exact settleHead_core _ _ _ u
  all_goals rfl

theorem settleHead_entries (result : CodeResult) (code : Option DecodedCode) (credit : Option (TopUpSplit × Int)) (u : Part) :
    (u.settleHead result code credit).entriesDue = u.entriesDue := by
  cases queue : u.codes.queue with
  | nil => simp only [settleHead, queue]
  | cons e rest => rw [settleHead_eq queue]; rfl

theorem endCommit_entries (stored : Bool) (u : Part) : (u.endCommit stored).entriesDue = u.entriesDue := by
  unfold endCommit
  split
  · exact settleHead_entries _ _ _ u
  all_goals rfl

/-- The part in which the code that the checkpoint carried has learned the outcome. -/
def commitTold (c : CheckpointAttempt) (stored : Bool) (u : Part) : Part := if c.carriesCode then u.endCommit stored else u

theorem reportCheckpoint_eq (c : CheckpointAttempt) (stored : Bool) (u : Part) :
    u.reportCheckpoint c stored =
      if c.carriesActivation then (u.commitTold c stored).completeActivation stored else u.commitTold c stored := rfl

section
variable (c : CheckpointAttempt) (stored : Bool) (u : Part)

theorem commitTold_steady : u.Steady (u.commitTold c stored) := .ite (endCommit_steady stored u) (.refl u)

theorem commitTold_derived :
    (u.commitTold c stored).derived = ({ u with codes := (u.commitTold c stored).codes } : Part).derived := by
  unfold commitTold
  split
  · exact derived_of_core (endCommit_core stored u)
  · rfl

theorem commitTold_entries : (u.commitTold c stored).entriesDue = u.entriesDue := by
  unfold commitTold
  split
  · exact endCommit_entries stored u
  · rfl

theorem completeActivation_told :
    u.SameRecords (u.completeActivation stored) ∧ u.KeepsRun (u.completeActivation stored) := by
  cases active : u.tariff.activation with
  | none => rw [completeActivation_of_none active]; exact ⟨(Steady.refl u).records, (Steady.refl u).keeps⟩
  | some a => exact ⟨completeActivation_records active stored, completeActivation_keeps active stored⟩

theorem reportCheckpoint_told :
    u.SameRecords (u.reportCheckpoint c stored) ∧ u.KeepsRun (u.reportCheckpoint c stored) := by
  have told := u.commitTold_steady c stored
  obtain ⟨records, keeps⟩ := completeActivation_told stored (u.commitTold c stored)
  rw [reportCheckpoint_eq]
  split
  · exact ⟨told.records.trans records, told.keeps.trans keeps⟩
  · exact ⟨told.records, told.keeps⟩

end

section
variable {c : CheckpointAttempt} {u : Part}

theorem commitTold_of_other (other : c.carriesCode = false ∨ ∀ code split, u.codes.head ≠ some (.commit code split))
    (stored : Bool) : u.commitTold c stored = u := by
  unfold commitTold
  split
  next carries => exact endCommit_of_other (other.resolve_left (by simp [carries])) stored
  next => rfl

variable {code : DecodedCode} {split : Option TopUpSplit} {e : CodeEntry} {rest : List CodeEntry} (carries : c.carriesCode = true)
  (head : u.codes.head = some (.commit code split)) (queue : u.codes.queue = e :: rest) (stored : Bool)
include carries head queue

theorem commitTold_eq :
    u.commitTold c stored =
      { u.placeOn e.port
          (.codeResult (if stored then .accepted else .acceptedStoreFault) (some code)
            (split.map (fun x => (x, u.account.balance)))) with
        codes := u.queueLeft rest u.codes.serials } := by
  rw [commitTold, if_pos carries, endCommit_of_commit head, settleHead_eq queue]

theorem commitTold_codes : (u.commitTold c stored).codes = u.queueLeft rest u.codes.serials := by
  rw [commitTold_eq carries head queue]

theorem commitTold_holds :
    (u.commitTold c stored).Holds e.port
      (.codeResult (if stored then .accepted else .acceptedStoreFault) (some code)
        (split.map (fun x => (x, u.account.balance)))) := by
  rw [commitTold, if_pos carries, endCommit_of_commit head]
  exact settleHead_holds queue _ _ _

end

theorem Outcome.commitTold {u v : Part} (h : u.Outcome v) (c : CheckpointAttempt) (stored : Bool) :
    u.Outcome (v.commitTold c stored) := by
  obtain ⟨⟨carried, derived⟩, busy, entries⟩ := h
  refine ⟨⟨carried, (v.commitTold_derived c stored).trans ?_⟩, (v.commitTold_steady c stored).keeps.busy busy, ?_⟩
  · exact derived_map (fun w => { w with codes := (v.commitTold c stored).codes }) (fun _ => rfl) derived
  · rw [commitTold_entries]
    exact entries

namespace Outcome

variable {u v : Part} (h : u.Outcome v)
include h

theorem clock : v.clock = u.clock := by
  obtain ⟨carried, derived⟩ := h.derived
  have clock := clock_of_derived derived
  exact clock

theorem load : v.load = u.load := by
  obtain ⟨carried, derived⟩ := h.derived
  have load := load_of_derived derived
  exact load

theorem config : v.config = u.config := by
  obtain ⟨carried, derived⟩ := h.derived
  have config := config_of_derived derived
  exact config

theorem books : v.account.books = u.account.books := by
  obtain ⟨carried, derived⟩ := h.derived
  have books := books_of_derived derived
  exact books

theorem balance : v.account.balance = u.account.balance := by
  have balance := congrArg Account.balance h.books
  exact balance

theorem areas : v.array.areas = u.array.areas := by
  obtain ⟨carried, derived⟩ := h.derived
  have areas := areas_of_derived derived
  exact areas

theorem entryNow (d : JournalDetail) : v.entryNow d = u.entryNow d := by
  obtain ⟨carried, derived⟩ := h.derived
  have entry := entryNow_of_derived derived d
  exact entry

theorem tariff : ∃ carried, v.tariff = { u.tariff with areaCarried := carried } := by
  obtain ⟨carried, derived⟩ := h.derived
  have tariff := tariff_of_derived derived
  exact ⟨carried, tariff⟩

theorem few (room : u.store.journal.length < 4) : v.entriesDue ≤ 6 := by
  have bound := u.entriesDue_le
  have entries := h.entries
  omega

end Outcome

end Part

end Sys2Proof.Machine
end

section
/-! The end of a checkpoint attempt, as the store controller's client sees it (R62, R90, R152, R156, R157). -/

namespace Sys2Proof.Machine

namespace Part

section
variable {s : State} {c : CheckpointAttempt} (flight : s.part.store.inFlight = some (.checkpoint c))
include flight

theorem exec_checkpoint_stored (whole : c.writesNothing = false) :
    exec (.checkpointAttemptEnd true) s =
      .next (s.becomes (((s.part.checkpointKept c).reportCheckpoint c true).endAttempt)) := by
  have ends : s.part.checkpointEnds true = s.part.endCheckpoint c true := by simp only [checkpointEnds, flight]
  rw [exec_eq]
  change Host.Outcome.next (s.becomes (s.part.checkpointEnds true)) = _
  rw [ends, endCheckpoint, whole]
  rfl

theorem exec_checkpoint_lost (second : c.retry = true) :
    exec (.checkpointAttemptEnd false) s =
      .next (s.becomes (((s.part.checkpointFailed c).reportCheckpoint c false).endAttempt)) := by
  have ends : s.part.checkpointEnds false = s.part.endCheckpoint c false := by simp only [checkpointEnds, flight]
  rw [exec_eq]
  change Host.Outcome.next (s.becomes (s.part.checkpointEnds false)) = _
  rw [ends, endCheckpoint, second]
  rfl

theorem exec_checkpoint_retried (first : c.retry = false) :
    exec (.checkpointAttemptEnd false) s = .next (s.becomes (s.part.retryCheckpoint c).noteFailure) := by
  have ends : s.part.checkpointEnds false = s.part.endCheckpoint c false := by simp only [checkpointEnds, flight]
  rw [exec_eq]
  change Host.Outcome.next (s.becomes (s.part.checkpointEnds false)) = _
  rw [ends, endCheckpoint, first]
  rfl

end

/-! ### The first failure (R152, R157) -/

/-- The second attempt of a checkpoint. -/
def again (c : CheckpointAttempt) (changed : Bool) (u : Part) : CheckpointAttempt :=
  { c with
    record := { c.record with sequence := u.store.nextSequence }, slot := u.store.nextSlot, retry := true,
    changedSince := changed }

theorem retryCheckpoint_eq {c : CheckpointAttempt} {u : Part} (whole : c.writesNothing = false)
    (numbers : u.store.nextSequence ≤ 2 ^ 32 - 1) :
    u.retryCheckpoint c =
      { u with
        array := u.array.setLog u.store.nextSlot .invalid,
        store := { u.store with
          inFlight := some (.checkpoint (u.again c c.changedSince)),
          nextSlot := (u.array.setLog u.store.nextSlot .invalid).slotAfter u.store.nextSlot,
          nextSequence := u.store.nextSequence + 1 } } := by
  have left : decide (lastSequence < u.store.nextSequence) = false := decide_eq_false (by rw [lastSequence]; omega)
  rw [retryCheckpoint]
  simp only [left, Bool.false_eq_true, if_false]
  rw [again, whole]

/-- The record in flight of a retry that raises STORE_FAULT may have been overtaken by a change (R156). -/
theorem storeFault_attempt {u : Part} {c : CheckpointAttempt} (flight : u.store.inFlight = some (.checkpoint c)) :
    ∃ changed, (u.setCondition .storeFault true).store.inFlight = some (.checkpoint { c with changedSince := changed }) := by
  obtain ⟨-, -, -, same | noted⟩ := (storeFault_bypass u).keeps.attempt (by simp [flight])
  · exact ⟨c.changedSince, same.trans flight⟩
  · refine ⟨true, noted.trans ?_⟩
    rw [flight]
    rfl

/-! ### An attempt that has ended for good (R152) -/

/-- The part whose store controller has noted how the attempt ended. -/
def checkpointJudged (c : CheckpointAttempt) (ok : Bool) (u : Part) : Part :=
  if ok then u.checkpointKept c else u.checkpointFailed c

section
variable {c : CheckpointAttempt} {u : Part}

theorem checkpointJudged_outcome (busy : u.store.inFlight ≠ none) (ok : Bool) : u.Outcome (u.checkpointJudged c ok) := by
  cases ok
  · exact checkpointFailed_outcome busy
  · exact checkpointKept_outcome busy

theorem checkpointJudged_codes (ok : Bool) : (u.checkpointJudged c ok).codes = u.codes := by
  cases ok
  · exact checkpointFailed_codes
  · exact checkpointKept_codes

end

theorem exec_checkpoint_ended {s : State} {c : CheckpointAttempt} {ok : Bool}
    (flight : s.part.store.inFlight = some (.checkpoint c)) (whole : c.writesNothing = false)
    (last : ok = false → c.retry = true) :
    exec (.checkpointAttemptEnd ok) s =
      .next (s.becomes (((s.part.checkpointJudged c ok).reportCheckpoint c ok).endAttempt)) := by
  cases ok
  · exact exec_checkpoint_lost flight (last rfl)
  · exact exec_checkpoint_stored flight whole

theorem reportCheckpoint_of_plain {c : CheckpointAttempt} {u : Part} (plain : c.carriesActivation = false) (ok : Bool) :
    u.reportCheckpoint c ok = u.commitTold c ok := by
  rw [reportCheckpoint_eq, plain]
  rfl

theorem reportCheckpoint_of_activation {c : CheckpointAttempt} {u : Part} (carries : c.carriesActivation = true) (ok : Bool) :
    u.reportCheckpoint c ok = (u.commitTold c ok).completeActivation ok := by
  rw [reportCheckpoint_eq, carries]
  rfl

/-! ### The code that the checkpoint carried -/

section
variable {c : CheckpointAttempt} {u w : Part} (outcome : u.Outcome w) (codes : w.codes = u.codes)
include outcome codes

theorem queueLeft_of_outcome (rest : List CodeEntry) (serials : Serials) :
    w.queueLeft rest serials = u.queueLeft rest serials := by
  rw [queueLeft, queueLeft, codes, outcome.config]

variable {code : DecodedCode} {split : Option TopUpSplit} {e : CodeEntry} {rest : List CodeEntry} (carries : c.carriesCode = true)
  (head : u.codes.head = some (.commit code split)) (queue : u.codes.queue = e :: rest) (ok : Bool)
include carries head queue

theorem told_codes : (w.commitTold c ok).codes = u.queueLeft rest u.codes.serials := by
  rw [commitTold_codes carries (by rw [codes, head]) (by rw [codes, queue]), queueLeft_of_outcome outcome codes, codes]

theorem told_holds :
    (w.commitTold c ok).Holds e.port
      (.codeResult (if ok then .accepted else .acceptedStoreFault) (some code)
        (split.map (fun x => (x, u.account.balance)))) := by
  have held := commitTold_holds carries (by rw [codes, head]) (by rw [codes, queue]) ok (u := w)
  rw [outcome.balance] at held
  exact held

/-- Behind a code that was settled the next one is screened. -/
theorem told_head (other : DecodedCode) : (w.commitTold c ok).codes.head ≠ some (.activating other) := by
  rw [told_codes outcome codes carries head queue, queueLeft]
  dsimp only
  split <;> simp

end

end Part

end Sys2Proof.Machine
end

section
/-! The statement about checkpoint attempts, part by part. -/

namespace Sys2Proof.Machine

namespace Part

theorem standing_books {x y : Account} (same : x.books = y.books) (charge : Nat) :
    (if charge = 0 then x else x.standing charge).books = (if charge = 0 then y else y.standing charge).books := by
  have charged := congrArg (fun z : Account => (z.standing charge).books) same
  split
  · exact same
  · exact charged

/-- A midnight that went on from a part with these items. -/
theorem MidnightEnded.of_kept {m : Midnight} {charge : Nat} {u w v : Part} (h : w.MidnightEnded m charge v)
    (load : w.load = u.load) (clock : w.clock = u.clock) (books : w.account.books = u.account.books)
    (day : w.tariff.lastStandingDay = u.tariff.lastStandingDay) :
    v.load =
        (if m.backward = false ∨ Config.backwardSettingEndsLockout = true then { u.load with extended := false } else u.load) ∧
      (u.tariff.lastStandingDay < m.day →
        v.tariff.lastStandingDay = m.day ∧ v.clock = { u.clock with adjustment := 0 } ∧
          v.account.books = (if charge = 0 then u.account else u.account.standing charge).books) ∧
      (m.day ≤ u.tariff.lastStandingDay →
        v.tariff.lastStandingDay = u.tariff.lastStandingDay ∧ v.clock = u.clock ∧ v.account.books = u.account.books) := by
  have unclosed := h.unclosed
  have closed := h.closed
  rw [day, clock, standing_books books] at unclosed
  rw [day, clock, books] at closed
  exact ⟨by rw [h.load, load], unclosed, closed⟩

/-! ### An activation behind its checkpoint (R62, R82) -/

section
variable {a : Activation} {u w : Part} (outcome : u.Outcome w) (ok : Bool)
include outcome

theorem Outcome.switched {i : Image} (content : u.areaContents a.area = .image i) :
    (w.bankSwitched a.area ok).activeBank = some i := by
  have areaA := congrArg NvArray.areaA outcome.areas
  have areaB := congrArg NvArray.areaB outcome.areas
  have areaA : w.array.areaA = u.array.areaA := areaA
  have areaB : w.array.areaB = u.array.areaB := areaB
  have same : w.areaContents a.area = u.areaContents a.area := by
    cases a.area
    · exact areaA
    · exact areaB
  have kept : (w.bankSwitched a.area ok).areaContents a.area = .image i := same.trans content
  have active : (w.bankSwitched a.area ok).tariff.activeArea = some a.area := rfl
  simp only [activeBank, active, kept]

theorem Outcome.handedBank {i : Image} (content : u.areaContents a.area = .image i) :
    (w.bankHanded a ok).activeBank = some i := by
  have walked : (w.bankItems a ok).activeBank = (w.bankSwitched a.area ok).activeBank :=
    activeBank_congr (walked_elsewhere _).1 rfl rfl
  rw [bankHanded_bank, activeBank_of_derived (w.bankTaken_derived a ok), walked, outcome.switched ok content]

theorem Outcome.activation (active : u.tariff.activation = some a) : w.tariff.activation = some a := by
  obtain ⟨carried, tariff⟩ := outcome.tariff
  rw [tariff]
  exact active

theorem Outcome.midnights :
    w.tariff.midnight = u.tariff.midnight ∧ w.tariff.midnightsWaiting = u.tariff.midnightsWaiting ∧
      w.tariff.lastStandingDay = u.tariff.lastStandingDay := by
  obtain ⟨carried, tariff⟩ := outcome.tariff
  rw [tariff]
  exact ⟨rfl, rfl, rfl⟩

theorem bankActive_entry (d : JournalDetail) : (w.bankActive a ok).entryNow d = u.entryNow d := by
  have entry : (w.bankItems a ok).entryNow d = w.entryNow d := rfl
  rw [entryNow_of_derived (w.bankActive_derived a ok), entry, outcome.entryNow]

variable (active : u.tariff.activation = some a)
include active

theorem completed_activated (room : u.store.journal.length < 4) :
    (w.completeActivation ok).endAttempt.Journaled
      (u.entryNow (.tariffActivated (bankVersion a.image) a.fingerprint a.area)) := by
  have queued := bankTaken_queued outcome.busy (outcome.few room) ok (a := a)
  rw [bankActive_entry outcome ok] at queued
  exact endAttempt_journaled (completeActivation_queued (outcome.activation active) ok outcome.busy queued)

/-- What the completed activation leaves of a TARIFF_NOW (R82, R88). -/
theorem completed_of_activating {code : DecodedCode} {e : CodeEntry} {rest : List CodeEntry} (codes : w.codes = u.codes)
    (head : u.codes.head = some (.activating code)) (queue : u.codes.queue = e :: rest) :
    (w.completeActivation ok).endAttempt.codes = u.queueLeft rest (u.codes.serials.mark code.serial) ∧
      (w.completeActivation ok).endAttempt.Holds e.port
        (.codeResult (if ok then .accepted else .acceptedStoreFault) (some code) none) ∧
      (u.store.journal.length < 4 →
        (w.completeActivation ok).endAttempt.Journaled
          (u.entryNow (.codeAccepted code.kind code.serial code.value .s))) := by
  have activation := outcome.activation active
  have headNow : w.codes.head = some (.activating code) := by rw [codes, head]
  have queueNow : w.codes.queue = e :: rest := by rw [codes, queue]
  obtain ⟨left, held⟩ := bankHanded_of_activating (a := a) ok headNow queueNow
  refine ⟨?_, completed_holds activation ok rfl held, fun room => ?_⟩
  · rw [completed_codes activation ok, left, queueLeft_of_outcome outcome codes, codes]
  · have queued := bankTaken_spent outcome.busy (outcome.few room) headNow ok (a := a)
    rw [outcome.entryNow] at queued
    exact endAttempt_journaled (completeActivation_queued activation ok outcome.busy queued)

/-- The midnight that waited goes on with the new bank (R64). -/
theorem completed_midnight {i : Image} {m : Midnight} (content : u.areaContents a.area = .image i)
    (origin : a.origin = .midnight) (waits : u.tariff.midnight = some m) (alone : u.tariff.midnightsWaiting = []) :
    (w.bankHanded a ok).MidnightEnded m (bankStandingCharge i) (w.completeActivation ok).endAttempt := by
  obtain ⟨midnight, behind, -⟩ := outcome.midnights
  have charge : (w.bankHanded a ok).bankValue bankStandingCharge 0 = bankStandingCharge i := by
    rw [bankValue, outcome.handedBank ok content]
  rw [completed_of_midnight (outcome.activation active) ok origin (midnight.trans waits) (behind.trans alone), ← charge]
  exact midnightDone_ended ((w.bankHanded_keeps a ok).busy outcome.busy) m

end

/-! ### The code and the activation in one checkpoint (log 58) -/

section
variable {a : Activation} {c : CheckpointAttempt} {u w : Part} (outcome : u.Outcome w) (codes : w.codes = u.codes)
  (active : u.tariff.activation = some a) (ok : Bool)
include outcome codes active

theorem completed_of_commit {code : DecodedCode} {split : Option TopUpSplit} {e : CodeEntry} {rest : List CodeEntry}
    (carries : c.carriesCode = true) (head : u.codes.head = some (.commit code split)) (queue : u.codes.queue = e :: rest) :
    ((w.commitTold c ok).completeActivation ok).endAttempt.codes = u.queueLeft rest u.codes.serials ∧
      ((w.commitTold c ok).completeActivation ok).endAttempt.Holds e.port
        (.codeResult (if ok then .accepted else .acceptedStoreFault) (some code)
          (split.map (fun x => (x, u.account.balance)))) := by
  have activation := (outcome.commitTold c ok).activation active
  have screened (other : DecodedCode) := told_head outcome codes carries head queue ok other
  have held := told_holds outcome codes carries head queue ok
  refine ⟨?_, completed_holds activation ok rfl (bankHanded_holds rfl ok screened held)⟩
  rw [completed_codes activation ok, bankHanded_codes_of_other ok screened, told_codes outcome codes carries head queue ok]

theorem completed_codes_of_other (other : ∀ code, u.codes.head ≠ some (.activating code))
    (uncommitted : c.carriesCode = false ∨ ∀ code split, u.codes.head ≠ some (.commit code split)) :
    ((w.commitTold c ok).completeActivation ok).endAttempt.codes = u.codes := by
  have same : w.commitTold c ok = w := commitTold_of_other (by rw [codes]; exact uncommitted) ok
  rw [same, completed_codes (outcome.activation active) ok, bankHanded_codes_of_other ok (by rw [codes]; exact other), codes]

end

/-! ### A second failure that carries no activation (R152) -/

/-- What a second failure leaves when its checkpoint carried no activation. -/
theorem failed_plain {c : CheckpointAttempt} {u : Part} (busy : u.store.inFlight ≠ none) (run : 1 ≤ u.store.failureRun) :
    let v := ((u.checkpointFailed c).commitTold c false).endAttempt
    v.condition .storeFault = true ∧ v.store.failureRun = min 255 (u.store.failureRun + 1) ∧
      (u.checkpointDue = true → v.checkpointDue = true) ∧ v.account.books = u.account.books ∧ v.tariff = u.tariff ∧
      (u.store.journal.length < 4 →
        v.Journaled (u.entryNow (.storeFault 1 c.slot c.firstSequence c.record.sequence))) := by
  intro v
  have told := (u.checkpointFailed c).commitTold_steady c false
  have outcome := (checkpointFailed_outcome (c := c) busy).commitTold c false
  have tariff : ((u.checkpointFailed c).commitTold c false).tariff = u.tariff := by
    rw [tariff_of_derivedWithCodes (commitTold_derived _ _ _), tariff_of_derived (derived_of_core checkpointFailed_core)]
  refine ⟨?_, ?_, fun due => endAttempt_due (told.keeps.due (checkpointFailed_due due)), ?_, ?_, fun room => ?_⟩
  · rw [endAttempt_condition, condition_of_record (told.records.1 .storeFault (by decide)), checkpointFailed_condition run]
  · rw [endAttempt_run, told.keeps.run, checkpointFailed_run]
  · rw [endAttempt_books, outcome.books]
  · rw [endAttempt_tariff, tariff]
  · have queued := checkpointFailed_queued (c := c) busy (show u.store.journal.length < 8 by omega)
    exact endAttempt_journaled (told.keeps.queue (checkpointFailed_outcome busy).busy _ queued)

end Part

end Sys2Proof.Machine
end

section
/-! The statement about checkpoint attempts. -/

namespace Sys2Proof.Machine

/-- Settles O42: an attempt's end is judged, the code and the activation learn it, and the next attempt is chosen. -/
theorem checkpointAttemptEnd : Obligations.CheckpointAttemptEnd := by
  unfold Obligations.CheckpointAttemptEnd
  intro s c flight whole u stored left
  have busy : u.store.inFlight ≠ none := by simp [u, flight]
  have ended (ok : Bool) (last : ok = false → c.retry = true) := Part.exec_checkpoint_ended flight whole last
  have plainly (ok : Bool) (last : ok = false → c.retry = true) (plain : c.carriesActivation = false) :
      exec (.checkpointAttemptEnd ok) s =
        .next (s.becomes ((u.checkpointJudged c ok).commitTold c ok).endAttempt) := by
    rw [ended ok last, Part.reportCheckpoint_of_plain plain]
  have kept (absent : u.condition .storeFault = false) :
      u.checkpointJudged c true = (u.checkpointWritten c).noteCarried c.record.activeArea := by
    have same : (u.checkpointWritten c).setCondition .storeFault false = u.checkpointWritten c :=
      Part.setCondition_of_same absent
    rw [Part.checkpointJudged, if_pos rfl, Part.checkpointKept, same]
  have outcome (ok : Bool) := Part.checkpointJudged_outcome (c := c) busy ok
  have codes (ok : Bool) : (u.checkpointJudged c ok).codes = u.codes := Part.checkpointJudged_codes ok
  refine ⟨fun plain uncoded absent => ?_, fun e rest code split plain carries queue head => ?_, ?_, fun first numbers => ?_,
    fun plain second run => ?_, fun ok a i carries last active content => ?_⟩
  case refine_1 =>
    rw [plainly true (fun h => by cases h) plain, Part.commitTold_of_other (.inl uncoded), kept absent]
    rfl
  case refine_2 =>
    refine ⟨fun absent => ?_, _, plainly true (fun h => by cases h) plain, ?_, ?_⟩
    · have headNow : ((u.checkpointWritten c).noteCarried c.record.activeArea).codes.head = some (.commit code split) := head
      have queueNow : ((u.checkpointWritten c).noteCarried c.record.activeArea).codes.queue = e :: rest := queue
      rw [plainly true (fun h => by cases h) plain, kept absent, Part.commitTold_eq carries headNow queueNow]
      rfl
    · rw [Part.endAttempt_codes, Part.told_codes (outcome true) (codes true) carries head queue]
      rfl
    · exact Part.endAttempt_holds (Part.told_holds (outcome true) (codes true) carries head queue true)
  case refine_3 =>
    obtain ⟨records, keeps⟩ := (u.checkpointKept c).reportCheckpoint_told c true
    refine ⟨_, ended true (fun h => by cases h), ?_, ?_⟩
    · rw [Part.endAttempt_condition]
      exact (Part.condition_of_record (records.1 .storeFault (by decide))).trans Part.checkpointKept_condition
    · rw [Part.endAttempt_run]
      exact keeps.run.trans Part.checkpointKept_run
  case refine_4 =>
    intro array next again retried
    have again_eq : (u.retryCheckpoint c).failedOnce = retried := by
      rw [Part.retryCheckpoint_eq whole numbers, NvArray.slotAfter_eq]
      rfl
    have flying : retried.store.inFlight = some (.checkpoint (again c.changedSince)) := rfl
    refine ⟨fun still => ?_, fun run absent => ?_⟩
    · have still : (u.retryCheckpoint c).store.failureRun = 0 ∨ (u.retryCheckpoint c).condition .storeFault = true := still
      rw [Part.exec_checkpoint_retried flight first, Part.noteFailure_of_still still, again_eq]
    · have run : 1 ≤ (u.retryCheckpoint c).store.failureRun := run
      have absent : (u.retryCheckpoint c).condition .storeFault = false := absent
      have missing : retried.condition .storeFault = false := absent
      have raised := Part.noteFailure_of_arisen run absent
      rw [again_eq] at raised
      have keeps := (Part.storeFault_bypass retried).keeps
      obtain ⟨kept, slot, sequence, -⟩ := keeps.attempt (by rw [flying]; simp)
      obtain ⟨changed, flies⟩ := Part.storeFault_attempt flying
      exact ⟨_, changed, by rw [Part.exec_checkpoint_retried flight first, raised], Part.storeFault_arisen missing, kept, keeps.run,
        slot, sequence, flies⟩
  case refine_5 =>
    obtain ⟨condition, failures, due, books, tariff, journaled⟩ := Part.failed_plain (c := c) busy run
    refine ⟨_, plainly false (fun _ => second) plain, condition, failures, due, books, tariff, journaled,
      fun e rest code split carries queue head => ⟨?_, ?_⟩⟩
    · rw [Part.endAttempt_codes, Part.told_codes (outcome false) (codes false) carries head queue]
      rfl
    · exact Part.endAttempt_holds (Part.told_holds (outcome false) (codes false) carries head queue false)
  case refine_6 =>
    intro r charge room
    have content : u.areaContents a.area = .image i := content
    have told := (outcome ok).commitTold c ok
    have activation := told.activation active
    have bank := told.switched ok content
    have area := Part.completed_area activation ok
    have clock := told.clock
    obtain ⟨midnight, -, day⟩ := told.midnights
    have ends : exec (.checkpointAttemptEnd ok) s =
        .next (s.becomes (((u.checkpointJudged c ok).commitTold c ok).completeActivation ok).endAttempt) := by
      rw [ended ok last, Part.reportCheckpoint_of_activation carries]
    refine ⟨_, ends, area.1, area.2, Part.completed_due activation ok, fun valid => ?_, fun invalid => ?_,
      Part.completed_ok activation ok, Part.completed_member activation ok, Part.completed_placed activation ok,
      Part.completed_activated told ok active, fun code e rest head queue => ?_, fun code split e rest coded head queue => ?_,
      fun other uncommitted => ?_, fun still => ?_, fun m origin waits alone => ?_⟩
    case refine_1 =>
      have walked := Part.completed_walk_of_valid activation ok bank (by rw [clock]; exact valid)
      rw [clock] at walked
      exact walked
    case refine_2 => exact Part.completed_walk_of_invalid activation ok (by rw [clock]; exact invalid)
    case refine_3 =>
      have same : (u.checkpointJudged c ok).commitTold c ok = u.checkpointJudged c ok :=
        Part.commitTold_of_other (.inr (by rw [codes, head]; simp)) ok
      rw [same]
      exact Part.completed_of_activating (outcome ok) ok active (codes ok) head queue
    case refine_4 => exact Part.completed_of_commit (outcome ok) (codes ok) active ok coded head queue
    case refine_5 => exact Part.completed_codes_of_other (outcome ok) (codes ok) active ok other uncommitted
    case refine_6 =>
      have done := Part.completed_of_unwaited activation ok (by rw [midnight]; exact still)
      rw [midnight, day, clock, told.load, told.books] at done
      exact done
    case refine_7 =>
      have gone := Part.completed_midnight told ok active content origin waits alone
      obtain ⟨activation, none, -⟩ := gone.tariff
      obtain ⟨idle, -, -, last⟩ := ((u.checkpointJudged c ok).commitTold c ok).bankHanded_midnight (a := a) ok
      have books : (((u.checkpointJudged c ok).commitTold c ok).bankHanded a ok).account.books = u.account.books :=
        (Part.bankHanded_books ok).trans told.books
      obtain ⟨load, unclosed, closed⟩ := gone.of_kept ((Part.bankHanded_load ok).trans told.load)
        ((Part.bankHanded_clock ok).trans clock) books (last.trans day)
      exact ⟨activation.trans idle, none, gone.requested, load, unclosed, closed⟩

end Sys2Proof.Machine
end

section
/-! The ends of bank, configuration and journal write attempts (R62, R152, R159, R161, R186). -/

namespace Sys2Proof.Machine

namespace Part

/-! ### A retry, and a second failure (R152) -/

/-- A failed first attempt that raises STORE_FAULT keeps its retry in flight as it stands. -/
theorem noteFailure_arisen {u : Part} {x : Attempt} (flight : u.store.inFlight = some x) (fixed : x.noteChange = x)
    (run : 1 ≤ u.store.failureRun) (absent : u.condition .storeFault = false) :
    u.failedOnce.StoreFaultArisen u.noteFailure ∧ u.noteFailure.array = u.failedOnce.array ∧
      u.noteFailure.store.failureRun = u.failedOnce.store.failureRun ∧
      u.noteFailure.store.inFlight = u.failedOnce.store.inFlight := by
  have flying : u.failedOnce.store.inFlight = some x := flight
  have missing : u.failedOnce.condition .storeFault = false := absent
  have keeps := (storeFault_bypass u.failedOnce).keeps
  obtain ⟨array, -, -, attempt⟩ := keeps.attempt (by simp [flying])
  rw [flying, Option.map_some, fixed, or_self, ← flying] at attempt
  rw [noteFailure_of_arisen run absent]
  exact ⟨storeFault_arisen missing, array, keeps.run, attempt⟩

/-- The part behind the second failure of a write. -/
def writeFailed (writeClass number : Nat) (u : Part) : Part := (u.faultEntry writeClass number).noteFailure

section
variable {writeClass number : Nat} {u : Part}

theorem writeFailed_core : (u.writeFailed writeClass number).core = u.core := by
  rw [writeFailed, noteFailure_core, faultEntry, journal_core]

theorem writeFailed_keeps (busy : u.store.inFlight ≠ none) : (u.writeFailed writeClass number).store.inFlight ≠ none :=
  (noteFailure_bypass _).keeps.busy ((journal_run _ u).busy busy)

theorem writeFailed_kind {k : NoticeKind} (raised : k ≠ .tamperRaised) (pending : k ≠ .supplyPending)
    (confirm : k ≠ .awaitingConfirm) : u.KeepsKind k (u.writeFailed writeClass number) :=
  (journal_kind k _ u).trans (noteFailure_kind raised pending confirm _)

/-- What a second failure leaves behind operations that keep the store controller's run. -/
theorem faulted_of_steady {w : Part} (busy : u.store.inFlight ≠ none) (steady : (u.writeFailed writeClass number).Steady w) :
    w.endAttempt.store.failureRun = min 255 (u.store.failureRun + 1) ∧
      (1 ≤ u.store.failureRun → w.endAttempt.condition .storeFault = true) ∧
      (u.store.journal.length < 4 → w.endAttempt.Journaled (u.entryNow (.storeFault writeClass number 0 0))) := by
  have noted : u.KeepsRun (u.faultEntry writeClass number) := journal_run _ u
  refine ⟨?_, fun run => ?_, fun room => endAttempt_journaled ?_⟩
  · rw [endAttempt_run, steady.keeps.run, writeFailed, noteFailure_run, noted.run]
  · rw [endAttempt_condition, condition_of_record (steady.records.1 .storeFault (by decide))]
    exact noteFailure_condition (by rw [noted.run]; exact run)
  · have queued := journal_queued (d := .storeFault writeClass number 0 0) busy (by omega)
    exact steady.keeps.queue (writeFailed_keeps busy) _ ((noteFailure_bypass _).keeps.queue (noted.busy busy) _ queued)

end

/-! ### Bank writes -/

theorem putArea_entryNow (a : Area) (x : AreaContents) (u : Part) (d : JournalDetail) :
    (u.putArea a x).entryNow d = u.entryNow d := by cases a <;> rfl

theorem putArea_store (a : Area) (x : AreaContents) (u : Part) : (u.putArea a x).store = u.store := by cases a <;> rfl

theorem putArea_tariff (a : Area) (x : AreaContents) (u : Part) : (u.putArea a x).tariff = u.tariff := by cases a <;> rfl

theorem putArea_codes (a : Area) (x : AreaContents) (u : Part) : (u.putArea a x).codes = u.codes := by cases a <;> rfl

theorem putArea_account (a : Area) (x : AreaContents) (u : Part) : (u.putArea a x).account = u.account := by cases a <;> rfl

theorem putArea_power (a : Area) (x : AreaContents) (u : Part) : (u.putArea a x).power = u.power := by cases a <;> rfl

theorem putArea_kind (k : NoticeKind) (a : Area) (x : AreaContents) (u : Part) : u.KeepsKind k (u.putArea a x) := by
  cases a
  · exact .of_eq k rfl rfl
  · exact .of_eq k rfl rfl

/-- After PFW no class 2 write starts (R161). -/
theorem startNext_bankless {u : Part} (idle : u.store.inFlight = none) (failing : u.power = .failing) (area : Area)
    (image : Image) (retry : Bool) : u.startNext.store.inFlight ≠ some (.bank area image retry) := by
  have on : u.mainOn = true := by simp [mainOn, failing]
  cases waiting : u.store.waiting with
  | some reasons =>
    rw [startNext_of_waiting idle on waiting]
    simp [startCheckpoint]
  | none =>
    cases journal : u.store.journal with
    | nil =>
      rw [startNext_of_nothing idle waiting (.inr failing) journal, idle]
      simp
    | cons r rest =>
      rw [startNext_of_journal idle waiting (.inr failing) (by simp [failing]) journal]
      rw [startJournal]
      dsimp only
      split
      · simp
      · simp [markDue, Attempt.noteChange]

theorem endAttempt_bankless {u : Part} (failing : u.power = .failing) (area : Area) (image : Image) (retry : Bool) :
    u.endAttempt.store.inFlight ≠ some (.bank area image retry) :=
  startNext_bankless (u := u.putInFlight none) rfl failing area image retry

theorem settleHead_serials (result : CodeResult) (code : Option DecodedCode) (credit : Option (TopUpSplit × Int)) (u : Part) :
    (u.settleHead result code credit).codes.serials = u.codes.serials := by
  cases queue : u.codes.queue with
  | nil => simp only [settleHead, queue]
  | cons e rest => rw [settleHead_codes queue]; rfl

theorem endActivating_serials (result : CodeResult) (u : Part) : (u.endActivating result).codes.serials = u.codes.serials := by
  rcases u.activating_or_not with ⟨code, head⟩ | head
  · rw [endActivating_of_activating head, settleHead_serials]
  · rw [endActivating_of_other head]

/-! ### An activation ends without effect (R62) -/

/-- The activation has ended, up to a midnight that waited. -/
def activationStopped (u : Part) : Part :=
  (Part.reopened .activationFailed { u with tariff := { u.tariff with activation := none } }).endActivating .activationFailed

theorem failActivation_of_some {u : Part} {a : Activation} (active : u.tariff.activation = some a) :
    u.failActivation = u.activationStopped.continueMidnight a.origin := by
  simp only [failActivation, active]
  rfl

section
variable (u : Part)

theorem activationStopped_steady : u.Steady u.activationStopped := by
  have reopened : u.Steady (Part.reopened .activationFailed { u with tariff := { u.tariff with activation := none } }) :=
    (place_steady (.bankReopened .activationFailed) _).after rfl rfl rfl rfl rfl
  exact reopened.trans (endActivating_steady _ _)

theorem activationStopped_derived :
    u.activationStopped.derived =
      ({ u with tariff := { u.tariff with activation := none }, codes := u.activationStopped.codes } : Part).derived := by
  refine (derived_of_core (endActivating_core _ _)).trans ?_
  exact derived_map (fun w => { w with codes := u.activationStopped.codes }) (fun _ => rfl) (place_derived _ _)

theorem activationStopped_tariff : u.activationStopped.tariff = { u.tariff with activation := none } := by
  have tariff := tariff_of_derived u.activationStopped_derived
  exact tariff

theorem activationStopped_clock : u.activationStopped.clock = u.clock := by
  have clock := clock_of_derived u.activationStopped_derived
  exact clock

theorem activationStopped_load : u.activationStopped.load = u.load := by
  have load := load_of_derived u.activationStopped_derived
  exact load

theorem activationStopped_books : u.activationStopped.account.books = u.account.books := by
  have books := books_of_derived u.activationStopped_derived
  exact books

theorem activationStopped_bank : u.activationStopped.activeBank = u.activeBank :=
  (activeBank_of_derived u.activationStopped_derived).trans (activeBank_congr rfl rfl rfl)

theorem activationStopped_codes_of_other {u : Part} (head : ∀ code, u.codes.head ≠ some (.activating code)) :
    u.activationStopped.codes = u.codes := by
  rw [activationStopped, endActivating_of_other (by simpa [reopened] using head)]
  simp [reopened]

theorem activationStopped_of_activating {u : Part} {code : DecodedCode} {e : CodeEntry} {rest : List CodeEntry}
    (head : u.codes.head = some (.activating code)) (queue : u.codes.queue = e :: rest) :
    u.activationStopped.codes.queue = rest ∧
      u.activationStopped.Holds e.port (.codeResult .activationFailed (some code) none) := by
  let w := Part.reopened .activationFailed { u with tariff := { u.tariff with activation := none } }
  have codes : w.codes = u.codes := by simp [w, reopened]
  have headNow : w.codes.head = some (.activating code) := by rw [codes, head]
  have queueNow : w.codes.queue = e :: rest := by rw [codes, queue]
  have settled : u.activationStopped = w.settleHead .activationFailed (some code) none :=
    endActivating_of_activating headNow .activationFailed
  rw [settled]
  refine ⟨?_, settleHead_holds queueNow _ _ _⟩
  rw [settleHead_codes queueNow]
  rfl

theorem activationStopped_serials : u.activationStopped.codes.serials = u.codes.serials :=
  (endActivating_serials _ _).trans (by simp [reopened])

theorem activationStopped_reopened : u.activationStopped.Holds .s (.bankReopened .activationFailed) := by
  have placed : (Part.reopened .activationFailed { u with tariff := { u.tariff with activation := none } }).Placed
      (.bankReopened .activationFailed) := place_placed _ _
  exact (endActivating_kind (k := .bankReopened) (by decide) _ _).holds rfl (placed .s rfl)

end

/-- A midnight that waited for the activation goes on with the old bank (R62, R64). -/
theorem failActivation_midnight {u : Part} {a : Activation} {m : Midnight} (busy : u.store.inFlight ≠ none)
    (active : u.tariff.activation = some a) (origin : a.origin = .midnight) (waits : u.tariff.midnight = some m)
    (alone : u.tariff.midnightsWaiting = []) :
    u.activationStopped.MidnightEnded m (u.bankValue bankStandingCharge 0) u.failActivation.endAttempt := by
  have tariff := u.activationStopped_tariff
  have charge : u.activationStopped.bankValue bankStandingCharge 0 = u.bankValue bankStandingCharge 0 := by
    rw [bankValue, bankValue, activationStopped_bank]
  rw [failActivation_of_some active, origin,
    continueMidnight_of_some (by rw [tariff]; exact waits) (by rw [tariff]; exact alone), ← charge]
  exact midnightDone_ended (u.activationStopped_steady.keeps.busy busy) m

theorem failActivation_bank {u : Part} {a : Activation} (active : u.tariff.activation = some a) :
    u.activationStopped.KeepsBank u.failActivation := by
  rw [failActivation_of_some active]
  exact continueMidnight_bank _ _

end Part

end Sys2Proof.Machine
end

section
/-! The statement about bank, configuration and journal write attempts. -/

namespace Sys2Proof.Machine

namespace Part

section
variable {s : State}

theorem exec_bank_ended {area : Area} {image : Image} {retry : Bool}
    (flight : s.part.store.inFlight = some (.bank area image retry)) (ok : Bool) :
    exec (.bankWriteAttemptEnd ok) s = .next (s.becomes (s.part.endBankWrite area image retry ok)) := by
  have ends : s.part.bankEnds ok = s.part.endBankWrite area image retry ok := by simp only [bankEnds, flight]
  rw [← ends]
  exact exec_eq _ s

theorem exec_config_ended {item : ConfigItem} {value : ConfigValue} {retry : Bool}
    (flight : s.part.store.inFlight = some (.config item value retry)) (ok : Bool) :
    exec (.configWriteAttemptEnd ok) s = .next (s.becomes (s.part.endConfigWrite item value retry ok)) := by
  have ends : s.part.configEnds ok = s.part.endConfigWrite item value retry ok := by simp only [configEnds, flight]
  rw [← ends]
  exact exec_eq _ s

theorem exec_journal_ended {entry : JournalEntry} {slot : Nat} {retry empty : Bool}
    (flight : s.part.store.inFlight = some (.journal entry slot retry empty)) (ok : Bool) :
    exec (.journalWriteAttemptEnd ok) s = .next (s.becomes (s.part.endJournalWrite entry slot retry empty ok)) := by
  have ends : s.part.journalEnds ok = s.part.endJournalWrite entry slot retry empty ok := by simp only [journalEnds, flight]
  rw [← ends]
  exact exec_eq _ s

end

/-! ### Journal entries -/

theorem place_putInFlight (n : Notice) (x : Option Attempt) (u : Part) :
    (u.place n).putInFlight x = (u.putInFlight x).place n := by
  have each (b : Bool) (p : Port) (v : Part) : (v.placeIf b p n).putInFlight x = (v.putInFlight x).placeIf b p n := by
    cases b <;> rfl
  unfold place
  dsimp only
  rw [each, each, each]
  rfl

theorem noticeEntry_putInFlight (entry : JournalEntry) (x : Option Attempt) (u : Part) :
    (u.noticeEntry entry).putInFlight x = (u.putInFlight x).noticeEntry entry := by
  unfold noticeEntry
  split
  · rfl
  · exact place_putInFlight _ x u

theorem entryStored_eq (entry : JournalEntry) (slot : Nat) (u : Part) :
    u.entryStored entry slot =
      (noticeEntry entry
        { u with
          array := u.array.setJournal slot (.valid entry),
          store := { u.store with failureRun := 0, inFlight := none } }).startNext := by
  rw [entryStored]
  dsimp only
  rw [endAttempt_eq, noticeEntry_putInFlight]
  rfl

/-! ### Bank writes -/

theorem bankStored_eq {u : Part} (busy : u.store.inFlight ≠ none) (area : Area) (image : Image) :
    u.bankStored area image =
      startNext
        { u with
          array := (u.putArea area (.image image)).array, tariff := u.tariff.reachCheckpoint,
          store := { u.store with
            failureRun := 0, inFlight := none, waiting := some (u.store.waiting.getD 0 ||| 2#16) } } := by
  have asked (w : Part) (busy : w.store.inFlight ≠ none) : (w.requestCheckpoint .activation).endAttempt =
      startNext { w with store :=
        { w.store with waiting := some (addReason .activation (w.store.waiting.getD 0#16)), inFlight := none } } := by
    rcases w.requestCheckpoint_cases .activation with ⟨-, eq⟩ | ⟨idle, -, -⟩
    · rw [eq]
      rfl
    · exact absurd idle busy
  rw [bankStored]
  cases area
  · exact asked _ busy
  · exact asked _ busy

section
variable {u : Part} (area : Area) (image : Image)

theorem endBankWrite_retried (running : u.power = .running) :
    u.endBankWrite area image false false =
      ((u.putArea area .damaged).putInFlight (some (.bank area image true))).noteFailure := by
  have on : (u.putArea area .damaged).running = true := by rw [Part.running, putArea_power, running]; rfl
  simp only [endBankWrite, Bool.false_eq_true, if_false, if_pos on]

theorem endBankWrite_dropped (failing : u.power = .failing) :
    u.endBankWrite area image false false = (u.putArea area .damaged).noteFailure.endAttempt := by
  have off : (u.putArea area .damaged).running = false := by rw [Part.running, putArea_power, failing]; rfl
  simp only [endBankWrite, off, Bool.false_eq_true, if_false]

theorem writeFailed_running : ((u.putArea area .damaged).writeFailed 2 (areaNumber area)).running = u.running := by
  rw [Part.running, power_of_derived (derived_of_core writeFailed_core), putArea_power, Part.running]

theorem endBankWrite_lost (running : u.power = .running) :
    u.endBankWrite area image true false =
      ((u.putArea area .damaged).writeFailed 2 (areaNumber area)).failActivation.endAttempt := by
  have on : ((u.putArea area .damaged).writeFailed 2 (areaNumber area)).running = true := by
    rw [writeFailed_running, Part.running, running]; rfl
  rw [writeFailed] at on ⊢
  simp only [endBankWrite, Bool.false_eq_true, if_false, if_true, if_pos on]

theorem endBankWrite_stopped (failing : u.power = .failing) :
    u.endBankWrite area image true false =
      ((u.putArea area .damaged).writeFailed 2 (areaNumber area)).endAttempt := by
  have off : ((u.putArea area .damaged).writeFailed 2 (areaNumber area)).running = false := by
    rw [writeFailed_running, Part.running, failing]; rfl
  rw [writeFailed] at off ⊢
  simp only [endBankWrite, off, Bool.false_eq_true, if_false, if_true]

end

/-- A bank write after PFW that fails is followed by no other and moves nothing of the activation (R161). -/
theorem bank_stopped {u w : Part} {area : Area} (failing : u.power = .failing)
    (derived : w.derived = (u.putArea area .damaged).derived) (kind : u.KeepsKind .bankReopened w) :
    w.endAttempt.tariff = u.tariff ∧ w.endAttempt.codes = u.codes ∧ w.endAttempt.account.books = u.account.books ∧
      w.endAttempt.array.areas = (u.putArea area .damaged).array.areas ∧
      (∀ area image retry, w.endAttempt.store.inFlight ≠ some (.bank area image retry)) ∧
      ∀ p : Port, (w.endAttempt.notices.get p).pending.get (kindIndex .bankReopened) =
        (u.notices.get p).pending.get (kindIndex .bankReopened) := by
  have ended : w.endAttempt.derived = (u.putArea area .damaged).derived := (derived_of_core w.endAttempt_core).trans derived
  have power : w.power = .failing := by rw [power_of_derived derived, putArea_power, failing]
  have books := books_of_derived ended
  rw [putArea_account] at books
  exact ⟨(tariff_of_derived ended).trans (putArea_tariff _ _ _), (codes_of_derived ended).trans (putArea_codes _ _ _), books,
    areas_of_derived ended, endAttempt_bankless power, (kind.trans (endAttempt_kind _ w)).none⟩

/-- What the end of an activation whose bank write failed twice leaves (R62). -/
theorem failActivation_told {u : Part} {a : Activation} (active : u.tariff.activation = some a) :
    u.Steady u.failActivation ∧ u.failActivation.endAttempt.Holds .s (.bankReopened .activationFailed) ∧
      u.failActivation.endAttempt.codes = u.activationStopped.codes ∧
      (∀ (p : Port) (x : Notice), x.kind = .codeResult → u.activationStopped.Holds p x →
        u.failActivation.endAttempt.Holds p x) ∧
      (a.origin ≠ .midnight ∨ u.tariff.midnight = none →
        u.failActivation.endAttempt.tariff = { u.tariff with activation := none } ∧
          u.failActivation.endAttempt.account.books = u.account.books) := by
  have bank := failActivation_bank active
  refine ⟨u.activationStopped_steady.trans bank.steady, ?_, ?_, fun p x kind held => ?_, fun still => ?_⟩
  · exact endAttempt_holds ((bank.kinds .bankReopened (by decide)).holds rfl u.activationStopped_reopened)
  · rw [endAttempt_codes, bank.codes]
  · exact endAttempt_holds ((bank.kinds .codeResult (by decide)).holds kind held)
  · have still : a.origin ≠ .midnight ∨ u.activationStopped.tariff.midnight = none := by
      rw [activationStopped_tariff]
      exact still
    rw [endAttempt_tariff, endAttempt_books, failActivation_of_some active, continueMidnight_of_none still]
    exact ⟨activationStopped_tariff u, activationStopped_books u⟩

end Part

theorem Store.keepsMark_iff (t : Store) (item : ConfigItem) :
    t.keepsMark item = true ↔ (∃ later, .config item later ∈ t.class2) ∨ item ∈ t.discarded := by
  have awaits : t.awaitsItem item = true ↔ ∃ later, .config item later ∈ t.class2 := by
    rw [Store.awaitsItem, List.any_eq_true]
    constructor
    · rintro ⟨w, waits, same⟩
      cases w with
      | bank _ _ => cases same
      | config i later =>
        obtain rfl : i = item := of_decide_eq_true same
        exact ⟨later, waits⟩
    · rintro ⟨later, waits⟩
      exact ⟨_, waits, decide_eq_true rfl⟩
  rw [Store.keepsMark, Bool.or_eq_true, awaits, List.contains_iff_mem]

end Sys2Proof.Machine
end

section
/-! The statement about the other write attempts. -/

namespace Sys2Proof.Machine

/-- Settles O43: each write attempt's end, by its kind, its retry and the supply. -/
theorem otherWriteAttemptEnds : Obligations.OtherWriteAttemptEnds := by
  unfold Obligations.OtherWriteAttemptEnds
  intro s u room ended faulted arisen
  refine ⟨fun area image retry flight => ?_, fun item value retry flight => ?_, fun entry slot retry flight => ?_⟩
  case refine_1 =>
    intro holds number stopped
    have busy : u.store.inFlight ≠ none := by simp [u, flight]
    have ends := Part.exec_bank_ended flight
    have put (x : AreaContents) : u.putArea area x = { u with array := holds x } := by cases area <;> rfl
    have numbered : number = areaNumber area := by cases area <;> rfl
    have damaged : (u.putArea area .damaged).store = u.store := Part.putArea_store area .damaged u
    have busyDamaged : (u.putArea area .damaged).store.inFlight ≠ none := by rw [damaged]; exact busy
    have condition : (u.putArea area .damaged).condition .storeFault = u.condition .storeFault := by rw [put]; rfl
    have areas : (u.putArea area .damaged).array.areas = (holds .damaged).areas := by rw [put]
    have kind := Part.putArea_kind .bankReopened area .damaged u
    have faults {w : Part} (steady : ((u.putArea area .damaged).writeFailed 2 number).Steady w) :
        faulted w.endAttempt (.storeFault 2 number 0 0) := by
      obtain ⟨run, arises, journaled⟩ := Part.faulted_of_steady busyDamaged steady
      rw [damaged] at run arises journaled
      rw [Part.putArea_entryNow] at journaled
      exact ⟨run, arises, journaled⟩
    have halts {w : Part} (failing : u.power = .failing) (derived : w.derived = (u.putArea area .damaged).derived)
        (kept : u.KeepsKind .bankReopened w) : stopped w.endAttempt := by
      have gone := Part.bank_stopped failing derived kept
      rw [areas] at gone
      exact gone
    refine ⟨?_, fun first running => ?_, fun first failing => ?_, fun second failing => ?_, fun a second running active => ?_⟩
    case refine_1 =>
      rw [ends, Part.endBankWrite, if_pos rfl, Part.bankStored_eq busy, put]
      rfl
    case refine_2 =>
      intro retried
      let again := ({ u with array := holds .damaged } : Part).putInFlight (some (.bank area image true))
      have retries : exec (.bankWriteAttemptEnd false) s = .next (s.becomes again.noteFailure) := by
        rw [ends, first, Part.endBankWrite_retried area image running, put]
      refine ⟨fun still => ?_, fun run absent => ⟨_, retries, Part.noteFailure_arisen (u := again) rfl rfl run absent⟩⟩
      rw [retries, Part.noteFailure_of_still (u := again) still]
      rfl
    case refine_3 =>
      have fails : exec (.bankWriteAttemptEnd false) s = .next (s.becomes (u.putArea area .damaged).noteFailure.endAttempt) := by
        rw [ends, first, Part.endBankWrite_dropped area image failing]
      refine ⟨fun still => ?_, _, fails, ?_, fun run => ?_, ?_⟩
      · rw [← condition, ← damaged] at still
        rw [fails, Part.noteFailure_of_still still, put]
        rfl
      · rw [Part.endAttempt_run, Part.noteFailure_run, damaged]
      · rw [Part.endAttempt_condition]
        exact Part.noteFailure_condition (by rw [damaged]; exact run)
      · exact halts failing (Part.derived_of_core (Part.noteFailure_core _))
          (kind.trans (Part.noteFailure_kind (by decide) (by decide) (by decide) _))
    case refine_4 =>
      have fails : exec (.bankWriteAttemptEnd false) s =
          .next (s.becomes ((u.putArea area .damaged).writeFailed 2 number).endAttempt) := by
        rw [ends, second, Part.endBankWrite_stopped area image failing, numbered]
      exact ⟨_, fails, faults (.refl _), halts failing (Part.derived_of_core Part.writeFailed_core)
        (kind.trans (Part.writeFailed_kind (by decide) (by decide) (by decide)))⟩
    case refine_5 =>
      let lost := (u.putArea area .damaged).writeFailed 2 number
      have busyLost : lost.store.inFlight ≠ none := Part.writeFailed_keeps busyDamaged
      have derived : lost.derived = (u.putArea area .damaged).derived := Part.derived_of_core Part.writeFailed_core
      have tariff : lost.tariff = u.tariff := (Part.tariff_of_derived derived).trans (Part.putArea_tariff _ _ _)
      have codes : lost.codes = u.codes := (Part.codes_of_derived derived).trans (Part.putArea_codes _ _ _)
      have books : lost.account.books = u.account.books := by
        rw [Part.books_of_derived derived, Part.putArea_account]
      have activeLost : lost.tariff.activation = some a := by rw [tariff, active]
      have fails : exec (.bankWriteAttemptEnd false) s = .next (s.becomes lost.failActivation.endAttempt) := by
        rw [ends, second, Part.endBankWrite_lost area image running, ← numbered]
      obtain ⟨steady, reopened, codesLeft, results, unwaited⟩ := Part.failActivation_told activeLost
      refine ⟨_, fails, faults steady, reopened, ?_, fun code e rest head queue => ?_, fun still => ?_,
        fun m origin waits alone => ?_⟩
      · rw [codesLeft, Part.activationStopped_serials, codes]
      · obtain ⟨left, held⟩ := Part.activationStopped_of_activating (by rw [codes]; exact head) (by rw [codes]; exact queue)
        exact ⟨by rw [codesLeft, left], results _ _ rfl held⟩
      · rw [tariff, books] at unwaited
        exact unwaited still
      · intro charge
        have gone := Part.failActivation_midnight busyLost activeLost origin (by rw [tariff]; exact waits)
          (by rw [tariff]; exact alone)
        have chargeLeft : lost.bankValue bankStandingCharge 0 = charge := by
          rw [Part.bankValue, Part.activeBank_of_derived derived, put, ← Part.bankValue]
        have clock : lost.clock = u.clock := by rw [Part.clock_of_derived derived, put]
        have load : lost.load = u.load := by rw [Part.load_of_derived derived, put]
        rw [chargeLeft] at gone
        obtain ⟨activation, none, area⟩ := gone.tariff
        have left := lost.activationStopped_tariff
        rw [tariff] at left
        obtain ⟨loadLeft, unclosed, closed⟩ := gone.of_kept (lost.activationStopped_load.trans load)
          (lost.activationStopped_clock.trans clock) (lost.activationStopped_books.trans books) (by rw [left])
        rw [left] at activation area
        exact ⟨activation, none, area, gone.requested, loadLeft, unclosed, closed⟩
  case refine_2 =>
    intro keeps
    have busy : u.store.inFlight ≠ none := by simp [u, flight]
    have ends := Part.exec_config_ended flight
    refine ⟨⟨if u.store.keepsMark item then u.config.unstored else u.config.unstored.filter (fun i => i != item),
      fun kept => ?_, fun free => ?_, ?_⟩, fun first => ?_, fun second => ?_⟩
    · exact if_pos ((Store.keepsMark_iff _ _).mpr kept)
    · exact if_neg (fun kept => free ((Store.keepsMark_iff _ _).mp kept))
    · rw [ends]
      rfl
    · intro retried
      have retries : exec (.configWriteAttemptEnd false) s =
          .next (s.becomes (u.putInFlight (some (.config item value true))).noteFailure) := by
        rw [ends, first]
        rfl
      refine ⟨fun still => ?_, fun run absent =>
        ⟨_, retries, Part.noteFailure_arisen (u := u.putInFlight (some (.config item value true))) rfl rfl run absent⟩⟩
      rw [retries, Part.noteFailure_of_still (u := u.putInFlight (some (.config item value true))) still]
      rfl
    · have fails : exec (.configWriteAttemptEnd false) s = .next (s.becomes (u.writeFailed 2 2).endAttempt) := by
        rw [ends, second]
        rfl
      have core : (u.writeFailed 2 2).endAttempt.core = u.core := (Part.endAttempt_core _).trans Part.writeFailed_core
      have derived := Part.derived_of_core core
      have stored := congrArg NvArray.config (Part.areas_of_derived derived)
      exact ⟨_, fails, Part.faulted_of_steady busy (.refl _), Part.config_of_derived derived, stored,
        Part.books_of_derived derived⟩
  case refine_3 =>
    have busy : u.store.inFlight ≠ none := by simp [u, flight]
    have ends := Part.exec_journal_ended flight
    refine ⟨?_, fun first => ?_, fun second => ?_⟩
    · intro written
      have stored : u.endJournalWrite entry slot retry false true = (written.noticeEntry entry).startNext :=
        Part.entryStored_eq entry slot u
      rw [ends, stored, Part.noticeEntry]
    · intro retried
      have retries : exec (.journalWriteAttemptEnd false) s =
          .next (s.becomes (u.putInFlight (some (.journal entry slot true false))).noteFailure) := by
        rw [ends, first]
        rfl
      refine ⟨fun still => ?_, fun run absent =>
        ⟨_, retries, Part.noteFailure_arisen (u := u.putInFlight (some (.journal entry slot true false))) rfl rfl run absent⟩⟩
      rw [retries, Part.noteFailure_of_still (u := u.putInFlight (some (.journal entry slot true false))) still]
      rfl
    · have fails : exec (.journalWriteAttemptEnd false) s = .next (s.becomes (u.writeFailed 3 slot).endAttempt) := by
        rw [ends, second]
        rfl
      have core : (u.writeFailed 3 slot).endAttempt.core = u.core := (Part.endAttempt_core _).trans Part.writeFailed_core
      have derived := Part.derived_of_core core
      exact ⟨_, fails, Part.faulted_of_steady busy (.refl _), Part.config_of_derived derived, Part.books_of_derived derived⟩

end Sys2Proof.Machine
end

section
/-! What an operation does to the store is a sequence of a few steps of the store controller (R151, R154, R156, R159): an
invariant of the store that these steps keep is kept by every operation. -/

namespace Sys2Proof.Machine

/-- A property of the store controller, the array and the notices that stands while no write ends, no class 2 write is submitted
and no notice is fetched: it is kept by what joins a queue, by the choice of the next attempt, by the note of a change and by a
placing. -/
structure Part.StepInvariant (P : Part → Prop) : Prop where
  same : ∀ u v : Part, v.store = u.store → v.array = u.array → v.notices = u.notices → P u → P v
  asks : ∀ (u : Part) (r : CheckpointReason),
    P u → P { u with store := { u.store with waiting := some (addReason r (u.store.waiting.getD 0#16)) } }
  enters : ∀ (u : Part) (q : JournalRequest), P u → P { u with store := { u.store with journal := u.store.journal ++ [q] } }
  next : ∀ u : Part, P u → P u.startNext
  noted : ∀ u : Part, P u → P u.markDue
  placed : ∀ (u : Part) (p : Port) (x : Notice), P u → P (u.placeOn p x)

/-- `v` follows from `u` by such steps. -/
def Part.Submits (u v : Part) : Prop := ∀ P, Part.StepInvariant P → P u → P v

namespace Part.Submits

theorem refl (u : Part) : u.Submits u := fun _ _ h => h

theorem trans {u v w : Part} (a : u.Submits v) (b : v.Submits w) : u.Submits w := fun P inv h => b P inv (a P inv h)

theorem of_eq {u v : Part} (store : v.store = u.store) (array : v.array = u.array) (notices : v.notices = u.notices) :
    u.Submits v := fun _ inv h => inv.same u v store array notices h

theorem after {u v w : Part} (h : v.Submits w) (store : v.store = u.store) (array : v.array = u.array)
    (notices : v.notices = u.notices) : u.Submits w := (of_eq store array notices).trans h

theorem ite {u v w : Part} {p : Prop} [Decidable p] (a : u.Submits v) (b : u.Submits w) : u.Submits (if p then v else w) := by
  split
  · exact a
  · exact b

end Part.Submits

namespace Part

open Part.Submits (of_eq refl ite)

/-! ### The store controller -/

theorem markDue_submits (u : Part) : u.Submits u.markDue := fun _ inv h => inv.noted u h

theorem markDueIf_submits (b : Bool) (u : Part) : u.Submits (Part.markDueIf b u) := by
  cases b
  · exact refl u
  · exact markDue_submits u

theorem startNext_submits (u : Part) : u.Submits u.startNext := fun _ inv h => inv.next u h

theorem requestCheckpoint_submits (r : CheckpointReason) (u : Part) : u.Submits (u.requestCheckpoint r) :=
  fun _ inv h => inv.next _ (inv.asks u r h)

theorem submitJournal_submits (q : JournalRequest) (u : Part) : u.Submits (u.submitJournal q) :=
  .ite (refl u) fun _ inv h => inv.next _ (inv.enters u q h)

theorem journal_submits (d : JournalDetail) (u : Part) : u.Submits (u.journal d) := submitJournal_submits _ u

/-! ### Notices, records, the relay -/

theorem placeOn_submits (p : Port) (x : Notice) (u : Part) : u.Submits (u.placeOn p x) := fun _ inv h => inv.placed u p x h

theorem placeIf_submits (b : Bool) (p : Port) (x : Notice) (u : Part) : u.Submits (u.placeIf b p x) :=
  .ite (placeOn_submits p x u) (refl u)

theorem place_submits (x : Notice) (u : Part) : u.Submits (u.place x) :=
  ((placeIf_submits _ .m x u).trans (placeIf_submits _ .k x _)).trans (placeIf_submits _ .s x _)

theorem putRecord_submits (c : TamperCause) (r : TamperRecord) (u : Part) : u.Submits (u.putRecord c r) :=
  (markDueIf_submits _ _).after (by rfl) (by rfl) (by rfl)

theorem putLogical_submits (l : Logical) (u : Part) : u.Submits (u.putLogical l) :=
  (markDueIf_submits _ _).after (by rfl) (by rfl) (by rfl)

theorem putOpeningRecord_submits (r : OpeningRecord) (u : Part) : u.Submits (u.putOpeningRecord r) :=
  (markDueIf_submits _ _).after (by rfl) (by rfl) (by rfl)

theorem settleRelay_submits (st : Settled) (u : Part) : u.Submits (u.settleRelay st) :=
  (putLogical_submits (.settled st) _).after (by rfl) (by rfl) (by rfl)

theorem enterRecord_submits (c : CauseSet) (u : Part) : u.Submits (u.enterRecord c) := putOpeningRecord_submits _ u

theorem bufferEvent_submits (k : Cover) (b : Bool) (u : Part) : u.Submits (u.bufferEvent k b) := .ite (refl u) (of_eq rfl rfl rfl)

theorem absentEvidence_submits (c : TamperCause) (u : Part) : u.Submits (u.absentEvidence c) := by
  unfold absentEvidence
  dsimp only
  cases causeCover c with
  | some cover => exact .ite ((bufferEvent_submits cover false u).trans (markDue_submits _)) (journal_submits _ u)
  | none => exact .ite (journal_submits _ u) (markDue_submits u)

theorem becomeAbsent_submits (c : TamperCause) (u : Part) : u.Submits (u.becomeAbsent c) :=
  (putRecord_submits _ _ u).trans (absentEvidence_submits _ _)

theorem conditionEnds_submits (c : TamperCause) (u : Part) : u.Submits (u.conditionEnds c) := by
  unfold conditionEnds
  dsimp only
  split
  case h_4 => exact .ite (putRecord_submits _ _ u) ((putRecord_submits _ _ u).trans (becomeAbsent_submits _ _))
  all_goals exact putRecord_submits _ _ u

theorem leaveBypassWatch_submits (d : Direction) (u : Part) : u.Submits (u.leaveBypassWatch d) := by
  have ends : u.Submits (if u.condition .bypass then u.conditionEnds .bypass else u) :=
    .ite (conditionEnds_submits _ u) (refl u)
  unfold leaveBypassWatch
  split
  · exact ends
  · exact ends
  · exact refl u

theorem startOperation_submits (d : Direction) (r : Reason) (u : Part) : u.Submits (u.startOperation d r) := by
  have unplaced := ((u.leaveBypassWatch_submits d).trans (putOpeningRecord_submits (u.recordAtStart d r) _)).trans
    (putLogical_submits .inProgress _)
  have placed (a b : Bool) (v : Part) : v.Submits ((v.placeIf a .m (.supplyPending d r)).placeIf b .k (.supplyPending d r)) :=
    (placeIf_submits a .m _ v).trans (placeIf_submits b .k _ _)
  exact .ite (unplaced.trans ((placed _ _ _).after (by rfl) (by rfl) (by rfl))) (refl u)

theorem leaveOpen_submits (u : Part) : u.Submits u.leaveOpen :=
  .ite ((u.settleRelay_submits .awaitingConfirm).trans (place_submits _ _)) (startOperation_submits _ _ u)

theorem actOn_submits (st : Settled) (c : CauseSet) (u : Part) : u.Submits (u.actOn st c) := by
  cases st with
  | closed => exact .ite (startOperation_submits _ _ u) (refl u)
  | opened => exact .ite (enterRecord_submits c u) ((enterRecord_submits c u).trans (leaveOpen_submits _))
  | awaitingConfirm => exact .ite ((enterRecord_submits c u).trans (settleRelay_submits _ _)) (refl u)
  | stuckClosed => exact enterRecord_submits c u
  | stuckOpen => exact refl u

theorem recompute_submits (u : Part) : u.Submits u.recompute := by
  cases active : u.active with
  | false => rw [recompute_inactive active]; exact refl u
  | true =>
    cases relay : u.supply.relay with
    | operating op => rw [recompute_operating relay]; exact refl u
    | settled st =>
      rw [recompute_settled active relay]
      exact (actOn_submits st u.counting u.decided).after rfl rfl rfl

theorem handCauses_submits (c : CauseSet) (u : Part) : u.Submits (u.handCauses c) :=
  .ite (refl u) ((recompute_submits _).after rfl rfl rfl)

/-! ### Tamper conditions -/

theorem evaluateTamper_submits (u : Part) : u.Submits u.evaluateTamper := (handCauses_submits _ _).after rfl rfl rfl

theorem presentEvidence_submits (c : TamperCause) (u : Part) : u.Submits (u.presentEvidence c) := by
  rw [presentEvidence_eq]
  refine Submits.trans (Submits.trans ?_ (evaluateTamper_submits _)) (requestCheckpoint_submits _ _)
  exact .ite (journal_submits _ u) ((journal_submits _ u).trans (place_submits _ _))

theorem presentOnBattery_submits (k : Cover) (u : Part) : u.Submits (u.presentOnBattery k) := by
  have buffered := ((putRecord_submits (coverCause k) { u.tamperRecord (coverCause k) with raisedOnBattery := true } u).trans
    (bufferEvent_submits k true _)).trans (markDue_submits _)
  exact .ite (buffered.trans (evaluateTamper_submits _)) buffered

theorem becomePresent_submits (c : TamperCause) (u : Part) : u.Submits (u.becomePresent c) := by
  have put := putRecord_submits c ((u.tamperRecord c).presented u.stamp) u
  by_cases away : causeCover c = none ∨ u.onBattery = false
  · rw [becomePresent_of_away away]
    exact put.trans (presentEvidence_submits _ _)
  · obtain ⟨covered, battery⟩ := not_or.mp away
    obtain ⟨k, cover⟩ := Option.ne_none_iff_exists'.mp covered
    rw [becomePresent_of_battery cover (by simpa using battery)]
    exact put.trans (presentOnBattery_submits _ _)

theorem enterPending_submits (c : TamperCause) (b : Bool) (u : Part) : u.Submits (u.enterPending c b) :=
  .ite (putRecord_submits _ _ u) (becomePresent_submits _ _)

theorem conditionArises_submits (c : TamperCause) (u : Part) : u.Submits (u.conditionArises c) := by
  have noted := putRecord_submits c { u.tamperRecord c with condition := true } u
  unfold conditionArises
  dsimp only
  refine .ite noted ?_
  split
  · exact noted.trans (enterPending_submits _ _ _)
  · exact noted.trans (enterPending_submits _ _ _)
  · exact noted
  · exact noted.trans (putRecord_submits _ _ _)

theorem setCondition_submits (c : TamperCause) (b : Bool) (u : Part) : u.Submits (u.setCondition c b) :=
  .ite (refl u) (.ite (conditionArises_submits c u)
    (.ite ((conditionEnds_submits c u).trans (evaluateTamper_submits _)) (conditionEnds_submits c u)))

/-! ### The account -/

theorem placeWhen_submits (b : Prop) [Decidable b] (x : Notice) (u : Part) : u.Submits (u.placeWhen b x) :=
  .ite (place_submits x u) (refl u)

theorem creditNotices_submits (a : Account) (u : Part) : u.Submits (u.creditNotices a) := by
  rw [creditNotices_eq]
  exact (((placeWhen_submits _ _ _).trans (placeWhen_submits _ _ _)).trans (placeWhen_submits _ _ _)).trans
    (placeWhen_submits _ _ _)

theorem putAccount_submits (a : Account) (u : Part) : u.Submits (u.putAccount a) :=
  .ite (refl u) ((markDue_submits _).after rfl rfl rfl)

theorem deriveQuietly_submits (u : Part) : u.Submits u.deriveQuietly :=
  (putAccount_submits u.derivedAccount u).trans ((creditNotices_submits _ _).after (by rfl) (by rfl) (by rfl))

theorem derive_submits (u : Part) : u.Submits u.derive :=
  .ite (deriveQuietly_submits u) ((deriveQuietly_submits u).trans (recompute_submits _))

theorem afterCharge_submits (c : Nat) (u : Part) : u.Submits (u.afterCharge c) := by
  unfold afterCharge
  dsimp only
  cases u.derive.activeBank with
  | none => exact derive_submits u
  | some i => exact .ite ((derive_submits u).trans (requestCheckpoint_submits .step _)) (derive_submits u)

theorem energyCharge_submits (e : Nat) (shortfall : Bool) (u : Part) : u.Submits (u.energyCharge e shortfall) :=
  (putAccount_submits _ u).trans (afterCharge_submits _ _)

theorem standingCharge_submits (c : Nat) (u : Part) : u.Submits (u.standingCharge c) :=
  .ite (refl u) ((putAccount_submits _ u).trans (afterCharge_submits c _))

theorem dayCharge_submits (u : Part) : u.Submits u.dayCharge := by
  unfold dayCharge
  cases u.activeBank with
  | none => exact refl u
  | some i => exact standingCharge_submits _ u

theorem closeDay_submits (day : Nat) (u : Part) : u.Submits (u.closeDay day) := (markDue_submits _).after rfl rfl rfl

theorem putLoad_submits (l : Load) (u : Part) : u.Submits (u.putLoad l) := by
  have put := (markDueIf_submits (u.load.limit != l.limit || u.load.extended != l.extended)
    { u with load := l }).after (u := u) rfl rfl rfl
  exact put.trans (handCauses_submits _ _)

/-! ### The close of a window -/

theorem chargeShortfall_submits (x : Window) (u : Part) : u.Submits (u.chargeShortfall x) := by
  unfold chargeShortfall
  cases u.windowShortfall x with
  | none => exact refl u
  | some d => exact energyCharge_submits d true u

theorem windowConditions_submits (x : Window) (u : Part) : u.Submits (u.windowConditions x) :=
  (setCondition_submits _ _ u).trans (setCondition_submits _ _ _)

theorem unjudgedClose_submits (u : Part) : u.Submits u.unjudgedClose := by
  unfold unjudgedClose
  cases u.recon.window with
  | none => exact refl u
  | some x => exact ((chargeShortfall_submits x _).trans (windowConditions_submits x _)).after rfl rfl rfl

theorem clearMarker_submits (u : Part) : u.Submits u.clearMarker := (markDueIf_submits _ _).after rfl rfl rfl

end Part

end Sys2Proof.Machine
end

section
/-! PFW and the stop of the main domain (R46, R70, R95, R141, R149, R161, R176). -/

namespace Sys2Proof.Machine

/-- The codes at PFW: those short of their commit are discarded (R95). -/
def Codes.atPfw (c : Codes) : Codes :=
  match c.head with
  | some (.commit _ _) | some (.activating _) => { c with queue := c.queue.take 1 }
  | some (.screening _ _) | none => { c with queue := [], head := none }

/-- A tamper record at PFW: a debounce in progress is taken back (R141). -/
def TamperRecord.atPfw (r : TamperRecord) : TamperRecord :=
  match r.state with
  | .pending prior => { r with state := if prior then .latchedAbsent else .quiet, timer := none }
  | .quiet | .present | .latchedAbsent => r

/-- A receiver at PFW (R176). -/
def Receiver.atPfw (r : Receiver) : Receiver := { r with state := r.state.atPfw }

theorem Receiver.atPfw_of_busy {r : Receiver} {f : List Byte} (state : r.state = .busy f) : r.atPfw = r := by
  rw [atPfw, state, Receive.atPfw, ← state]

theorem Receiver.atPfw_of_other {r : Receiver} (state : ∀ f, r.state ≠ .busy f) : r.atPfw = { r with state := .stopped } := by
  rw [atPfw]
  cases busy : r.state with
  | busy f => exact absurd busy (state f)
  | _ => rfl

namespace Part

/-! ### What PFW takes before the window closes -/

/-- The part whose ports, codes, pending bank and class 2 writes PFW has taken. -/
def cutOff (u : Part) : Part :=
  { u with
    power := .failing, tariff := { u.tariff with pending := .empty, pendingImage := Image.zero },
    receivers := ⟨u.receivers.m.atPfw, u.receivers.k.atPfw, u.receivers.s.atPfw⟩, codes := u.codes.atPfw,
    store := { u.store with
      class2 := [], hourlyAt := none, discarded := u.store.class2.filterMap Class2Write.item } }

theorem discardCodes_eq (u : Part) : u.discardCodes = { u with codes := u.codes.atPfw } := by
  unfold discardCodes Codes.atPfw
  split <;> simp_all

theorem powerFails_of_running {u : Part} (running : u.power = .running) :
    u.powerFails = (u.cutOff.unjudgedClose.dropCapture.tamperAtPfw).requestCheckpoint .powerFail := by
  have taken : (({ u with power := .failing, tariff := u.tariff.losePending } : Part).stopReceiving.discardCodes).storeAtPfw =
      u.cutOff := by
    rw [discardCodes_eq]
    rfl
  rw [powerFails, if_pos (u.running_iff.mpr running)]
  dsimp only
  rw [taken]

theorem mem_discarded (l : List Class2Write) (item : ConfigItem) :
    item ∈ l.filterMap Class2Write.item ↔ ∃ value, .config item value ∈ l := by
  rw [List.mem_filterMap]
  constructor
  · rintro ⟨w, waits, named⟩
    cases w with
    | bank _ _ => cases named
    | config i value =>
      obtain rfl : i = item := Option.some.inj named
      exact ⟨value, waits⟩
  · rintro ⟨value, waits⟩
    exact ⟨_, waits, rfl⟩

/-! ### The tamper records at PFW -/

theorem dropPending_self (c : TamperCause) (u : Part) : (u.dropPending c).tamperRecord c = (u.tamperRecord c).atPfw := by
  unfold dropPending TamperRecord.atPfw
  cases state : (u.tamperRecord c).state with
  | pending prior => exact putRecord_self _ _ _
  | quiet => rfl
  | present => rfl
  | latchedAbsent => rfl

theorem dropPending_other {c d : TamperCause} (other : d ≠ c) (u : Part) :
    (u.dropPending c).tamperRecord d = u.tamperRecord d := by
  unfold dropPending
  cases (u.tamperRecord c).state with
  | pending prior => exact putRecord_other other _ _
  | quiet => rfl
  | present => rfl
  | latchedAbsent => rfl

theorem dropPending_core (c : TamperCause) (u : Part) : (u.dropPending c).core = u.core := by
  unfold dropPending
  cases (u.tamperRecord c).state with
  | pending prior => exact putRecord_core _ _ _
  | quiet => rfl
  | present => rfl
  | latchedAbsent => rfl

theorem dropPending_supply (c : TamperCause) (u : Part) : (u.dropPending c).supply = u.supply := by
  unfold dropPending
  cases (u.tamperRecord c).state with
  | pending prior => exact putRecord_supply _ _ _
  | quiet => rfl
  | present => rfl
  | latchedAbsent => rfl

theorem dropPending_submits (c : TamperCause) (u : Part) : u.Submits (u.dropPending c) := by
  unfold dropPending
  cases (u.tamperRecord c).state with
  | pending prior => exact putRecord_submits _ _ _
  | quiet => exact .refl u
  | present => exact .refl u
  | latchedAbsent => exact .refl u

theorem tamperAtPfw_eq (u : Part) :
    u.tamperAtPfw = ((u.dropPending .magnetic).dropPending .metrologySilent).dropPending .neutralMissing := rfl

theorem tamperAtPfw_core (u : Part) : u.tamperAtPfw.core = u.core := by
  rw [tamperAtPfw_eq, dropPending_core, dropPending_core, dropPending_core]

theorem tamperAtPfw_supply (u : Part) : u.tamperAtPfw.supply = u.supply := by
  rw [tamperAtPfw_eq, dropPending_supply, dropPending_supply, dropPending_supply]

theorem tamperAtPfw_submits (u : Part) : u.Submits u.tamperAtPfw :=
  ((dropPending_submits _ u).trans (dropPending_submits _ _)).trans (dropPending_submits _ _)

theorem tamperAtPfw_of_dropped {c : TamperCause} (dropped : c = .magnetic ∨ c = .metrologySilent ∨ c = .neutralMissing)
    (u : Part) : u.tamperAtPfw.tamperRecord c = (u.tamperRecord c).atPfw := by
  rw [tamperAtPfw_eq]
  rcases dropped with rfl | rfl | rfl
  · rw [dropPending_other (by decide), dropPending_other (by decide), dropPending_self]
  · rw [dropPending_other (by decide), dropPending_self, dropPending_other (by decide)]
  · rw [dropPending_self, dropPending_other (by decide), dropPending_other (by decide)]

theorem tamperAtPfw_of_kept {c : TamperCause} (magnetic : c ≠ .magnetic) (silent : c ≠ .metrologySilent)
    (neutral : c ≠ .neutralMissing) (u : Part) : u.tamperAtPfw.tamperRecord c = u.tamperRecord c := by
  rw [tamperAtPfw_eq, dropPending_other neutral, dropPending_other silent, dropPending_other magnetic]

/-! ### The unjudged close at PFW (R43, R46) -/

theorem afterCharge_record {d : TamperCause} (other : d ≠ .bypass) (c : Nat) (u : Part) :
    (u.afterCharge c).tamperRecord d = u.tamperRecord d := (afterCharge_steady c u).records.1 d other

theorem unjudgedClose_record {d : TamperCause} (other : d ≠ .bypass) (integrity : d ≠ .pulseIntegrity)
    (reverse : d ≠ .reverseEnergy) (u : Part) : u.unjudgedClose.tamperRecord d = u.tamperRecord d := by
  have charged (x : Window) (w : Part) : (w.chargeShortfall x).tamperRecord d = w.tamperRecord d := by
    unfold chargeShortfall
    cases w.windowShortfall x with
    | none => rfl
    | some e => exact (afterCharge_record other _ _).trans ((putAccount_steady _ w).records.1 d other)
  unfold unjudgedClose
  cases u.recon.window with
  | none => rfl
  | some x =>
    unfold windowConditions
    dsimp only
    rw [setCondition_other other reverse, setCondition_other other integrity, charged]
    rfl

/-- The part behind the close and the loss of the pending conditions, before the checkpoint is requested. -/
def pfwTaken (u : Part) : Part := u.cutOff.unjudgedClose.dropCapture.tamperAtPfw

/-- The part that PFW leaves, up to what a derivation changes. -/
def pfwItems (u : Part) : Part :=
  { u.cutOff with
    account := u.cutOff.unjudgedAccount, recon := { u.recon with window := none },
    pulse := { u.pulse with capture := none } }

theorem pfwTaken_derived (u : Part) : u.pfwTaken.derived = u.pfwItems.derived := by
  refine (derived_of_core (tamperAtPfw_core _)).trans ?_
  exact derived_map Part.dropCapture (fun _ => rfl) u.cutOff.unjudgedClose_derived_eq

theorem pfwTaken_submits (u : Part) : u.cutOff.Submits u.pfwTaken := by
  have dropped (w : Part) : w.Submits w.dropCapture := .of_eq rfl rfl rfl
  exact ((unjudgedClose_submits _).trans (dropped _)).trans (tamperAtPfw_submits _)

theorem pfwTaken_ok {u : Part} (h : u.cutOff.unjudgedClose.AccountDerived) : u.pfwTaken.AccountDerived := by
  have dropped : u.cutOff.unjudgedClose.dropCapture.AccountDerived := h.congr rfl rfl rfl rfl rfl rfl
  exact dropped.of_core (tamperAtPfw_core _) (.of_eq (by rw [pfwTaken, tamperAtPfw_supply]))

theorem pfwTaken_condition {c : TamperCause} (magnetic : c ≠ .magnetic) (silent : c ≠ .metrologySilent)
    (neutral : c ≠ .neutralMissing) (u : Part) : u.pfwTaken.condition c = u.cutOff.unjudgedClose.condition c :=
  condition_of_record (tamperAtPfw_of_kept magnetic silent neutral _)

theorem pfwTaken_dropped {c : TamperCause} (dropped : c = .magnetic ∨ c = .metrologySilent ∨ c = .neutralMissing) (u : Part) :
    u.pfwTaken.tamperRecord c = (u.tamperRecord c).atPfw := by
  have closed : u.cutOff.unjudgedClose.tamperRecord c = u.tamperRecord c := by
    rcases dropped with rfl | rfl | rfl
    all_goals exact unjudgedClose_record (by decide) (by decide) (by decide) _
  have same : u.cutOff.unjudgedClose.dropCapture.tamperRecord c = u.cutOff.unjudgedClose.tamperRecord c := rfl
  rw [pfwTaken, tamperAtPfw_of_dropped dropped, same, closed]

theorem pfwTaken_relay {op : Operation} {u : Part} (operating : u.supply.relay = .operating op) :
    u.pfwTaken.supply.relay = .operating op := by
  rw [pfwTaken, tamperAtPfw_supply]
  exact (unjudgedClose_during (u := u.cutOff) operating).relay

/-! ### The queues that PFW empties -/

/-- No class 2 write waits, the hourly timer has stopped, and these writes have been discarded. -/
def Emptied (l : List ConfigItem) (u : Part) : Prop :=
  u.store.class2 = [] ∧ u.store.hourlyAt = none ∧ u.store.discarded = l

theorem startNext_plans {u : Part} (none : u.store.class2 = []) :
    u.startNext.store.class2 = [] ∧ u.startNext.store.hourlyAt = u.store.hourlyAt ∧
      u.startNext.store.discarded = u.store.discarded ∧ u.startNext.store.failureRun = u.store.failureRun := by
  by_cases still : u.Still
  · rw [startNext_of_still still]
    exact ⟨none, rfl, rfl, rfl⟩
  · obtain ⟨idle, on⟩ := not_or.mp still
    have idle : u.store.inFlight = .none := by simpa using idle
    have on : u.mainOn = true := by simpa using on
    cases waiting : u.store.waiting with
    | some reasons =>
      rw [startNext_of_waiting idle on waiting]
      exact ⟨none, rfl, rfl, rfl⟩
    | none =>
      cases journal : u.store.journal with
      | nil =>
        rw [startNext_of_nothing idle waiting (.inl none) journal]
        exact ⟨none, rfl, rfl, rfl⟩
      | cons r rest =>
        rw [startNext_of_journal idle waiting (.inl none) (u.mainOn_iff.mp on) journal, startJournal]
        dsimp only
        split <;> exact ⟨none, rfl, rfl, rfl⟩

theorem emptied_invariant (l : List ConfigItem) : StepInvariant (Emptied l) := by
  refine ⟨fun u v store _ _ h => ?_, fun _ _ h => h, fun _ _ h => h, fun u h => ?_, fun _ h => h, fun _ _ _ h => h⟩
  · rw [Emptied, store]
    exact h
  · obtain ⟨none, hourly, discarded⟩ := h
    obtain ⟨class2, timer, lost, -⟩ := startNext_plans none
    exact ⟨class2, timer.trans hourly, lost.trans discarded⟩

/-! ### The stop (R161) -/

/-- The array that a stop leaves of a write cut short (logs 8 to 10, 22). -/
def cutArray (whole : Bool) (u : Part) : NvArray := (u.cutWrite whole).array

theorem cutWrite_eq (whole : Bool) (u : Part) : u.cutWrite whole = { u with array := u.cutArray whole } := by
  unfold cutArray cutWrite
  cases u.store.inFlight with
  | none => rfl
  | some x =>
    cases x with
    | checkpoint c => cases h : whole && !c.writesNothing <;> simp only [h, Bool.false_eq_true, if_false, if_true]
    | bank a i r => cases a <;> rfl
    | config item value r => cases whole <;> rfl
    | journal e slot r n => cases h : whole && !n <;> simp only [h, Bool.false_eq_true, if_false, if_true]

theorem stopMain_eq {u : Part} (on : u.power ≠ .stopped) (whole : Bool) :
    u.stopMain whole =
      { u with
        power := .stopped, tariff := u.tariff.atStop, outputs := ⟨false, false, ⟨false, false, false⟩⟩,
        receivers := ⟨{ u.receivers.m with state := .stopped }, { u.receivers.k with state := .stopped },
          { u.receivers.s with state := .stopped }⟩,
        codes := { u.codes with queue := [], head := none }, array := u.cutArray whole,
        tamper := { u.tamper with
          records := u.tamper.records.set 2 { u.tamperRecord .magnetic with timer := none } },
        store := { u.store with waiting := none, class2 := [], journal := [], inFlight := none, hourlyAt := none } } := by
  have timed (w : Part) : w.tamperAtStop =
      { w with tamper := { w.tamper with
          records := w.tamper.records.set 2 { w.tamperRecord .magnetic with timer := none } } } :=
    putRecord_of_carried rfl
  rw [stopMain, if_pos (u.mainOn_iff.mpr on), cutWrite_eq]
  exact timed _

end Part

end Sys2Proof.Machine
end

section
/-! The statement about PFW, the stop and the retention reset. -/

namespace Sys2Proof.Machine

/-- Settles O55: PFW takes its items, closes the window and asks for the checkpoint; the stop and the reset by evaluation. -/
theorem powerFailStopAndRetentionReset : Obligations.PowerFailStopAndRetentionReset := by
  unfold Obligations.PowerFailStopAndRetentionReset
  intro s u atPfw keptCodes
  have receiver (r : Receiver) : atPfw r = r.atPfw := by
    cases busy : r.state with
    | busy f => rw [Receiver.atPfw_of_busy busy]; simp only [atPfw, busy]
    | _ => rw [Receiver.atPfw_of_other (by simp [busy])]; simp only [atPfw, busy]
  have kept : keptCodes = u.codes.atPfw := by
    cases head : u.codes.head with
    | none => simp only [keptCodes, Codes.atPfw, head]
    | some stage => cases stage <;> simp only [keptCodes, Codes.atPfw, head]
  refine ⟨fun running => ?_, fun off => ?_, fun whole on => ?_, fun stopped => ?_⟩
  case refine_1 =>
    let v := u.pfwTaken.requestCheckpoint .powerFail
    have fails : exec .powerFailWarning s = .next (s.becomes v) := by
      rw [exec_eq]
      exact congrArg (fun w => Host.Outcome.next (s.becomes w)) (Part.powerFails_of_running running)
    have derived : v.derived = u.pfwItems.derived := (Part.requestCheckpoint_derived _ _).trans u.pfwTaken_derived
    have tamper : v.tamper = u.pfwTaken.tamper := by simp [v]
    have config := Part.config_of_derived derived
    have emptied : v.Emptied (u.store.class2.filterMap Class2Write.item) :=
      (u.pfwTaken_submits.trans (Part.requestCheckpoint_submits .powerFail _)) _ (Part.emptied_invariant _) ⟨rfl, rfl, rfl⟩
    obtain ⟨class2, hourly, discarded⟩ := emptied
    have condition {c : TamperCause} (magnetic : c ≠ .magnetic) (silent : c ≠ .metrologySilent) (neutral : c ≠ .neutralMissing) :
        v.condition c = u.cutOff.unjudgedClose.condition c :=
      (Part.condition_of_record (Part.tamperRecord_congr tamper c)).trans (Part.pfwTaken_condition magnetic silent neutral u)
    refine ⟨v, fails, ?_, fun x opened => ?_, class2, hourly, fun item => ?_, congrArg Configuration.unstored config,
      fun op operating => ?_, Part.requestCheckpoint_requested .powerFail _, fun c prior dropped state => ?_⟩
    · refine derived.trans ?_
      rw [receiver, receiver, receiver, kept, Part.pfwItems, Part.unjudgedAccount_eq]
      rfl
    · have opened : u.cutOff.recon.window = some x := opened
      obtain ⟨integrity, reverse⟩ := Part.unjudgedClose_conditions opened
      refine ⟨?_, ?_, fun short => ?_⟩
      · rw [condition (by decide) (by decide) (by decide), integrity]
      · rw [condition (by decide) (by decide) (by decide), reverse]
        rfl
      · exact (Part.pfwTaken_ok (Part.unjudgedClose_ok opened short)).requestCheckpoint .powerFail
    · rw [discarded]
      exact Part.mem_discarded _ _
    · have supply : v.supply = u.pfwTaken.supply := by simp [v]
      rw [supply]
      exact Part.pfwTaken_relay operating
    · rw [Part.tamperRecord_congr tamper, Part.pfwTaken_dropped dropped, TamperRecord.atPfw, state]
  case refine_2 =>
    have still : u.powerFails = u := if_neg (fun running => off (u.running_iff.mp running))
    rw [exec_eq]
    exact congrArg (fun w => Host.Outcome.next (s.becomes w)) still
  case refine_3 =>
    intro array
    have cut : array = u.cutArray whole := by
      cases flight : u.store.inFlight with
      | none => simp only [array, Part.cutArray, Part.cutWrite, flight]
      | some x =>
        cases x with
        | checkpoint c =>
          have iff : (whole && !c.writesNothing) = true ↔ whole = true ∧ c.writesNothing = false := by simp
          simp only [array, Part.cutArray, Part.cutWrite, flight, iff]
          split <;> rfl
        | bank area image retry => cases area <;> simp only [array, Part.cutArray, Part.cutWrite, flight] <;> rfl
        | config item value retry =>
          simp only [array, Part.cutArray, Part.cutWrite, flight]
          split <;> rfl
        | journal e slot retry empty =>
          have iff : (whole && !empty) = true ↔ whole = true ∧ empty = false := by simp
          simp only [array, Part.cutArray, Part.cutWrite, flight, iff]
          split <;> rfl
    rw [exec_eq, cut]
    exact congrArg (fun w => Host.Outcome.next (s.becomes w)) (Part.stopMain_eq on whole)
  case refine_4 =>
    have lost : u.loseRetention = { Part.newPart with inputs := u.inputs, array := u.array, overtaken := u.overtaken } := by
      have still : u.stopMain false = u := Part.stopMain_off u (by simp [Part.mainOn, stopped]) false
      rw [Part.loseRetention, still]
    rw [exec_eq]
    exact congrArg (fun w => Host.Outcome.next (s.becomes w)) lost

end Sys2Proof.Machine
end

section
/-! The start of the main domain decides nothing before its step 5 (R120, R162): what the operations of the earlier steps leave
while the part is starting. -/

namespace Sys2Proof.Machine

/-- The controller's items without the cause set. -/
def Supply.uncaused (x : Supply) : Supply := { x with causes := CauseSet.none }

theorem Supply.eq_of_uncaused {x y : Supply} (h : x.uncaused = y.uncaused) : x = { y with causes := x.causes } := by
  have rebuilt := congrArg (fun z : Supply => { z with causes := x.causes }) h
  exact rebuilt

/-- `v` follows from `u`, a part that is starting, by operations that decide nothing and move no tamper record. -/
structure Part.Undecided (u v : Part) : Prop where
  power : v.power = .starting
  supply : v.supply.uncaused = u.supply.uncaused
  records : v.tamper.records = u.tamper.records
  buffer : v.tamper.buffer = u.tamper.buffer

namespace Part

/-! ### A decision of a part that is starting -/

theorem active_of_starting {u : Part} (h : u.power = .starting) : u.active = false := by
  rw [active, h]
  rfl

theorem recompute_of_starting {u : Part} (h : u.power = .starting) : u.recompute = u := recompute_inactive (active_of_starting h)

theorem handCauses_of_starting {u : Part} (h : u.power = .starting) (c : CauseSet) :
    u.handCauses c = { u with supply := { u.supply with causes := c } } := by
  have handed : recompute { u with supply := { u.supply with causes := c } } = { u with supply := { u.supply with causes := c } } :=
    recompute_of_starting h
  rw [handCauses, handed]
  split
  next same => rw [← same]
  next => rfl

theorem evaluateTamper_of_starting {u : Part} (h : u.power = .starting) : u.evaluateTamper = u.evaluateTamperQuietly :=
  handCauses_of_starting (u := { u with tamper := { u.tamper with member := u.tamperMember } }) h _

theorem derive_of_starting {u : Part} (h : u.power = .starting) : u.derive = u.deriveQuietly := by
  have quiet : u.deriveQuietly.power = .starting := (power_of_derived (deriveQuietly_derived u)).trans h
  unfold derive
  dsimp only
  rw [recompute_of_starting quiet]
  exact ite_self _

/-! ### The operations of the charge and of the tariff engine -/

namespace Undecided

theorem refl {u : Part} (h : u.power = .starting) : u.Undecided u := ⟨h, rfl, rfl, rfl⟩

theorem trans {u v w : Part} (a : u.Undecided v) (b : v.Undecided w) : u.Undecided w :=
  ⟨b.power, b.supply.trans a.supply, b.records.trans a.records, b.buffer.trans a.buffer⟩

theorem of_eq {u v : Part} (h : u.power = .starting) (power : v.power = u.power) (supply : v.supply = u.supply)
    (tamper : v.tamper = u.tamper) : u.Undecided v := ⟨power.trans h, by rw [supply], by rw [tamper], by rw [tamper]⟩

theorem ite {u v w : Part} {p : Prop} [Decidable p] (a : u.Undecided v) (b : u.Undecided w) :
    u.Undecided (if p then v else w) := by
  split
  · exact a
  · exact b

end Undecided

open Undecided (refl of_eq)

theorem creditNotices_tamper (a : Account) (u : Part) : (u.creditNotices a).tamper = u.tamper := by
  have placed (b : Prop) [Decidable b] (x : Notice) (w : Part) : (w.placeWhen b x).tamper = w.tamper := by
    unfold placeWhen
    split <;> simp
  rw [creditNotices_eq, placed, placed, placed, placed]

theorem putAccount_tamper (a : Account) (u : Part) : (u.putAccount a).tamper = u.tamper := by
  unfold putAccount
  split <;> rfl

section
variable {u : Part} (h : u.power = .starting)
include h

theorem requestCheckpoint_undecided (r : CheckpointReason) : u.Undecided (u.requestCheckpoint r) :=
  of_eq h (by simp) (by simp) (by simp)

theorem journal_undecided (d : JournalDetail) : u.Undecided (u.journal d) := of_eq h (by simp) (by simp) (by simp)

theorem place_undecided (x : Notice) : u.Undecided (u.place x) := of_eq h (by simp) (by simp) (by simp)

theorem putAccount_undecided (a : Account) : u.Undecided (u.putAccount a) :=
  of_eq h ((power_of_derived (putAccount_derived_eq a u)).trans rfl) (putAccount_supply a u) (putAccount_tamper a u)

theorem deriveQuietly_undecided : u.Undecided u.deriveQuietly := by
  have tamper : u.deriveQuietly.tamper = u.tamper := by
    unfold deriveQuietly
    dsimp only
    rw [creditNotices_tamper]
    exact putAccount_tamper _ u
  refine ⟨(power_of_derived (deriveQuietly_derived u)).trans h, ?_, by rw [tamper], by rw [tamper]⟩
  unfold deriveQuietly
  dsimp only
  rw [creditNotices_supply]
  simp [Supply.uncaused]

theorem afterCharge_undecided (c : Nat) : u.Undecided (u.afterCharge c) := by
  have derived := deriveQuietly_undecided h
  unfold afterCharge
  rw [derive_of_starting h]
  dsimp only
  cases u.deriveQuietly.activeBank with
  | none => exact derived
  | some i => exact .ite (derived.trans (requestCheckpoint_undecided derived.power _)) derived

theorem standingCharge_undecided (c : Nat) : u.Undecided (u.standingCharge c) := by
  have put := putAccount_undecided h
  exact .ite (refl h) ((put _).trans (afterCharge_undecided (put _).power c))

theorem dayCharge_undecided : u.Undecided u.dayCharge := by
  unfold dayCharge
  cases u.activeBank with
  | none => exact refl h
  | some i => exact standingCharge_undecided h _

theorem closeDay_undecided (day : Nat) : u.Undecided (u.closeDay day) := of_eq h rfl rfl rfl

theorem loadMidnight_undecided : u.Undecided u.loadMidnight := by
  let l := { u.load with extended := false }
  let put := Part.markDueIf (u.load.limit != l.limit || u.load.extended != l.extended) { u with load := l }
  have marked : u.Undecided put := of_eq h (by simp [put]) (by simp [put]) (by simp [put])
  have handed : u.loadMidnight = put.handCauses { put.supply.causes with loadLimit := l.member } := rfl
  rw [handed, handCauses_of_starting marked.power]
  exact ⟨marked.power, marked.supply, marked.records, marked.buffer⟩

theorem walkQuietly_undecided : u.Undecided u.walkQuietly := of_eq h rfl rfl rfl

theorem clearMarker_undecided : u.Undecided u.clearMarker :=
  of_eq h (by simp [clearMarker]) (by simp [clearMarker]) (by simp [clearMarker])

theorem loseSchedule_undecided : u.Undecided u.loseSchedule := by
  unfold loseSchedule
  cases u.tariff.scheduleMarker with
  | none => exact refl h
  | some f => exact (clearMarker_undecided h).trans (place_undecided (clearMarker_undecided h).power _)

theorem dayCharges_undecided (n : Nat) : u.Undecided (Part.dayCharges n u) := by
  induction n generalizing u with
  | zero => exact refl h
  | succ n ih => exact (dayCharge_undecided h).trans (ih (dayCharge_undecided h).power)

theorem catchUp_undecided : u.Undecided u.catchUp := by
  have charged := dayCharges_undecided h (dayOf u.clock.count - u.tariff.lastStandingDay)
  have closed := charged.trans (closeDay_undecided charged.power (dayOf u.clock.count))
  have asked := closed.trans (requestCheckpoint_undecided closed.power .midnight)
  exact .ite (asked.trans (loadMidnight_undecided asked.power)) (refl h)

theorem putTariff_undecided (t : Tariff) : u.Undecided { u with tariff := t } := of_eq h rfl rfl rfl

theorem startTariff_undecided : u.Undecided u.startTariff := by
  have lost := loseSchedule_undecided h
  have walked := lost.trans (walkQuietly_undecided lost.power)
  have dated := walked.trans (putTariff_undecided walked.power
    { u.loseSchedule.walkQuietly.tariff with dayBefore := dayOf u.loseSchedule.walkQuietly.clock.count })
  exact dated.trans (catchUp_undecided dated.power)

end

/-! ### What the same operations submit -/

theorem dayCharges_submits (n : Nat) (u : Part) : u.Submits (Part.dayCharges n u) := by
  induction n generalizing u with
  | zero => exact .refl u
  | succ n ih => exact (dayCharge_submits u).trans (ih _)

theorem catchUp_submits (u : Part) : u.Submits u.catchUp := by
  have closed := (dayCharges_submits (dayOf u.clock.count - u.tariff.lastStandingDay) u).trans
    (closeDay_submits (dayOf u.clock.count) _)
  exact .ite ((closed.trans (requestCheckpoint_submits .midnight _)).trans (putLoad_submits _ _)) (.refl u)

theorem loseSchedule_submits (u : Part) : u.Submits u.loseSchedule := by
  unfold loseSchedule
  cases u.tariff.scheduleMarker with
  | none => exact .refl u
  | some f => exact (clearMarker_submits u).trans (place_submits _ _)

theorem putTariff_submits (t : Tariff) (u : Part) : u.Submits { u with tariff := t } := .of_eq rfl rfl rfl

theorem startTariff_submits (u : Part) : u.Submits u.startTariff :=
  ((loseSchedule_submits u).trans ((putTariff_submits u.loseSchedule.walked _).trans (putTariff_submits _ _))).trans
    (catchUp_submits _)

theorem requestIfDue_submits (r : CheckpointReason) (u : Part) : u.Submits (u.requestIfDue r) :=
  .ite (requestCheckpoint_submits r u) (.refl u)

end Part

end Sys2Proof.Machine
end

section
/-! Step 4 of main start (R65, R70): the tariff engine's walk and the catch-up of the days that have passed. -/

namespace Sys2Proof.Machine

/-- The account behind `n` standing charges (R65). -/
def daysAccount (charge n : Nat) (a : Account) : Account :=
  if charge = 0 then a else (List.range n).foldl (fun x _ => x.standing charge) a

theorem standing_books_of_books {a b : Account} (same : a.books = b.books) (charge : Nat) :
    (a.standing charge).books = (b.standing charge).books := by
  have charged := congrArg (fun z : Account => (z.standing charge).books) same
  exact charged

theorem daysAccount_of_books {a b : Account} (same : a.books = b.books) (charge n : Nat) :
    (daysAccount charge n a).books = (daysAccount charge n b).books := by
  unfold daysAccount
  split
  · exact same
  · generalize List.range n = l
    induction l generalizing a b with
    | nil => exact same
    | cons i l ih => exact ih (standing_books_of_books same charge)

theorem daysAccount_succ (charge n : Nat) (a : Account) :
    daysAccount charge n (if charge = 0 then a else a.standing charge) = daysAccount charge (n + 1) a := by
  by_cases free : charge = 0
  · simp only [daysAccount, if_pos free]
  · simp only [daysAccount, if_neg free, List.range_succ_eq_map, List.foldl_cons, List.foldl_map]

namespace Part

theorem dayCharges_derived (n : Nat) (u : Part) :
    (Part.dayCharges n u).derived =
      ({ u with account := daysAccount (u.bankValue bankStandingCharge 0) n u.account } : Part).derived := by
  induction n generalizing u with
  | zero =>
    have none : daysAccount (u.bankValue bankStandingCharge 0) 0 u.account = u.account := ite_self _
    rw [none, dayCharges]
  | succ n ih =>
    have charged := u.dayCharge_derived
    have bank : u.dayCharge.activeBank = u.activeBank := (activeBank_of_derived charged).trans (activeBank_congr rfl rfl rfl)
    have charge : u.dayCharge.bankValue bankStandingCharge 0 = u.bankValue bankStandingCharge 0 := by
      rw [bankValue, bankValue, bank]
    have books : u.dayCharge.account.books = u.dayAccount.books := by
      have books := books_of_derived charged
      exact books
    have days := daysAccount_of_books books (u.bankValue bankStandingCharge 0) n
    rw [dayAccount, daysAccount_succ] at days
    rw [dayCharges, ih, charge]
    have put := derived_map (fun w => { w with account := (daysAccount (u.bankValue bankStandingCharge 0) n
      u.dayCharge.account).books }) (fun _ => rfl) charged
    refine Eq.trans ?_ (put.trans ?_)
    · rfl
    · rw [days]
      rfl

/-! ### The walk at main start -/

/-- A tariff engine that has walked stays as it is where the clock and the bank stand. -/
theorem walked_of_walked {u v : Part} (valid : v.clock.valid = u.clock.valid) (count : v.clock.count = u.clock.count)
    (bank : v.activeBank = u.activeBank) (record : v.tariff.currentRecord = u.walked.currentRecord)
    (band : v.tariff.band = u.walked.band) (friendly : v.tariff.friendly = u.walked.friendly) : v.walked = v.tariff := by
  by_cases noBank : u.clock.valid = false ∨ u.activeBank = none
  · rw [walked_of_none noBank] at record band friendly
    have record : v.tariff.currentRecord = none := record
    have band : v.tariff.band = 0 := band
    have friendly : v.tariff.friendly = false := friendly
    rw [walked_of_none (by rw [valid, bank]; exact noBank), ← record, ← band, ← friendly]
  · obtain ⟨on, banked⟩ := not_or.mp noBank
    obtain ⟨i, active⟩ := Option.ne_none_iff_exists'.mp banked
    have on : u.clock.valid = true := by simpa using on
    rw [walked_record on active] at record
    rw [walked_band on active] at band
    rw [walked_friendly on active] at friendly
    have onNow : v.clock.valid = true := valid.trans on
    have activeNow : v.activeBank = some i := bank.trans active
    simp only [Part.walked, onNow, activeNow, if_true, count, ← record, ← band, ← friendly]

/-- The part whose schedule is lost and whose engine has walked (R70). -/
def scheduleLost (u : Part) : Part := { u with tariff := { u.tariff with scheduleMarker := none } }

/-- The engine at main start before the catch-up. -/
def startedTariff (u : Part) : Tariff := { u.scheduleLost.walked with dayBefore := dayOf u.clock.count }

theorem loseSchedule_derived (u : Part) : u.loseSchedule.derived = u.scheduleLost.derived := by
  unfold loseSchedule
  cases marker : u.tariff.scheduleMarker with
  | none =>
    have same : u.scheduleLost = u := by rw [scheduleLost, ← marker]
    rw [same]
  | some f => exact (place_derived _ _).trans u.clearMarker_derived

/-- The engine that the catch-up finds. -/
def tariffSeen (u : Part) : Part :=
  { u.loseSchedule.walkQuietly with
    tariff := { u.loseSchedule.walkQuietly.tariff with dayBefore := dayOf u.loseSchedule.walkQuietly.clock.count } }

theorem startTariff_eq (u : Part) : u.startTariff = u.tariffSeen.catchUp := rfl

theorem tariffSeen_derived (u : Part) : u.tariffSeen.derived = ({ u with tariff := u.startedTariff } : Part).derived := by
  have walked := walkQuietly_of_derived u.loseSchedule_derived
  have dated := derived_map (fun w => { w with tariff := { w.tariff with dayBefore := dayOf w.clock.count } }) (fun _ => rfl)
    walked
  exact dated

theorem startedTariff_elsewhere (u : Part) :
    u.startedTariff.activeArea = u.tariff.activeArea ∧ u.startedTariff.areaCarried = u.tariff.areaCarried ∧
      u.startedTariff.activation = u.tariff.activation ∧ u.startedTariff.midnight = u.tariff.midnight ∧
      u.startedTariff.lastStandingDay = u.tariff.lastStandingDay := by
  obtain ⟨area, carried, activation, midnight, -, day⟩ := walked_elsewhere u.scheduleLost
  exact ⟨area, carried, activation, midnight, day⟩

/-- The catch-up has days to charge (R65). -/
def CaughtUp (u : Part) : Prop := u.clock.valid = true ∧ u.tariff.lastStandingDay < dayOf u.clock.count

/-- The part behind a catch-up, up to what a derivation changes. -/
def caughtItems (u : Part) : Part :=
  { u with
    account := daysAccount (u.bankValue bankStandingCharge 0) (dayOf u.clock.count - u.tariff.lastStandingDay) u.account,
    tariff := { u.tariff with lastStandingDay := dayOf u.clock.count },
    clock := { u.clock with adjustment := 0 }, load := { u.load with extended := false } }

theorem caughtUp_iff (u : Part) :
    (u.clock.valid && decide (u.tariff.lastStandingDay < dayOf u.clock.count)) = true ↔ u.CaughtUp := by
  rw [Bool.and_eq_true, decide_eq_true_eq, CaughtUp]

theorem catchUp_of_not {u : Part} (not : ¬ u.CaughtUp) : u.catchUp = u := if_neg (fun h => not (u.caughtUp_iff.mp h))

theorem catchUp_of_caught {u : Part} (caught : u.CaughtUp) :
    u.catchUp =
      (((Part.dayCharges (dayOf u.clock.count - u.tariff.lastStandingDay) u).closeDay (dayOf u.clock.count)).requestCheckpoint
        .midnight).loadMidnight := if_pos (u.caughtUp_iff.mpr caught)

theorem catchUp_derived {u : Part} (caught : u.CaughtUp) : u.catchUp.derived = u.caughtItems.derived := by
  have told (w : Part) : w.loadMidnight.derived = ({ w with load := { w.load with extended := false } } : Part).derived :=
    putLoad_derived _ w
  rw [catchUp_of_caught caught, told]
  have asked : (((Part.dayCharges (dayOf u.clock.count - u.tariff.lastStandingDay) u).closeDay
      (dayOf u.clock.count)).requestCheckpoint .midnight).derived = _ :=
    ((requestCheckpoint_derived _ _).trans (closeDay_derived _ _)).trans (derived_map (fun w => { w with
      tariff := { w.tariff with lastStandingDay := dayOf u.clock.count }, clock := { w.clock with adjustment := 0 } })
      (fun _ => rfl) (dayCharges_derived _ u))
  exact derived_map (fun w => { w with load := { w.load with extended := false } }) (fun _ => rfl) asked

theorem catchUp_requested {u : Part} (caught : u.CaughtUp) : u.catchUp.Requested .midnight := by
  rw [catchUp_of_caught caught]
  exact (loadMidnight_evidence _).requested _ (requestCheckpoint_requested _ _)

end Part

end Sys2Proof.Machine
end

section
/-! The tamper monitor at main start (R144, R146): conditions of the main domain end, the magnetic sensor is read, and what was
raised on battery is announced. -/

namespace Sys2Proof.Machine

/-- A record whose rise on battery has been announced. -/
def TamperRecord.unmarked (r : TamperRecord) : TamperRecord := { r with raisedOnBattery := false }

theorem TamperRecord.unmarked_of_false {r : TamperRecord} (h : r.raisedOnBattery = false) : r.unmarked = r := by
  rw [unmarked, ← h]

theorem TamperRecord.freed_of_false {r : TamperRecord} (h : r.condition = false) : r.freed = r := by
  rw [freed, h]
  rfl

/-! ### What the steps of the store controller keep of the evidence -/

theorem Part.requested_invariant (r : CheckpointReason) : Part.StepInvariant (Part.Requested r) := by
  refine ⟨fun u v store _ _ h => ?_, fun u s h => ?_, fun _ _ h => h, fun u h => ?_, fun u h => ?_, fun _ _ _ h => h⟩
  · unfold Part.Requested at h ⊢
    rwa [store]
  · rcases h with ⟨reasons, waiting, holds⟩ | flies
    · exact .inl ⟨_, rfl, (addReason_holds s r _).mpr (.inr (by rw [waiting]; exact holds))⟩
    · exact .inr flies
  · exact (Part.startNext_evidence u).requested r h
  · exact (Part.markDue_evidence 0 u).requested r h

theorem Part.journaled_invariant (q : JournalRequest) : Part.StepInvariant (Part.Journaled q) := by
  refine ⟨fun u v store _ _ h => ?_, fun _ _ h => h, fun u p h => ?_, fun u h => ?_, fun u h => ?_, fun _ _ _ h => h⟩
  · unfold Part.Journaled at h ⊢
    rwa [store]
  · rcases h with waits | flies
    · exact .inl (List.mem_append_left _ waits)
    · exact .inr flies
  · exact (Part.startNext_evidence u).journaled q h
  · exact (Part.markDue_evidence 0 u).journaled q h

/-- `v` follows from `u`, a part that is starting, by operations of its tamper monitor. -/
structure Part.Monitors (u v : Part) : Prop where
  power : v.power = .starting
  supply : v.supply.uncaused = u.supply.uncaused
  buffer : v.tamper.buffer = u.tamper.buffer
  core : v.core = u.core
  causes : u.CausesButTamper v
  kinds : ∀ k, k ≠ .tamperRaised → u.KeepsKind k v
  submits : u.Submits v

namespace Part

namespace Monitors

theorem refl {u : Part} (h : u.power = .starting) : u.Monitors u :=
  ⟨h, rfl, rfl, rfl, .of_eq rfl, fun k _ => .refl k u, .refl u⟩

theorem trans {u v w : Part} (a : u.Monitors v) (b : v.Monitors w) : u.Monitors w :=
  ⟨b.power, b.supply.trans a.supply, b.buffer.trans a.buffer, b.core.trans a.core, a.causes.trans b.causes,
    fun k h => (a.kinds k h).trans (b.kinds k h), a.submits.trans b.submits⟩

theorem ite {u v w : Part} {p : Prop} [Decidable p] (a : u.Monitors v) (b : u.Monitors w) :
    u.Monitors (if p then v else w) := by
  split
  · exact a
  · exact b

theorem ok {u v : Part} (h : u.Monitors v) (derived : u.AccountDerived) : v.AccountDerived := derived.of_core h.core h.causes

end Monitors

section
variable {u : Part} (h : u.power = .starting)
include h

theorem putRecord_monitors (c : TamperCause) (r : TamperRecord) : u.Monitors (u.putRecord c r) :=
  ⟨(putRecord_power c r u).trans h, by rw [putRecord_supply], putRecord_buffer c r u, putRecord_core c r u,
    .of_eq (by rw [putRecord_supply]), fun k _ => putRecord_kind k c r u, putRecord_submits c r u⟩

theorem evaluateTamper_monitors : u.Monitors u.evaluateTamper := by
  have submits := evaluateTamper_submits u
  rw [evaluateTamper_of_starting h] at submits ⊢
  exact ⟨h, rfl, rfl, evaluateTamperQuietly_core u, rfl, fun k _ => .of_eq k rfl rfl, submits⟩

theorem place_monitors {x : Notice} (kind : x.kind = .tamperRaised) : u.Monitors (u.place x) :=
  ⟨(place_power x u).trans h, by rw [place_supply], by rw [place_tamper], place_core x u, .of_eq (by rw [place_supply]),
    fun k other => place_kind (by rw [kind]; exact other.symm) u, place_submits x u⟩

theorem conditionEnds_monitors {c : TamperCause} (plain : causeCover c = none) : u.Monitors (u.conditionEnds c) :=
  ⟨(conditionEnds_power c u).trans h, by rw [conditionEnds_supply], conditionEnds_buffer plain u, conditionEnds_core c u,
    .of_eq (by rw [conditionEnds_supply]), fun k _ => conditionEnds_kind k c u, conditionEnds_submits c u⟩

theorem setCondition_false_monitors {c : TamperCause} (plain : causeCover c = none) : u.Monitors (u.setCondition c false) := by
  have ended := conditionEnds_monitors h plain
  have evaluated := ended.trans (evaluateTamper_monitors ended.power)
  rw [setCondition]
  simp only [Bool.false_eq_true, if_false]
  exact .ite (.refl h) (.ite evaluated ended)

/-- A cause with a debounce writes its record alone. -/
theorem conditionArises_of_timed {c : TamperCause} (debounced : c.hasDebounce = true) :
    u.Monitors (u.conditionArises c) ∧ (∀ d, d ≠ c → (u.conditionArises c).tamperRecord d = u.tamperRecord d) ∧
      ∀ k, u.KeepsKind k (u.conditionArises c) := by
  have kept : ¬ (u.power = .failing ∧ droppedAtPfw c = true) := by simp [h]
  have noted : u.Monitors (u.conditionNoted c) := putRecord_monitors h c _
  have away (d : TamperCause) (other : d ≠ c) : (u.conditionNoted c).tamperRecord d = u.tamperRecord d :=
    putRecord_other other _ u
  have still (k : NoticeKind) : u.KeepsKind k (u.conditionNoted c) := putRecord_kind k c _ u
  have put (r : TamperRecord) : u.Monitors ((u.conditionNoted c).putRecord c r) ∧
      (∀ d, d ≠ c → ((u.conditionNoted c).putRecord c r).tamperRecord d = u.tamperRecord d) ∧
      ∀ k, u.KeepsKind k ((u.conditionNoted c).putRecord c r) :=
    ⟨noted.trans (putRecord_monitors noted.power c r), fun d other => (putRecord_other other _ _).trans (away d other),
      fun k => (still k).trans (putRecord_kind k c r _)⟩
  rcases state : (u.tamperRecord c).state with _ | prior | _ | _
  case quiet => rw [conditionArises_of_debounce kept debounced (.inl state)]; exact put _
  case pending => rw [conditionArises_of_pending kept state]; exact ⟨noted, away, still⟩
  case present => rw [conditionArises_of_present kept state]; exact put _
  case latchedAbsent => rw [conditionArises_of_debounce kept debounced (.inr state)]; exact put _

theorem setCondition_false_kind_of_starting (k : NoticeKind) (c : TamperCause) : u.KeepsKind k (u.setCondition c false) := by
  have ended := conditionEnds_kind k c u
  have power : (u.conditionEnds c).power = .starting := (conditionEnds_power c u).trans h
  by_cases present : u.condition c = true
  · rw [setCondition_false present, evaluateTamper_of_starting power]
    split
    · exact ended.trans (.of_eq k rfl rfl)
    · exact ended
  · rw [setCondition_of_same (by simpa using present)]
    exact .refl k u

theorem setCondition_false_record_of_starting (c d : TamperCause) :
    (u.setCondition c false).tamperRecord d =
      if d = c ∧ u.condition c = true then
        (u.tamperRecord c).ended (if c.hasRelease then some (u.timeBase + debounceTicks c) else none)
      else u.tamperRecord d := by
  by_cases present : u.condition c = true
  · have power : (u.conditionEnds c).power = .starting := (conditionEnds_power c u).trans h
    have on : (u.conditionEnds c).mainOn = true := by rw [mainOn, power]; rfl
    have evaluated (d : TamperCause) : (u.setCondition c false).tamperRecord d = (u.conditionEnds c).tamperRecord d := by
      rw [setCondition_false present, if_pos on, evaluateTamper_of_starting power]
      rfl
    rw [evaluated]
    by_cases same : d = c
    · rw [if_pos ⟨same, present⟩, same, conditionEnds_self]
    · rw [if_neg (fun both => same both.1), conditionEnds_other same]
  · rw [if_neg (fun both => present both.2), setCondition_of_same (by simpa using present)]

end

/-! ### The conditions of the main domain (R144) -/

/-- A cause that has neither a cover nor a release time. -/
def Unreleased (c : TamperCause) : Prop := causeCover c = none ∧ c.hasRelease = false

theorem endMainDomain_record {u : Part} (h : u.power = .starting) {c : TamperCause} (plain : Unreleased c) (d : TamperCause) :
    (u.endMainDomainCondition c).tamperRecord d = if d = c then (u.tamperRecord d).freed else u.tamperRecord d := by
  rw [endMainDomainCondition, setCondition_false_record_of_starting h, plain.2]
  by_cases same : d = c
  · subst same
    rw [if_pos rfl, TamperRecord.freed, ← condition]
    simp
  · rw [if_neg same, if_neg (fun both => same both.1)]

theorem endMainDomain_fold {u : Part} (h : u.power = .starting) {l : List TamperCause} (plain : ∀ c ∈ l, Unreleased c) :
    u.Monitors (l.foldl Part.endMainDomainCondition u) ∧
      (∀ d, (l.foldl Part.endMainDomainCondition u).tamperRecord d =
        if d ∈ l then (u.tamperRecord d).freed else u.tamperRecord d) ∧
      ∀ k, u.KeepsKind k (l.foldl Part.endMainDomainCondition u) := by
  induction l generalizing u with
  | nil => exact ⟨.refl h, fun d => by simp, fun k => .refl k u⟩
  | cons c l ih =>
    have first := setCondition_false_monitors h (plain c List.mem_cons_self).1
    obtain ⟨rest, records, kinds⟩ := ih first.power (fun x hx => plain x (List.mem_cons_of_mem _ hx))
    refine ⟨first.trans rest, fun d => (records d).trans ?_, fun k =>
      (setCondition_false_kind_of_starting h k c).trans (kinds k)⟩
    have one := endMainDomain_record h (plain c List.mem_cons_self) d
    rw [endMainDomainCondition] at one
    rw [one]
    by_cases same : d = c
    · have twice : (u.tamperRecord d).freed.freed = (u.tamperRecord d).freed :=
        TamperRecord.freed_of_false (TamperRecord.freed_condition _)
      subst same
      simp [twice]
    · simp [same]

/-! ### What was raised on battery (R144; log 56) -/

section
variable {u : Part} (h : u.power = .starting)
include h

theorem raiseFromBattery_monitors (c : TamperCause) : u.Monitors (u.raiseFromBattery c) := by
  have put := putRecord_monitors h c { u.tamperRecord c with raisedOnBattery := false }
  exact .ite (.ite put (put.trans (place_monitors put.power rfl))) (.refl h)

omit h in
theorem raiseFromBattery_record (c d : TamperCause) :
    (u.raiseFromBattery c).tamperRecord d = if d = c then (u.tamperRecord d).unmarked else u.tamperRecord d := by
  have put : (u.putRecord c { u.tamperRecord c with raisedOnBattery := false }).tamperRecord d =
      if d = c then (u.tamperRecord d).unmarked else u.tamperRecord d := by
    by_cases same : d = c
    · rw [if_pos same, same, putRecord_self, TamperRecord.unmarked]
    · rw [if_neg same, putRecord_other same]
  unfold raiseFromBattery
  dsimp only
  by_cases raised : (u.tamperRecord c).raisedOnBattery = true
  · rw [if_pos raised]
    split
    · exact put
    · exact (tamperRecord_congr (place_tamper _ _) d).trans put
  · rw [if_neg raised]
    by_cases same : d = c
    · rw [if_pos same, same, TamperRecord.unmarked_of_false (eq_false_of_ne_true raised)]
    · rw [if_neg same]

theorem raise_fold (l : List TamperCause) :
    u.Monitors (l.foldl Part.raiseFromBattery u) ∧
      ∀ d, (l.foldl Part.raiseFromBattery u).tamperRecord d =
        if d ∈ l then (u.tamperRecord d).unmarked else u.tamperRecord d := by
  induction l generalizing u with
  | nil => exact ⟨.refl h, fun d => by simp⟩
  | cons c l ih =>
    have first := raiseFromBattery_monitors h c
    obtain ⟨rest, records⟩ := ih first.power
    refine ⟨first.trans rest, fun d => (records d).trans ?_⟩
    rw [raiseFromBattery_record]
    by_cases same : d = c
    · have twice : (u.tamperRecord d).unmarked.unmarked = (u.tamperRecord d).unmarked := rfl
      subst same
      simp [twice]
    · simp [same]

/-- Causes that announce nothing leave the notices of a rise alone. -/
theorem raise_fold_silent {l : List TamperCause}
    (silent : ∀ c ∈ l, (u.tamperRecord c).raisedOnBattery = false ∨ u.policy c = .record) :
    u.KeepsKind .tamperRaised (l.foldl Part.raiseFromBattery u) := by
  induction l generalizing u with
  | nil => exact .refl _ u
  | cons c l ih =>
    have first := raiseFromBattery_monitors h c
    have policy (d : TamperCause) : (u.raiseFromBattery c).policy d = u.policy d :=
      policy_of_derived (derived_of_core first.core) d
    have rest : (u.raiseFromBattery c).KeepsKind .tamperRaised (l.foldl Part.raiseFromBattery (u.raiseFromBattery c)) := by
      refine ih first.power fun d hd => ?_
      rw [policy, raiseFromBattery_record]
      rcases silent d (List.mem_cons_of_mem _ hd) with unraised | recorded
      · refine .inl ?_
        split
        · rfl
        · exact unraised
      · exact .inr recorded
    have put := putRecord_kind .tamperRaised c { u.tamperRecord c with raisedOnBattery := false } u
    have same : (u.putRecord c { u.tamperRecord c with raisedOnBattery := false }).policy c = u.policy c :=
      policy_of_derived (derived_of_core (putRecord_core _ _ u)) c
    refine KeepsKind.trans ?_ rest
    unfold raiseFromBattery
    dsimp only
    rw [same]
    rcases silent c List.mem_cons_self with unraised | recorded
    · rw [unraised]
      exact .refl _ u
    · rw [if_pos recorded]
      split
      · exact put
      · exact .refl _ u

/-- The notice of a rise that is followed by none. -/
theorem raise_fold_placed {before after : List TamperCause} {d : TamperCause} (apart : d ∉ before)
    (raised : (u.tamperRecord d).raisedOnBattery = true) (policy : u.policy d ≠ .record)
    (silent : ∀ c ∈ after, (u.tamperRecord c).raisedOnBattery = false ∨ u.policy c = .record) :
    ((before ++ d :: after).foldl Part.raiseFromBattery u).Placed
      (.tamperRaised d (u.tamperRecord d).count (u.policy d) (u.tamperRecord d).last) := by
  obtain ⟨first, records⟩ := raise_fold h before
  let v := before.foldl Part.raiseFromBattery u
  have policies (c : TamperCause) : v.policy c = u.policy c := policy_of_derived (derived_of_core first.core) c
  have record : v.tamperRecord d = u.tamperRecord d := (records d).trans (if_neg apart)
  have same : (v.putRecord d { v.tamperRecord d with raisedOnBattery := false }).policy d = u.policy d :=
    (policy_of_derived (derived_of_core (putRecord_core _ _ v)) d).trans (policies d)
  have raises : v.raiseFromBattery d =
      (v.putRecord d { v.tamperRecord d with raisedOnBattery := false }).place
        (.tamperRaised d (u.tamperRecord d).count (u.policy d) (u.tamperRecord d).last) := by
    unfold raiseFromBattery
    dsimp only
    rw [same, record, if_pos raised, if_neg policy]
  have announced := raiseFromBattery_monitors first.power d
  have quiet : (v.raiseFromBattery d).KeepsKind .tamperRaised (after.foldl Part.raiseFromBattery (v.raiseFromBattery d)) := by
    refine raise_fold_silent announced.power fun c hc => ?_
    rw [policy_of_derived (derived_of_core announced.core), policies, raiseFromBattery_record]
    rcases silent c hc with unraised | recorded
    · refine .inl ?_
      have unmarked : (v.tamperRecord c).raisedOnBattery = false := by
        rw [records c]
        split
        · rfl
        · exact unraised
      split
      · rfl
      · exact unmarked
    · exact .inr recorded
  rw [List.foldl_append, List.foldl_cons]
  refine KeepsKind.placed (x := .tamperRaised d (u.tamperRecord d).count (u.policy d) (u.tamperRecord d).last) quiet ?_
  rw [raises]
  exact place_placed _ _

end

end Part

end Sys2Proof.Machine
end

section
/-! The steps of main start one by one (R144, R162, R176): the flush of the battery events, the ports and the tamper monitor. -/

namespace Sys2Proof.Machine

namespace Part

theorem timeBase_of_core {u v : Part} (h : v.core = u.core) : v.timeBase = u.timeBase := by
  have time := congrArg Part.timeBase h
  exact time

/-! ### The magnetic sensor (R146) -/

theorem readMagnetic_starts {u : Part} (h : u.power = .starting) :
    u.Monitors u.readMagnetic ∧ (∀ k, u.KeepsKind k u.readMagnetic) ∧
      ∀ d, u.readMagnetic.tamperRecord d =
        if d = .magnetic then
          if u.inputs.magneticField then (u.tamperRecord .magnetic).arisen (u.timeBase + 65536)
          else (u.tamperRecord .magnetic).ended (some (u.timeBase + 65536))
        else u.tamperRecord d := by
  unfold readMagnetic
  by_cases field : u.inputs.magneticField = true
  · have kept : ¬ (u.power = .failing ∧ droppedAtPfw .magnetic = true) := by simp [h]
    obtain ⟨monitors, others, kinds⟩ := conditionArises_of_timed h (c := .magnetic) rfl
    rw [if_pos field]
    refine ⟨monitors, kinds, fun d => ?_⟩
    by_cases same : d = .magnetic
    · rw [if_pos same, if_pos field, same]
      exact conditionArises_timed kept rfl
    · rw [if_neg same, others d same]
  · rw [if_neg field]
    refine ⟨conditionEnds_monitors h rfl, fun k => conditionEnds_kind k _ u, fun d => ?_⟩
    by_cases same : d = .magnetic
    · rw [if_pos same, if_neg field, same]
      exact conditionEnds_self .magnetic u
    · rw [if_neg same, conditionEnds_other same]

/-! ### The tamper monitor at main start (R144) -/

/-- A record behind main start, before its rise on battery is announced. -/
def startRecord (d : TamperCause) (u : Part) : TamperRecord :=
  if d = .magnetic then
    if u.inputs.magneticField then (u.tamperRecord .magnetic).arisen (u.timeBase + 65536)
    else (u.tamperRecord .magnetic).ended (some (u.timeBase + 65536))
  else if d ∈ mainDomainCauses then (u.tamperRecord d).freed
  else u.tamperRecord d

/-- The part whose main-domain conditions have ended and whose sensor has been read. -/
def conditionsRead (u : Part) : Part := (mainDomainCauses.foldl Part.endMainDomainCondition u).readMagnetic

theorem mainDomain_unreleased : ∀ c ∈ mainDomainCauses, Unreleased c := by
  unfold Unreleased
  decide

theorem conditionsRead_starts {u : Part} (h : u.power = .starting) :
    u.Monitors u.conditionsRead ∧ (∀ k, u.KeepsKind k u.conditionsRead) ∧
      ∀ d, u.conditionsRead.tamperRecord d = u.startRecord d := by
  obtain ⟨ended, records, kinds⟩ := endMainDomain_fold h mainDomain_unreleased
  unfold conditionsRead
  generalize mainDomainCauses.foldl Part.endMainDomainCondition u = e at *
  obtain ⟨read, readKinds, readRecords⟩ := readMagnetic_starts ended.power
  have inputs : e.inputs = u.inputs := inputs_of_derived (derived_of_core ended.core)
  have time : e.timeBase = u.timeBase := timeBase_of_core ended.core
  have magnetic : TamperCause.magnetic ∉ mainDomainCauses := by decide
  refine ⟨ended.trans read, fun k => (kinds k).trans (readKinds k), fun d => ?_⟩
  rw [readRecords, inputs, time, records, records, startRecord, if_neg magnetic]

theorem mem_allCauses (d : TamperCause) : d ∈ allCauses := by cases d <;> decide

theorem tamperAtMainStart_starts {u : Part} (h : u.power = .starting) :
    u.Monitors u.tamperAtMainStart ∧ ∀ d, u.tamperAtMainStart.tamperRecord d = (u.startRecord d).unmarked := by
  obtain ⟨read, -, records⟩ := conditionsRead_starts h
  obtain ⟨raised, unmarked⟩ := raise_fold read.power allCauses
  refine ⟨read.trans raised, fun d => (unmarked d).trans ?_⟩
  rw [if_pos (mem_allCauses d), records]

/-- No rise is announced. -/
theorem tamperAtMainStart_silent {u : Part} (h : u.power = .starting)
    (silent : ∀ d, (u.startRecord d).raisedOnBattery = false ∨ u.policy d = .record) :
    u.KeepsKind .tamperRaised u.tamperAtMainStart := by
  obtain ⟨read, kinds, records⟩ := conditionsRead_starts h
  refine (kinds _).trans (raise_fold_silent read.power fun d _ => ?_)
  rw [records, policy_of_derived (derived_of_core read.core)]
  exact silent d

theorem allCauses_split (d : TamperCause) :
    ∃ before after, allCauses = before ++ d :: after ∧ d ∉ before ∧
      ∀ e ∈ after, (causeIndex d).val < (causeIndex e).val := by
  refine ⟨allCauses.take (causeIndex d).val, allCauses.drop ((causeIndex d).val + 1), ?_, ?_, ?_⟩
  · cases d <;> rfl
  · cases d <;> decide
  · cases d <;> decide

/-- Of several rises the last in number stands (log 56). -/
theorem tamperAtMainStart_placed {u : Part} (h : u.power = .starting) {d : TamperCause}
    (raised : (u.startRecord d).raisedOnBattery = true) (policy : u.policy d ≠ .record)
    (last : ∀ e, (causeIndex d).val < (causeIndex e).val → (u.startRecord e).raisedOnBattery = false ∨ u.policy e = .record) :
    u.tamperAtMainStart.Placed
      (.tamperRaised d (u.startRecord d).count (u.policy d) (u.startRecord d).last) := by
  obtain ⟨read, -, records⟩ := conditionsRead_starts h
  obtain ⟨before, after, split, apart, later⟩ := allCauses_split d
  have policies (e : TamperCause) : u.conditionsRead.policy e = u.policy e := policy_of_derived (derived_of_core read.core) e
  have placed := raise_fold_placed read.power apart (by rw [records]; exact raised) (by rw [policies]; exact policy)
    (after := after) (fun e he => by rw [records, policies]; exact last e (later e he))
  rw [← split, policies, records] at placed
  exact placed

/-! ### The flush of the battery events (R142, R162) -/

/-- The journal entry of a battery event under the policy in force (log 47). -/
def flushRequest (x : BatteryEvent) (u : Part) : JournalRequest :=
  { stamp := x.time, battery := true, balance := u.account.balance,
    detail :=
      if x.opened then .tamperPresent (coverCause x.cover) x.count (u.policy (coverCause x.cover))
      else .tamperAbsent (coverCause x.cover) x.count }

theorem flushEvent_eq (u : Part) (x : BatteryEvent) : u.flushEvent x = u.submitJournal (u.flushRequest x) := rfl

theorem submitJournal_derived (q : JournalRequest) (u : Part) : (u.submitJournal q).derived = u.derived :=
  derived_of_sansStore (submitJournal_sansStore q u)

theorem flushRequest_of_derived {u v : Part} (h : v.derived = u.derived) (x : BatteryEvent) :
    v.flushRequest x = u.flushRequest x := by
  have balance := congrArg Account.balance (books_of_derived h)
  have balance : v.account.balance = u.account.balance := balance
  rw [flushRequest, flushRequest, balance, policy_of_derived h]

theorem flush_fold (l : List BatteryEvent) (u : Part) :
    u.Submits (l.foldl Part.flushEvent u) ∧ (l.foldl Part.flushEvent u).sansStore = u.sansStore := by
  induction l generalizing u with
  | nil => exact ⟨.refl u, rfl⟩
  | cons x l ih =>
    obtain ⟨submits, same⟩ := ih (u.flushEvent x)
    exact ⟨(submitJournal_submits _ u).trans submits, same.trans (submitJournal_sansStore _ u)⟩

/-- Behind the first event the others wait in order. -/
theorem flush_fold_waits {u : Part} (busy : u.store.inFlight ≠ none) (l : List BatteryEvent)
    (room : u.store.journal.length + l.length ≤ 8) :
    (l.foldl Part.flushEvent u).store.inFlight = u.store.inFlight ∧
      (l.foldl Part.flushEvent u).store.journal = u.store.journal ++ l.map fun x => u.flushRequest x := by
  induction l generalizing u with
  | nil => exact ⟨rfl, (List.append_nil _).symm⟩
  | cons x l ih =>
    have few : u.store.journal.length < 8 := by
      rw [List.length_cons] at room
      omega
    have joined : u.flushEvent x =
        { u with store := { u.store with journal := u.store.journal ++ [u.flushRequest x] } } := by
      rw [flushEvent_eq, submitJournal_of_still (.inl busy), if_neg (Nat.not_le.mpr few)]
    have derived : (u.flushEvent x).derived = u.derived := submitJournal_derived _ u
    have flight : (u.flushEvent x).store.inFlight = u.store.inFlight := by rw [joined]
    have journal : (u.flushEvent x).store.journal = u.store.journal ++ [u.flushRequest x] := by rw [joined]
    obtain ⟨kept, waits⟩ := ih (u := u.flushEvent x) (by rw [flight]; exact busy)
      (by rw [journal, List.length_append, List.length_singleton]; rw [List.length_cons] at room; omega)
    refine ⟨kept.trans flight, waits.trans ?_⟩
    simp only [journal, flushRequest_of_derived derived, List.map_cons, List.append_assoc, List.singleton_append]

/-- The store at the flush of a part whose store is idle. -/
theorem flush_first {u : Part} (on : u.power = .starting) (flight : u.store.inFlight = none) (waiting : u.store.waiting = none)
    (class2 : u.store.class2 = []) (journal : u.store.journal = []) (x : BatteryEvent) :
    (∃ sequence slot empty, (u.flushEvent x).store.inFlight =
      some (.journal ⟨sequence, u.flushRequest x⟩ slot false empty)) ∧ (u.flushEvent x).store.journal = [] := by
  let v : Part := { u with store := { u.store with journal := u.store.journal ++ [u.flushRequest x] } }
  have started : u.flushEvent x = v.startJournal (u.flushRequest x) [] := by
    have queue : v.store.journal = [u.flushRequest x] := by
      change u.store.journal ++ [u.flushRequest x] = [u.flushRequest x]
      rw [journal, List.nil_append]
    have next : v.startNext = v.startJournal (u.flushRequest x) [] :=
      startNext_of_journal (u := v) flight waiting (.inl class2) (by simp [v, on]) queue
    rw [flushEvent_eq, submitJournal, if_neg (by simp [journal])]
    exact next
  rw [started, startJournal]
  dsimp only
  split
  · exact ⟨⟨_, _, _, rfl⟩, rfl⟩
  · exact ⟨⟨_, _, _, rfl⟩, rfl⟩

end Part

end Sys2Proof.Machine
end

section
/-! Steps 4 and 5 of main start (R98, R120, R144, R162), from a part whose ports have started. -/

namespace Sys2Proof.Machine

namespace Part

/-- The part behind the tariff engine and the account. -/
def tariffed (p : Part) : Part := p.startTariff.deriveQuietly

/-- The part behind the tamper monitor. -/
def monitored (p : Part) : Part := p.tariffed.tamperAtMainStart

/-- The cause set as its owners hand it (R98). -/
def causesHanded (p : Part) : CauseSet :=
  { noCredit := p.accountCauses.noCredit, debtLimit := p.accountCauses.debtLimit, loadLimit := p.load.member,
    tamper := p.tamperMember, remoteOrder := p.codes.remoteOrder }

/-- The part before its decision. -/
def deciding (m : Part) : Part :=
  { m with
    power := .running, tamper := { m.tamper with member := m.tamperMember },
    supply := { m.supply with causes := m.causesHanded } }

/-- The part behind its decision. -/
def decidedFrom (m : Part) : Part := m.deciding.recompute.requestIfDue .mainStart

/-- The part that main start leaves. -/
def begunFrom (m : Part) : Part := m.decidedFrom.startHourly

/-! ### The decision and what follows it -/

theorem requestIfDue_sansStore (r : CheckpointReason) (u : Part) : (u.requestIfDue r).sansStore = u.sansStore := by
  unfold requestIfDue
  split
  · exact requestCheckpoint_sansStore r u
  · rfl

theorem startHourly_sansStore (u : Part) : u.startHourly.sansStore = u.sansStore := rfl

theorem deciding_record (m : Part) (d : TamperCause) : m.deciding.tamperRecord d = m.tamperRecord d := rfl

theorem deciding_submits (m : Part) : m.Submits m.deciding := .of_eq rfl rfl rfl

theorem deciding_bank (m : Part) : m.deciding.activeBank = m.activeBank := activeBank_congr rfl rfl rfl

theorem deciding_kind (k : NoticeKind) (m : Part) : m.KeepsKind k m.deciding := .of_eq k rfl rfl

theorem deciding_ok {m : Part} (h : m.AccountDerived) : m.deciding.AccountDerived := by
  obtain ⟨credit, available, causes, -, -⟩ := h
  have noCredit := congrArg AccountCauses.noCredit causes
  have debtLimit := congrArg AccountCauses.debtLimit causes
  exact ⟨credit, available, causes, noCredit, debtLimit⟩

section
variable (m : Part)

theorem begunFrom_sansStore : m.begunFrom.sansStore = m.deciding.recompute.sansStore :=
  (startHourly_sansStore _).trans (requestIfDue_sansStore .mainStart _)

theorem begunFrom_core : m.begunFrom.core = m.deciding.core :=
  (core_of_sansStore m.begunFrom_sansStore).trans (recompute_core _)

theorem begunFrom_supply : m.begunFrom.supply = m.deciding.recompute.supply := by
  have supply := congrArg Part.supply m.begunFrom_sansStore
  exact supply

theorem begunFrom_tamper : m.begunFrom.tamper = m.deciding.recompute.tamper := by
  have tamper := congrArg Part.tamper m.begunFrom_sansStore
  exact tamper

theorem begunFrom_ok {m : Part} (h : m.AccountDerived) : m.begunFrom.AccountDerived :=
  (deciding_ok h).recompute.of_core (core_of_sansStore m.begunFrom_sansStore) (.of_eq (by rw [begunFrom_supply]))

theorem begunFrom_buffer : m.begunFrom.tamper.buffer = m.tamper.buffer := by
  rw [begunFrom_tamper]
  exact (recompute_bypass m.deciding).buffer

theorem begunFrom_bank : m.begunFrom.activeBank = m.activeBank :=
  (activeBank_of_derived (derived_of_core m.begunFrom_core)).trans m.deciding_bank

theorem decidedFrom_submits : m.Submits m.decidedFrom :=
  (m.deciding_submits.trans (recompute_submits _)).trans (requestIfDue_submits _ _)

theorem begunFrom_kind {k : NoticeKind} (other : k ∉ accountKinds) : m.KeepsKind k m.begunFrom := by
  have decided := (m.deciding_kind k).trans (recompute_kind_of_account other m.deciding)
  exact decided.trans (.of_sansStore k m.begunFrom_sansStore)

/-- A checkpoint that is due behind main start has been requested (R162). -/
theorem begunFrom_requested {m : Part} (due : m.begunFrom.checkpointDue = true) : m.begunFrom.Requested .mainStart := by
  have asked : m.decidedFrom.Requested .mainStart := by
    unfold decidedFrom requestIfDue
    split
    next => exact requestCheckpoint_requested _ _
    next clear =>
      have still : m.decidedFrom = m.deciding.recompute := if_neg clear
      have due : m.decidedFrom.checkpointDue = true := due
      rw [still] at due
      exact absurd due clear
  exact asked

/-- No decision moves a record where the condition of BYPASS has ended. -/
theorem recompute_of_unbypassed {u : Part} (absent : u.condition .bypass = false) (d : TamperCause) :
    u.recompute.tamperRecord d = u.tamperRecord d := by
  obtain ⟨others, bypass⟩ := (recompute_steady u).records
  by_cases same : d = .bypass
  · subst same
    rcases bypass with kept | ⟨present, -⟩
    · exact kept
    · rw [condition] at absent
      rw [absent] at present
      cases present
  · exact others d same

theorem begunFrom_record {m : Part} (absent : m.condition .bypass = false) (d : TamperCause) :
    m.begunFrom.tamperRecord d = m.tamperRecord d := by
  have absent : m.deciding.condition .bypass = false := absent
  rw [tamperRecord_congr m.begunFrom_tamper, recompute_of_unbypassed absent, deciding_record]

/-- The member that the controller is handed (R144). -/
theorem deciding_member {m : Part} (absent : m.condition .bypass = false) :
    m.deciding.supply.causes.tamper = true ↔
      ∃ d, m.begunFrom.policy d = .disconnect ∧ (m.begunFrom.tamperRecord d).state ≠ .quiet ∧
        (m.begunFrom.tamperRecord d).state ≠ .pending false := by
  have member : m.deciding.supply.causes.tamper = m.tamperMember := rfl
  rw [member, tamperMember_iff]
  refine exists_congr fun d => ?_
  rw [policy_of_bank m.begunFrom_bank, begunFrom_record absent]

end

section
variable {p : Part} (h : p.power = .starting)
include h

/-! ### The tariff engine -/

theorem tariffed_undecided : p.Undecided p.tariffed := by
  have started := startTariff_undecided h
  exact started.trans (deriveQuietly_undecided started.power)

theorem monitored_starts : p.tariffed.Monitors p.monitored ∧
    ∀ d, p.monitored.tamperRecord d = (p.tariffed.startRecord d).unmarked :=
  tamperAtMainStart_starts (tariffed_undecided h).power

end

theorem tariffed_derived (p : Part) : p.tariffed.derived = p.startTariff.derived := deriveQuietly_derived _

theorem tariffed_submits (p : Part) : p.Submits p.tariffed := (startTariff_submits p).trans (deriveQuietly_submits _)

section
variable {p : Part}

theorem tariffSeen_caught : p.tariffSeen.CaughtUp ↔ p.CaughtUp := by
  have clock : p.tariffSeen.clock = p.clock := by
    have clock := clock_of_derived p.tariffSeen_derived
    exact clock
  have tariff := tariff_of_derived p.tariffSeen_derived
  have day : p.tariffSeen.tariff.lastStandingDay = p.tariff.lastStandingDay := by
    rw [tariff]
    exact p.startedTariff_elsewhere.2.2.2.2
  rw [CaughtUp, CaughtUp, clock, day]

theorem tariffed_of_uncaught (uncaught : ¬ p.CaughtUp) :
    p.tariffed.derived = ({ p with tariff := p.startedTariff } : Part).derived := by
  rw [tariffed_derived, startTariff_eq, catchUp_of_not (fun h => uncaught (tariffSeen_caught.mp h)), tariffSeen_derived]

/-- The part behind the catch-up of main start, up to what a derivation changes. -/
def startedItems (p : Part) : Part := caughtItems { p with tariff := p.startedTariff }

theorem caughtItems_of_derived {u v : Part} (h : v.derived = u.derived) : v.caughtItems.derived = u.caughtItems.derived := by
  have charge : v.bankValue bankStandingCharge 0 = u.bankValue bankStandingCharge 0 := by
    rw [bankValue, bankValue, activeBank_of_derived h]
  have clock := clock_of_derived h
  have tariff := tariff_of_derived h
  have books := daysAccount_of_books (books_of_derived h) (u.bankValue bankStandingCharge 0)
    (dayOf u.clock.count - u.tariff.lastStandingDay)
  have put := derived_map (fun w => { w with
    account := (daysAccount (u.bankValue bankStandingCharge 0) (dayOf u.clock.count - u.tariff.lastStandingDay)
      u.account).books,
    tariff := { w.tariff with lastStandingDay := dayOf w.clock.count },
    clock := { w.clock with adjustment := 0 }, load := { w.load with extended := false } }) (fun _ => rfl) h
  have left : v.caughtItems.derived = ({ v with
      account := (daysAccount (u.bankValue bankStandingCharge 0) (dayOf u.clock.count - u.tariff.lastStandingDay)
        u.account).books,
      tariff := { v.tariff with lastStandingDay := dayOf v.clock.count },
      clock := { v.clock with adjustment := 0 }, load := { v.load with extended := false } } : Part).derived := by
    rw [caughtItems, charge, clock, tariff, ← books]
    rfl
  exact left.trans (put.trans rfl)

theorem tariffed_of_caught (caught : p.CaughtUp) :
    p.tariffed.derived = p.startedItems.derived ∧ p.tariffed.Requested .midnight := by
  have seen := tariffSeen_caught.mpr caught
  refine ⟨?_, (deriveQuietly_submits _) _ (requested_invariant .midnight) (catchUp_requested seen)⟩
  rw [tariffed_derived, startTariff_eq, catchUp_derived seen]
  exact caughtItems_of_derived p.tariffSeen_derived

end

/-! ### The tamper monitor -/

section
variable {p : Part} (h : p.power = .starting)
include h

theorem monitored_ok : p.monitored.AccountDerived := (monitored_starts h).1.ok (deriveQuietly_ok _)

theorem monitored_derived : p.monitored.derived = p.tariffed.derived := derived_of_core (monitored_starts h).1.core

theorem monitored_submits : p.Submits p.monitored := (tariffed_submits p).trans (monitored_starts h).1.submits

theorem tariffed_record (d : TamperCause) : p.tariffed.tamperRecord d = p.tamperRecord d := by
  rw [tamperRecord, tamperRecord, (tariffed_undecided h).records]

omit h in
theorem tariffed_items : p.tariffed.inputs = p.inputs ∧ p.tariffed.timeBase = p.timeBase := by
  have items {w : Part} (derived : p.tariffed.derived = w.derived) (inputs : w.inputs = p.inputs)
      (time : w.timeBase = p.timeBase) : p.tariffed.inputs = p.inputs ∧ p.tariffed.timeBase = p.timeBase := by
    have base := congrArg Part.timeBase derived
    have base : p.tariffed.timeBase = w.timeBase := base
    exact ⟨(inputs_of_derived derived).trans inputs, base.trans time⟩
  by_cases caught : p.CaughtUp
  · exact items (tariffed_of_caught caught).1 rfl rfl
  · exact items (tariffed_of_uncaught caught) rfl rfl

theorem tariffed_startRecord (d : TamperCause) : p.tariffed.startRecord d = p.startRecord d := by
  rw [startRecord, startRecord, tariffed_record h, tariffed_record h, tariffed_items.1, tariffed_items.2]

theorem monitored_record (d : TamperCause) : p.monitored.tamperRecord d = (p.startRecord d).unmarked := by
  rw [(monitored_starts h).2, tariffed_startRecord h]

theorem monitored_unbypassed : p.monitored.condition .bypass = false := by
  rw [condition, monitored_record h]
  exact TamperRecord.freed_condition _

theorem monitored_buffer : p.monitored.tamper.buffer = p.tamper.buffer := by
  rw [(monitored_starts h).1.buffer, (tariffed_undecided h).buffer]

theorem monitored_supply : p.monitored.supply = { p.supply with causes := p.monitored.supply.causes } :=
  Supply.eq_of_uncaused ((monitored_starts h).1.supply.trans (tariffed_undecided h).supply)

end

end Part

end Sys2Proof.Machine
end

section
/-! Steps 1 to 4 of main start (R120, R162, R176): the relay state, the flush, the first checkpoint and the ports. -/

namespace Sys2Proof.Machine

namespace Part

/-! ### The relay state (R120) -/

theorem resolveRelay_supply (b : Part) :
    b.resolveRelay.supply =
      { b.supply with
        relay := .settled b.resolvedRelay, logical := .settled b.resolvedRelay,
        retryAt := if b.resolvedRelay = .stuckClosed then some (b.timeBase + 3600 * 32768) else none } := by
  have supply : (b.settleRelay b.resolvedRelay).supply =
      { b.supply with relay := .settled b.resolvedRelay, logical := .settled b.resolvedRelay } := by
    unfold settleRelay putLogical
    simp
  have time : (b.settleRelay b.resolvedRelay).timeBase = b.timeBase := timeBase_of_core (settleRelay_core _ _)
  unfold resolveRelay startRetryTimer
  dsimp only
  rw [supply, time]
  rfl

theorem resolveRelay_core (b : Part) : b.resolveRelay.core = b.core := settleRelay_core b.resolvedRelay b

theorem resolveRelay_submits (b : Part) : b.Submits b.resolveRelay :=
  (settleRelay_submits b.resolvedRelay b).trans (.of_eq rfl rfl rfl)

theorem resolveRelay_tamper (b : Part) : b.resolveRelay.tamper = b.tamper := by
  unfold resolveRelay startRetryTimer settleRelay putLogical
  simp

theorem markDueIf_store_of_idle {u : Part} (idle : u.store.inFlight = none) (b : Bool) : (Part.markDueIf b u).store = u.store := by
  cases b
  · rfl
  · have store : ({ u.store with inFlight := u.store.inFlight.map Attempt.noteChange } : Store) = u.store := by
      rw [idle, Option.map_none, ← idle]
    exact store

theorem resolveRelay_store {b : Part} (idle : b.store.inFlight = none) : b.resolveRelay.store = b.store :=
  markDueIf_store_of_idle (u := { b with supply := { b.supply with
    relay := .settled b.resolvedRelay, logical := .settled b.resolvedRelay } }) idle _

/-! ### The flush -/

/-- The part behind step 2. -/
def flushed (b : Part) : Part := b.resolveRelay.flushBuffer

theorem flushBuffer_submits (u : Part) : u.Submits u.flushBuffer := (flush_fold u.tamper.buffer u).1.trans (.of_eq rfl rfl rfl)

theorem flushBuffer_sansStore (u : Part) :
    u.flushBuffer.sansStore = ({ u with tamper := { u.tamper with buffer := [] } } : Part).sansStore := by
  have same := congrArg (fun w : Part => ({ w with tamper := { w.tamper with buffer := [] } } : Part))
    (flush_fold u.tamper.buffer u).2
  exact same

theorem flushed_submits (b : Part) : b.Submits b.flushed := b.resolveRelay_submits.trans (flushBuffer_submits _)

theorem flushed_core (b : Part) : b.flushed.core = b.core := by
  have core := core_of_sansStore (flushBuffer_sansStore b.resolveRelay)
  exact core.trans b.resolveRelay_core

theorem flushed_supply (b : Part) : b.flushed.supply = b.resolveRelay.supply := by
  have supply := congrArg Part.supply (flushBuffer_sansStore b.resolveRelay)
  exact supply

theorem flushed_tamper (b : Part) : b.flushed.tamper = { b.tamper with buffer := [] } := by
  have tamper := congrArg Part.tamper (flushBuffer_sansStore b.resolveRelay)
  rw [← b.resolveRelay_tamper]
  exact tamper

/-- The first battery event is being written and the others wait behind it in order. -/
def Flushing (first : JournalRequest) (others : List JournalRequest) (u : Part) : Prop :=
  (∃ sequence slot empty, u.store.inFlight = some (.journal ⟨sequence, first⟩ slot false empty)) ∧
    others <+: u.store.journal

theorem flushing_invariant (first : JournalRequest) (others : List JournalRequest) :
    StepInvariant (Flushing first others) := by
  refine ⟨fun u v store _ _ h => ?_, fun _ _ h => h, fun u q h => ?_, fun u h => ?_, fun u h => ?_, fun _ _ _ h => h⟩
  · rw [Flushing, store]
    exact h
  · obtain ⟨flight, waits⟩ := h
    exact ⟨flight, waits.trans (List.prefix_append _ _)⟩
  · obtain ⟨⟨sequence, slot, empty, flight⟩, waits⟩ := h
    rw [startNext_of_inFlight flight]
    exact ⟨⟨sequence, slot, empty, flight⟩, waits⟩
  · obtain ⟨⟨sequence, slot, empty, flight⟩, waits⟩ := h
    refine ⟨⟨sequence, slot, empty, ?_⟩, waits⟩
    change u.store.inFlight.map Attempt.noteChange = _
    rw [flight]
    rfl

/-- The store of a part that starts. -/
structure IdleStore (u : Part) : Prop where
  power : u.power = .starting
  flight : u.store.inFlight = none
  waiting : u.store.waiting = none
  class2 : u.store.class2 = []
  journal : u.store.journal = []

theorem flushed_flushing {b : Part} (idle : b.IdleStore) {e : BatteryEvent} {rest : List BatteryEvent}
    (buffer : b.tamper.buffer = e :: rest) (few : rest.length ≤ 3) :
    b.flushed.Flushing (b.flushRequest e) (rest.map fun x => b.flushRequest x) := by
  let u := b.resolveRelay
  have store : u.store = b.store := resolveRelay_store idle.flight
  have power : u.power = .starting := (power_of_derived (derived_of_core b.resolveRelay_core)).trans idle.power
  have request (x : BatteryEvent) : u.flushRequest x = b.flushRequest x :=
    flushRequest_of_derived (derived_of_core b.resolveRelay_core) x
  obtain ⟨⟨sequence, slot, empty, flight⟩, journal⟩ := flush_first power (by rw [store]; exact idle.flight)
    (by rw [store]; exact idle.waiting) (by rw [store]; exact idle.class2) (by rw [store]; exact idle.journal) e
  obtain ⟨kept, waits⟩ := flush_fold_waits (u := u.flushEvent e) (by rw [flight]; simp) rest (by rw [journal]; simp; omega)
  have others (x : BatteryEvent) : (u.flushEvent e).flushRequest x = b.flushRequest x :=
    (flushRequest_of_derived (submitJournal_derived _ u) x).trans (request x)
  have whole : u.tamper.buffer.foldl Part.flushEvent u = rest.foldl Part.flushEvent (u.flushEvent e) := by
    rw [b.resolveRelay_tamper, buffer, List.foldl_cons]
  have flushed : b.flushed.store = (rest.foldl Part.flushEvent (u.flushEvent e)).store := by
    rw [← whole]
    rfl
  refine ⟨⟨sequence, slot, empty, ?_⟩, ?_⟩
  · rw [flushed, kept, flight, request]
  · rw [flushed, waits, journal, List.nil_append]
    simp only [others]
    exact List.prefix_rfl

/-! ### The ports (R162, R176) -/

/-- The part behind the first checkpoint. -/
def asked (b : Part) : Part := b.flushed.requestIfDue .mainStart

/-- The part whose ports and window have started. -/
def atPorts (b : Part) : Part := b.asked.startPorts.openWindow

theorem asked_submits (b : Part) : b.Submits b.asked := b.flushed_submits.trans (requestIfDue_submits _ _)

theorem asked_sansStore (b : Part) : b.asked.sansStore = b.flushed.sansStore := requestIfDue_sansStore .mainStart b.flushed

theorem asked_core (b : Part) : b.asked.core = b.core := (core_of_sansStore b.asked_sansStore).trans b.flushed_core

/-- The part with the ports of main start, up to what a derivation changes. -/
def portsItems (b : Part) : Part := b.startPorts.openWindow

theorem atPorts_derived (b : Part) : b.atPorts.derived = b.portsItems.derived :=
  derived_map (fun w => w.startPorts.openWindow) (fun _ => rfl) (derived_of_core b.asked_core)

theorem atPorts_store (b : Part) : b.atPorts.store = b.asked.store := rfl

theorem atPorts_supply (b : Part) : b.atPorts.supply = b.resolveRelay.supply := by
  have supply := congrArg Part.supply b.asked_sansStore
  have supply : b.atPorts.supply = b.flushed.supply := supply
  exact supply.trans b.flushed_supply

theorem atPorts_tamper (b : Part) : b.atPorts.tamper = { b.tamper with buffer := [] } := by
  have tamper := congrArg Part.tamper b.asked_sansStore
  have tamper : b.atPorts.tamper = b.flushed.tamper := tamper
  exact tamper.trans b.flushed_tamper

theorem atPorts_record (b : Part) (d : TamperCause) : b.atPorts.tamperRecord d = b.tamperRecord d := by
  rw [tamperRecord, atPorts_tamper, tamperRecord]

theorem atPorts_power {b : Part} (h : b.power = .starting) : b.atPorts.power = .starting :=
  (power_of_derived b.atPorts_derived).trans h

theorem atPorts_notices (b : Part) (p : Port) : b.atPorts.notices.get p = NoticePort.empty := by cases p <;> rfl

/-! ### What is placed behind the ports -/

theorem closeDay_kind (k : NoticeKind) (day : Nat) (u : Part) : u.KeepsKind k (u.closeDay day) := .of_eq k rfl rfl

section
variable {p : Part} (h : p.power = .starting) {k : NoticeKind} (other : k ∉ accountKinds)
include other

theorem dayCharges_kind (n : Nat) (u : Part) : u.KeepsKind k (Part.dayCharges n u) := by
  induction n generalizing u with
  | zero => exact .refl k u
  | succ n ih => exact (dayCharge_kind other u).trans (ih _)

theorem catchUp_kind (u : Part) : u.KeepsKind k u.catchUp := by
  by_cases caught : u.CaughtUp
  · rw [catchUp_of_caught caught]
    exact (((dayCharges_kind other _ u).trans (closeDay_kind k _ _)).trans (requestCheckpoint_kind k _ _)).trans
      (putLoad_kind other _ _)
  · rw [catchUp_of_not caught]
    exact .refl k u

theorem tariffed_kind (u : Part) : u.loseSchedule.KeepsKind k u.tariffed := by
  have seen : u.loseSchedule.KeepsKind k u.tariffSeen := .of_eq k rfl rfl
  exact (seen.trans (catchUp_kind other _)).trans (deriveQuietly_kind other _)

include h

theorem begun_kind (raised : k ≠ .tamperRaised) : p.loseSchedule.KeepsKind k p.monitored.begunFrom :=
  ((tariffed_kind other p).trans ((monitored_starts h).1.kinds k raised)).trans (begunFrom_kind _ other)

end

theorem loseSchedule_kind {k : NoticeKind} (other : k ≠ .bankReopened) (u : Part) : u.KeepsKind k u.loseSchedule := by
  unfold loseSchedule
  cases u.tariff.scheduleMarker with
  | none => exact .refl k u
  | some f => exact (clearMarker_kind k u).trans (place_kind (by exact other.symm) _)

theorem loseSchedule_placed {u : Part} {f : Nat} (marker : u.tariff.scheduleMarker = some f) :
    u.loseSchedule.Placed (.bankReopened .scheduleLost) := by
  simp only [loseSchedule, marker]
  exact place_placed _ _

theorem loseSchedule_of_none {u : Part} (marker : u.tariff.scheduleMarker = none) : u.loseSchedule = u := by
  simp only [loseSchedule, marker]

end Part

end Sys2Proof.Machine
end

section
/-! What main start leaves of the part that its recovery hands to the main-start sequence (R162). -/

namespace Sys2Proof.Machine

namespace Part

/-! ### The engine at main start -/

theorem walked_rest (u : Part) :
    { u.walked with currentRecord := none, band := 0, friendly := false } =
      { u.tariff with currentRecord := none, band := 0, friendly := false } := by
  by_cases noBank : u.clock.valid = false ∨ u.activeBank = none
  · rw [walked_of_none noBank]
  · obtain ⟨on, banked⟩ := not_or.mp noBank
    obtain ⟨i, active⟩ := Option.ne_none_iff_exists'.mp banked
    have on : u.clock.valid = true := by simpa using on
    simp only [Part.walked, on, active, if_true]

theorem startedTariff_pending (u : Part) :
    u.startedTariff.pending = u.tariff.pending ∧ u.startedTariff.scheduleMarker = none := by
  have rest := walked_rest u.scheduleLost
  have pending := congrArg Tariff.pending rest
  have marker := congrArg Tariff.scheduleMarker rest
  exact ⟨pending, marker⟩

theorem startedTariff_of_derived {u v : Part} (h : v.derived = u.derived) : v.startedTariff = u.startedTariff := by
  have lost : v.scheduleLost.derived = u.scheduleLost.derived :=
    derived_map (fun w => { w with tariff := { w.tariff with scheduleMarker := none } }) (fun _ => rfl) h
  have walked : v.scheduleLost.walked = u.scheduleLost.walked :=
    walked_congr (clock_of_derived lost) (activeBank_of_derived lost) (tariff_of_derived lost)
  rw [startedTariff, startedTariff, walked, clock_of_derived h]

/-- The engine of main start walks in the bank and by the clock that it finds. -/
theorem startedTariff_walked {u v : Part} (valid : v.clock.valid = u.clock.valid) (count : v.clock.count = u.clock.count)
    (areas : v.array.areas = u.array.areas) (area : v.tariff.activeArea = u.startedTariff.activeArea)
    (record : v.tariff.currentRecord = u.startedTariff.currentRecord) (band : v.tariff.band = u.startedTariff.band)
    (friendly : v.tariff.friendly = u.startedTariff.friendly) : v.walked = v.tariff := by
  have areaA := congrArg NvArray.areaA areas
  have areaB := congrArg NvArray.areaB areas
  have bank : v.activeBank = u.scheduleLost.activeBank :=
    activeBank_congr (area.trans u.startedTariff_elsewhere.1) areaA areaB
  exact walked_of_walked (u := u.scheduleLost) valid count bank record band friendly

/-! ### The whole sequence -/

/-- The part that the main-start sequence leaves. -/
def began (b : Part) : Part := b.atPorts.monitored.begunFrom

theorem startSequence_eq (b : Part) : b.startSequence = b.began := by
  have blocks (r : Part) : r.startBlocks = r.startPorts.openWindow.monitored := rfl
  have decides (m : Part) : m.decideAtStart = m.deciding.recompute := rfl
  unfold startSequence
  dsimp only
  rw [blocks, decides, began, begunFrom, decidedFrom, atPorts, asked, flushed]

theorem deciding_derived (m : Part) : m.deciding.derived = ({ m with power := .running } : Part).derived := rfl

theorem begunFrom_requested_of {m : Part} {r : CheckpointReason} (h : m.decidedFrom.Requested r) : m.begunFrom.Requested r := h

/-- The items of main start that the account, the engine, the clock and the load limiter do not move. -/
def Owns (u v : Part) : Prop :=
  v.derived =
    ({ u with
        power := .running, account := v.account, tariff := v.tariff, clock := v.clock, load := v.load } : Part).derived

theorem owns_of_derived {u v : Part} {a : Account} {t : Tariff} {c : Clock} {l : Load}
    (derived : v.derived =
      ({ u with power := .running, account := a, tariff := t, clock := c, load := l } : Part).derived) : u.Owns v := by
  have tariff := tariff_of_derived derived
  have clock := clock_of_derived derived
  have load := load_of_derived derived
  have books := books_of_derived derived
  have tariff : v.tariff = t := tariff
  have clock : v.clock = c := clock
  have load : v.load = l := load
  have put := congrArg (fun x => ({ u with
    power := .running, account := x, tariff := t, clock := c, load := l } : Part).derived) books
  rw [Owns, tariff, clock, load]
  exact derived.trans put.symm

theorem items_of_derived {w v : Part} (h : v.derived = w.derived) :
    v.power = w.power ∧ v.lostMark = w.lostMark ∧ v.lifecycle = w.lifecycle ∧ v.timeBase = w.timeBase ∧
      v.inputs = w.inputs ∧ v.pulse = w.pulse ∧ v.recon = w.recon ∧ v.codes = w.codes ∧ v.config = w.config ∧
      v.receivers = w.receivers ∧ v.links = w.links ∧ v.outputs.openCoil = w.outputs.openCoil ∧
      v.outputs.closeCoil = w.outputs.closeCoil ∧ v.array.areas = w.array.areas := by
  have lost := congrArg Part.lostMark h
  have time := congrArg Part.timeBase h
  have openCoil := congrArg (fun x : Part => x.outputs.openCoil) h
  have closeCoil := congrArg (fun x : Part => x.outputs.closeCoil) h
  exact ⟨power_of_derived h, lost, lifecycle_of_derived h, time, inputs_of_derived h, pulse_of_derived h, recon_of_derived h,
    codes_of_derived h, config_of_derived h, receivers_of_derived h, links_of_derived h, openCoil, closeCoil,
    areas_of_derived h⟩

theorem Owns.items {u v : Part} (h : u.Owns v) :
    v.power = .running ∧ v.lostMark = u.lostMark ∧ v.lifecycle = u.lifecycle ∧ v.timeBase = u.timeBase ∧
      v.inputs = u.inputs ∧ v.pulse = u.pulse ∧ v.recon = u.recon ∧ v.codes = u.codes ∧ v.config = u.config ∧
      v.receivers = u.receivers ∧ v.links = u.links ∧ v.outputs.openCoil = u.outputs.openCoil ∧
      v.outputs.closeCoil = u.outputs.closeCoil ∧ v.array.areas = u.array.areas := by
  unfold Owns at h
  have items := items_of_derived h
  exact items

theorem Owns.bank {u v : Part} (h : u.Owns v) (area : v.tariff.activeArea = u.tariff.activeArea) :
    v.activeBank = u.activeBank := (activeBank_of_derived h).trans (activeBank_congr area rfl rfl)

section
variable {b : Part} (h : b.power = .starting)
include h

theorem began_of_tariffed : b.began.derived = ({ b.atPorts.tariffed with power := .running } : Part).derived := by
  exact ((derived_of_core (begunFrom_core _)).trans (deciding_derived _)).trans
    (derived_map (fun w => { w with power := .running }) (fun _ => rfl) (monitored_derived (atPorts_power h)))

omit h in
theorem atPorts_caught : b.atPorts.CaughtUp ↔ b.CaughtUp := by
  have clock : b.atPorts.clock = b.clock := by
    have clock := clock_of_derived b.atPorts_derived
    exact clock
  have tariff : b.atPorts.tariff = b.tariff := by
    have tariff := tariff_of_derived b.atPorts_derived
    exact tariff
  rw [CaughtUp, CaughtUp, clock, tariff]

theorem began_of_uncaught (uncaught : ¬ b.CaughtUp) :
    b.began.derived = ({ b.portsItems with power := .running, tariff := b.portsItems.startedTariff } : Part).derived := by
  have uncaught : ¬ b.atPorts.CaughtUp := fun c => uncaught (atPorts_caught.mp c)
  have running := derived_map (fun w => { w with power := .running }) (fun _ => rfl) (tariffed_of_uncaught uncaught)
  have started := startedTariff_of_derived b.atPorts_derived
  rw [started] at running
  have ported := derived_map (fun w => { w with power := .running, tariff := b.portsItems.startedTariff }) (fun _ => rfl)
    b.atPorts_derived
  exact ((began_of_tariffed h).trans running).trans ported

theorem began_of_caught (caught : b.CaughtUp) :
    b.began.derived = ({ b.portsItems.startedItems with power := .running } : Part).derived ∧ b.began.Requested .midnight := by
  have caught : b.atPorts.CaughtUp := atPorts_caught.mpr caught
  obtain ⟨derived, requested⟩ := tariffed_of_caught caught
  have started := startedTariff_of_derived b.atPorts_derived
  have ported : ({ b.atPorts with tariff := b.atPorts.startedTariff } : Part).derived =
      ({ b.portsItems with tariff := b.portsItems.startedTariff } : Part).derived := by
    rw [started]
    exact derived_map (fun w => { w with tariff := b.portsItems.startedTariff }) (fun _ => rfl) b.atPorts_derived
  have items := derived.trans (caughtItems_of_derived ported)
  have running := derived_map (fun w => { w with power := .running }) (fun _ => rfl) items
  refine ⟨(began_of_tariffed h).trans running, ?_⟩
  have decided : b.atPorts.monitored.decidedFrom.Requested .midnight :=
    ((monitored_starts (atPorts_power h)).1.submits.trans (decidedFrom_submits _)) _ (requested_invariant .midnight) requested
  exact begunFrom_requested_of decided

/-- What main start leaves outside the account, the engine, the clock and the load limiter. -/
theorem began_owns : b.portsItems.Owns b.began := by
  by_cases caught : b.CaughtUp
  · exact owns_of_derived (began_of_caught h caught).1
  · exact owns_of_derived (began_of_uncaught h caught)

/-! ### The engine, the clock, the load limiter and the account -/

/-- What a main start without a catch-up leaves. -/
theorem began_uncaught (uncaught : ¬ b.CaughtUp) :
    b.began.tariff = b.portsItems.startedTariff ∧ b.began.clock = b.clock ∧ b.began.load = b.load ∧
      b.began.account.books = b.account.books := by
  have derived := began_of_uncaught h uncaught
  have tariff := tariff_of_derived derived
  have clock := clock_of_derived derived
  have load := load_of_derived derived
  have books := books_of_derived derived
  exact ⟨tariff, clock, load, books⟩

/-- What a main start with a catch-up leaves. -/
theorem began_caught (caught : b.CaughtUp) :
    b.began.tariff = { b.portsItems.startedTariff with lastStandingDay := dayOf b.clock.count } ∧
      b.began.clock = { b.clock with adjustment := 0 } ∧ b.began.load = { b.load with extended := false } ∧
      b.began.account.books =
        (daysAccount (b.bankValue bankStandingCharge 0) (dayOf b.clock.count - b.tariff.lastStandingDay) b.account).books := by
  have derived := (began_of_caught h caught).1
  have tariff := tariff_of_derived derived
  have clock := clock_of_derived derived
  have load := load_of_derived derived
  have books := books_of_derived derived
  have bank : ({ b.portsItems with tariff := b.portsItems.startedTariff } : Part).activeBank = b.activeBank :=
    activeBank_congr b.portsItems.startedTariff_elsewhere.1 rfl rfl
  have charge : ({ b.portsItems with tariff := b.portsItems.startedTariff } : Part).bankValue bankStandingCharge 0 =
      b.bankValue bankStandingCharge 0 := by rw [bankValue, bankValue, bank]
  have day : b.portsItems.startedTariff.lastStandingDay = b.tariff.lastStandingDay :=
    b.portsItems.startedTariff_elsewhere.2.2.2.2
  have books : b.began.account.books =
      (daysAccount (({ b.portsItems with tariff := b.portsItems.startedTariff } : Part).bankValue bankStandingCharge 0)
        (dayOf b.clock.count - b.portsItems.startedTariff.lastStandingDay) b.account).books := books
  rw [charge, day] at books
  exact ⟨tariff, clock, load, books⟩

/-- What either leaves of the engine. -/
theorem began_tariff :
    b.began.tariff.pending = b.tariff.pending ∧ b.began.tariff.scheduleMarker = none ∧
      b.began.tariff.activation = b.tariff.activation ∧ b.began.tariff.midnight = b.tariff.midnight ∧
      b.began.tariff.activeArea = b.tariff.activeArea ∧ b.began.tariff.areaCarried = b.tariff.areaCarried ∧
      b.began.tariff.currentRecord = b.portsItems.startedTariff.currentRecord ∧
      b.began.tariff.band = b.portsItems.startedTariff.band ∧
      b.began.tariff.friendly = b.portsItems.startedTariff.friendly := by
  obtain ⟨pending, marker⟩ := b.portsItems.startedTariff_pending
  obtain ⟨area, carried, activation, midnight, -⟩ := b.portsItems.startedTariff_elsewhere
  by_cases caught : b.CaughtUp
  · rw [(began_caught h caught).1]
    exact ⟨pending, marker, activation, midnight, area, carried, rfl, rfl, rfl⟩
  · rw [(began_uncaught h caught).1]
    exact ⟨pending, marker, activation, midnight, area, carried, rfl, rfl, rfl⟩

theorem began_clock : b.began.clock.valid = b.clock.valid ∧ b.began.clock.count = b.clock.count := by
  by_cases caught : b.CaughtUp
  · rw [(began_caught h caught).2.1]
    exact ⟨rfl, rfl⟩
  · rw [(began_uncaught h caught).2.1]
    exact ⟨rfl, rfl⟩

theorem began_load : b.began.load = { b.load with extended := b.began.load.extended } := by
  by_cases caught : b.CaughtUp
  · rw [(began_caught h caught).2.2.1]
  · rw [(began_uncaught h caught).2.2.1]

theorem began_walked : b.began.tariff = b.began.walked := by
  obtain ⟨-, -, -, -, area, -, record, band, friendly⟩ := began_tariff h
  obtain ⟨valid, count⟩ := began_clock h
  obtain ⟨-, -, -, -, -, -, -, -, -, -, -, -, -, areas⟩ := (began_owns h).items
  have area : b.began.tariff.activeArea = b.portsItems.startedTariff.activeArea :=
    area.trans b.portsItems.startedTariff_elsewhere.1.symm
  exact (startedTariff_walked (u := b.portsItems) valid count areas area record band friendly).symm

omit h in
theorem portsItems_bank : b.portsItems.activeBank = b.activeBank := activeBank_congr rfl rfl rfl

theorem began_bank : b.began.activeBank = b.activeBank := by
  obtain ⟨-, -, -, -, area, -⟩ := began_tariff h
  exact ((began_owns h).bank area).trans portsItems_bank

/-! ### The records -/

theorem began_record (d : TamperCause) : b.began.tamperRecord d = (b.startRecord d).unmarked := by
  have items : b.atPorts.inputs = b.inputs ∧ b.atPorts.timeBase = b.timeBase := by
    have inputs := inputs_of_derived b.atPorts_derived
    have time := congrArg Part.timeBase b.atPorts_derived
    exact ⟨inputs, time⟩
  have same : b.atPorts.startRecord d = b.startRecord d := by
    rw [startRecord, startRecord, atPorts_record, atPorts_record, items.1, items.2]
  have starting := atPorts_power h
  rw [began, begunFrom_record (monitored_unbypassed starting), monitored_record starting, same]

theorem began_policy (d : TamperCause) : b.began.policy d = b.policy d := policy_of_bank (began_bank h) d

end

end Part

end Sys2Proof.Machine
end

section
/-! The recovery of main start (R146, R163, R164): the switches are read, and RETENTION_LOST arises and ends. -/

namespace Sys2Proof.Machine

namespace Part

section
variable {u : Part} (h : u.power = .starting)
include h

theorem journal_monitors (d : JournalDetail) : u.Monitors (u.journal d) :=
  ⟨(journal_undecided h d).power, (journal_undecided h d).supply, (journal_undecided h d).buffer,
    core_of_sansStore (journal_sansStore d u), .of_eq (by simp), fun k _ => journal_kind k d u, journal_submits d u⟩

theorem requestCheckpoint_monitors (r : CheckpointReason) : u.Monitors (u.requestCheckpoint r) :=
  ⟨(requestCheckpoint_undecided h r).power, (requestCheckpoint_undecided h r).supply, (requestCheckpoint_undecided h r).buffer,
    core_of_sansStore (requestCheckpoint_sansStore r u), .of_eq (by simp), fun k _ => requestCheckpoint_kind k r u,
    requestCheckpoint_submits r u⟩

theorem evaluateTamper_record_of_starting (d : TamperCause) : u.evaluateTamper.tamperRecord d = u.tamperRecord d := by
  rw [evaluateTamper_of_starting h]
  rfl

/-! ### A cause becomes present while the part is starting (R136) -/

theorem presentEvidence_monitors (c : TamperCause) :
    u.Monitors (u.presentEvidence c) ∧ ∀ d, (u.presentEvidence c).tamperRecord d = u.tamperRecord d := by
  have entered := journal_monitors h (.tamperPresent c (u.tamperRecord c).count (u.policy c))
  have noted : u.Monitors (if u.policy c = .record then u.journal (.tamperPresent c (u.tamperRecord c).count (u.policy c))
      else (u.journal (.tamperPresent c (u.tamperRecord c).count (u.policy c))).place
        (.tamperRaised c (u.tamperRecord c).count (u.policy c) (u.tamperRecord c).last)) :=
    .ite entered (entered.trans (place_monitors entered.power rfl))
  have records (d : TamperCause) : (if u.policy c = .record then
      u.journal (.tamperPresent c (u.tamperRecord c).count (u.policy c))
      else (u.journal (.tamperPresent c (u.tamperRecord c).count (u.policy c))).place
        (.tamperRaised c (u.tamperRecord c).count (u.policy c) (u.tamperRecord c).last)).tamperRecord d =
      u.tamperRecord d := by
    split
    · exact tamperRecord_congr (journal_tamper _ u) d
    · exact (tamperRecord_congr (place_tamper _ _) d).trans (tamperRecord_congr (journal_tamper _ u) d)
  rw [presentEvidence_eq]
  have evaluated := evaluateTamper_monitors noted.power
  refine ⟨(noted.trans evaluated).trans (requestCheckpoint_monitors evaluated.power _), fun d => ?_⟩
  rw [tamperRecord_congr (requestCheckpoint_tamper _ _), evaluateTamper_record_of_starting noted.power, records]

theorem becomePresent_monitors {c : TamperCause} (plain : causeCover c = none) :
    u.Monitors (u.becomePresent c) ∧ ∀ d, d ≠ c → (u.becomePresent c).tamperRecord d = u.tamperRecord d := by
  have put := putRecord_monitors h c ((u.tamperRecord c).presented u.stamp)
  obtain ⟨evident, records⟩ := presentEvidence_monitors put.power c
  rw [becomePresent_of_away (.inl plain)]
  exact ⟨put.trans evident, fun d other => (records d).trans (putRecord_other other _ u)⟩

/-- A cause without a debounce that becomes present in the event of its condition. -/
theorem conditionArises_of_present_at_once {c : TamperCause} (plain : causeCover c = none) (immediate : c.hasDebounce = false)
    (state : (u.tamperRecord c).state = .quiet ∨ (u.tamperRecord c).state = .latchedAbsent) :
    u.Monitors (u.conditionArises c) ∧ ∀ d, d ≠ c → (u.conditionArises c).tamperRecord d = u.tamperRecord d := by
  have kept : ¬ (u.power = .failing ∧ droppedAtPfw c = true) := by simp [h]
  have noted : u.Monitors (u.conditionNoted c) := putRecord_monitors h c _
  obtain ⟨present, records⟩ := becomePresent_monitors noted.power plain
  rw [conditionArises_of_immediate kept immediate state]
  exact ⟨noted.trans present, fun d other => (records d other).trans (putRecord_other other _ u)⟩

/-- RETENTION_LOST arises and ends within one event (R146). -/
theorem retentionLost_monitors (absent : u.condition .retentionLost = false)
    (state : (u.tamperRecord .retentionLost).state = .quiet ∨ (u.tamperRecord .retentionLost).state = .latchedAbsent) :
    u.Monitors u.retentionLost ∧
      (∀ d, d ≠ .retentionLost → u.retentionLost.tamperRecord d = u.tamperRecord d) ∧
      u.retentionLost.tamperRecord .retentionLost =
        { u.tamperRecord .retentionLost with
          condition := false, state := .latchedAbsent, count := min 65535 ((u.tamperRecord .retentionLost).count + 1),
          first := some ((u.tamperRecord .retentionLost).first.getD u.stamp), last := some u.stamp, timer := none } := by
  have kept : ¬ (u.power = .failing ∧ droppedAtPfw .retentionLost = true) := by simp [h]
  obtain ⟨arises, others⟩ := conditionArises_of_present_at_once h rfl rfl state
  obtain ⟨record, -⟩ := conditionArises_evident kept rfl rfl (by decide) state
  have ends := setCondition_false_monitors arises.power (c := .retentionLost) rfl
  have present : (u.conditionArises .retentionLost).condition .retentionLost = true := by rw [condition, record]
  unfold retentionLost
  rw [setCondition_true absent]
  refine ⟨arises.trans ends, fun d other => ?_, ?_⟩
  · rw [setCondition_false_record_of_starting arises.power, if_neg (fun both => other both.1), others d other]
  · rw [setCondition_false_record_of_starting arises.power, if_pos ⟨rfl, present⟩, record]
    rfl

/-! ### The switches (R146) -/

theorem readSwitch_starts {c : TamperCause} (debounced : c.hasDebounce = true) (absent : u.condition c = false) (b : Bool) :
    u.Monitors (u.setCondition c b) ∧
      ∀ d, (u.setCondition c b).tamperRecord d =
        if d = c then if b then (u.tamperRecord d).arisen (u.timeBase + debounceTicks d) else u.tamperRecord d
        else u.tamperRecord d := by
  have kept : ¬ (u.power = .failing ∧ droppedAtPfw c = true) := by simp [h]
  cases b with
  | false =>
    rw [setCondition_of_same absent]
    exact ⟨.refl h, fun d => by simp⟩
  | true =>
    obtain ⟨arises, others, -⟩ := conditionArises_of_timed h debounced
    rw [setCondition_true absent]
    refine ⟨arises, fun d => ?_⟩
    by_cases same : d = c
    · rw [if_pos same, if_pos rfl, same, conditionArises_timed kept debounced]
    · rw [if_neg same, others d same]

end

/-- The input of a cover switch or of the magnetic sensor is on. -/
def switchOn (d : TamperCause) (x : Inputs) : Bool :=
  match d with
  | .terminalCover => x.terminalCoverOpen
  | .mainCover => x.mainCoverOpen
  | .magnetic => x.magneticField
  | .bypass | .metrologyDivergence | .pulseIntegrity | .metrologySilent | .reverseEnergy | .neutralMissing
  | .interfaceLinkLost | .codeAttack | .retentionLost | .storeFault => false

/-- A record behind the reading of the switches. -/
def switchRecord (d : TamperCause) (u : Part) : TamperRecord :=
  if switchOn d u.inputs then (u.tamperRecord d).arisen (u.timeBase + debounceTicks d) else u.tamperRecord d

theorem readSwitches_starts {u : Part} (h : u.power = .starting) (absent : ∀ c, u.condition c = false) :
    u.Monitors u.readSwitches ∧ ∀ d, u.readSwitches.tamperRecord d = u.switchRecord d := by
  obtain ⟨terminal, terminalRecords⟩ := readSwitch_starts h (c := .terminalCover) rfl (absent _) u.inputs.terminalCoverOpen
  let v := u.setCondition .terminalCover u.inputs.terminalCoverOpen
  have inputs : v.inputs = u.inputs := inputs_of_derived (derived_of_core terminal.core)
  have time : v.timeBase = u.timeBase := timeBase_of_core terminal.core
  have absentMain : v.condition .mainCover = false := by
    rw [condition, terminalRecords, if_neg (by simp)]
    exact absent _
  obtain ⟨main, mainRecords⟩ := readSwitch_starts terminal.power (c := .mainCover) rfl absentMain v.inputs.mainCoverOpen
  let w := v.setCondition .mainCover v.inputs.mainCoverOpen
  have inputs' : w.inputs = u.inputs := (inputs_of_derived (derived_of_core main.core)).trans inputs
  have time' : w.timeBase = u.timeBase := (timeBase_of_core main.core).trans time
  have absentMagnetic : w.condition .magnetic = false := by
    rw [condition, mainRecords, if_neg (by simp), terminalRecords, if_neg (by simp)]
    exact absent _
  obtain ⟨magnetic, magneticRecords⟩ := readSwitch_starts main.power (c := .magnetic) rfl absentMagnetic w.inputs.magneticField
  refine ⟨(terminal.trans main).trans magnetic, fun d => ?_⟩
  have whole : u.readSwitches = w.setCondition .magnetic w.inputs.magneticField := rfl
  rw [whole, magneticRecords, time', inputs', mainRecords, time, inputs, terminalRecords, switchRecord]
  cases d <;> rfl

end Part

end Sys2Proof.Machine
end

section
/-! The part that the recovery hands to the main-start sequence (R157, R159, R162 to R164). -/

namespace Sys2Proof.Machine

/-- The store as the scans leave it (R157, R159). -/
def scannedStore (a : NvArray) : Store :=
  { Store.idle with
    nextSlot := (a.newestCheckpoint.map fun x => (x.1 + 1) % 64).getD 0,
    nextSequence := (a.newestCheckpoint.map fun x => x.2.sequence + 1).getD 1,
    nextJournalSlot := (a.newestEntry.map fun x => (x.1 + 1) % 32).getD 0,
    nextJournalSequence := (a.newestEntry.map fun x => x.2.sequence + 1).getD 1 }

/-- Every slot of the checkpoint log is blank. -/
def NvArray.Unwritten (a : NvArray) : Prop := ∀ slot ∈ a.log.toList, slot = .blank

/-- A slot of the checkpoint log has been written. -/
def NvArray.written (a : NvArray) : Bool := !a.log.toList.all Slot.isBlank

theorem validSlots_of_blank {α : Type} {l : List (Slot α)} (blank : ∀ slot ∈ l, slot = .blank) (n : Nat) : validSlots n l = [] := by
  induction l generalizing n with
  | nil => rfl
  | cons x l ih =>
    rw [blank x List.mem_cons_self]
    exact ih (fun slot hs => blank slot (List.mem_cons_of_mem _ hs)) (n + 1)

/-- A slot holds a valid item. -/
def Slot.isValid {α : Type} (slot : Slot α) : Bool :=
  match slot with
  | .valid _ => true
  | .blank | .invalid => false

theorem validSlots_length {α : Type} (l : List (Slot α)) (n : Nat) : (validSlots n l).length = (l.filter Slot.isValid).length := by
  induction l generalizing n with
  | nil => rfl
  | cons x l ih =>
    cases x with
    | blank => exact ih (n + 1)
    | invalid => exact ih (n + 1)
    | valid y => exact congrArg Nat.succ (ih (n + 1))

theorem NvArray.Unwritten.newest {a : NvArray} (h : a.Unwritten) : a.newestCheckpoint = none := by
  rw [newestCheckpoint, validSlots_of_blank h]
  rfl

theorem NvArray.written_eq_false_iff (a : NvArray) : a.written = false ↔ a.Unwritten := by
  rw [written, Bool.not_eq_false', List.all_eq_true, Unwritten]
  refine forall₂_congr fun slot _ => ?_
  cases slot <;> simp [Slot.isBlank]

namespace Part

/-! ### The scans -/

/-- The part behind its main-domain values and the scans. -/
def scanned (u : Part) : Part := { u.mainValues with store := scannedStore u.array }

theorem scan_eq (u : Part) : u.mainValues.scanLog.scanJournal = u.scanned := by
  have log : u.mainValues.scanLog =
      { u.mainValues with store := { Store.idle with
        nextSlot := (u.array.newestCheckpoint.map fun x => (x.1 + 1) % 64).getD 0,
        nextSequence := (u.array.newestCheckpoint.map fun x => x.2.sequence + 1).getD 1 } } := by
    have array : u.mainValues.array = u.array := rfl
    unfold scanLog
    rw [array]
    rcases u.array.newestCheckpoint with _ | ⟨slot, r⟩ <;> rfl
  have array : u.mainValues.scanLog.array = u.array := by rw [log]; rfl
  unfold scanJournal
  rw [array, log, scanned, scannedStore]
  rcases u.array.newestEntry with _ | ⟨slot, e⟩ <;> rfl

/-! ### The recovery -/

/-- The retention items that a recovery regains from the newest record, if there is one. -/
def regained (found : Option CheckpointRecord) (u : Part) : Part :=
  match found with
  | some r => Part.restore r { u.newRetention with lostMark := false }
  | none => { u.newRetention with lostMark := false }

/-- The newest record of the log. -/
def newestRecord (u : Part) : Option CheckpointRecord := u.array.newestCheckpoint.map Prod.snd

theorem recover_of_unwritten {u : Part} (blank : u.array.written = false) : u.recover = (u.regained none).readSwitches := by
  have all : ({ u.newRetention with lostMark := false } : Part).array.log.toList.all Slot.isBlank = true := by
    have all : u.array.log.toList.all Slot.isBlank = true := by simpa only [NvArray.written, Bool.not_eq_false'] using blank
    exact all
  unfold recover
  dsimp only
  rw [if_pos all]
  rfl

theorem recover_of_written {u : Part} (written : u.array.written = true) :
    u.recover = ((u.regained u.newestRecord).recoveryEvidence u.newestRecord).readSwitches := by
  have some : ¬ ({ u.newRetention with lostMark := false } : Part).array.log.toList.all Slot.isBlank = true := by
    have all : u.array.log.toList.all Slot.isBlank = false := by simpa only [NvArray.written, Bool.not_eq_true'] using written
    simp [newRetention, all]
  have array : ({ u.newRetention with lostMark := false } : Part).array = u.array := rfl
  unfold recover
  dsimp only
  rw [if_neg some, array, newestRecord]
  rcases u.array.newestCheckpoint with _ | ⟨slot, r⟩ <;> rfl

theorem regained_items (found : Option CheckpointRecord) (u : Part) :
    (u.regained found).power = u.power ∧ (u.regained found).store.journal = u.store.journal ∧
      (u.regained found).array = u.array := by
  cases found <;> exact ⟨rfl, rfl, rfl⟩

/-- A record that a recovery regains: its condition is off, and it is quiet or latched. -/
theorem regained_record (found : Option CheckpointRecord) (u : Part) (d : TamperCause) :
    (u.regained found).tamperRecord d =
      match found with
      | some r => (r.tamper.get (causeIndex d)).restored
      | none => TamperRecord.quiet := by
  cases found with
  | none => cases d <;> rfl
  | some r => exact Vector.getElem_map ..

theorem regained_settled (found : Option CheckpointRecord) (u : Part) (d : TamperCause) :
    (u.regained found).condition d = false ∧
      (((u.regained found).tamperRecord d).state = .quiet ∨ ((u.regained found).tamperRecord d).state = .latchedAbsent) := by
  rw [condition, regained_record]
  cases found with
  | none => exact ⟨rfl, .inl rfl⟩
  | some r =>
    refine ⟨rfl, ?_⟩
    rcases latched : (r.tamper.get (causeIndex d)).latched with _ | _
    · exact .inl (by simp [CarriedTamper.restored, latched])
    · exact .inr (by simp [CarriedTamper.restored, latched])

/-- LEDGER_RESTORED as a recovery journals it (R164). -/
def ledgerDetail (found : Option CheckpointRecord) (u : Part) : JournalDetail :=
  .ledgerRestored (found.map fun r => (r.sequence, r.stamp, r.reasons)) (u.array.log.toList.filter Slot.isValid).length

/-- The record of RETENTION_LOST behind its rise and end. -/
def lostRecord (r : TamperRecord) (now : Stamp) : TamperRecord :=
  { r with
    condition := false, state := .latchedAbsent, count := min 65535 (r.count + 1), first := some (r.first.getD now),
    last := some now, timer := none }

theorem recoveryEvidence_starts {u : Part} (h : u.power = .starting) (found : Option CheckpointRecord)
    (absent : u.condition .retentionLost = false)
    (state : (u.tamperRecord .retentionLost).state = .quiet ∨ (u.tamperRecord .retentionLost).state = .latchedAbsent) :
    u.Monitors (u.recoveryEvidence found) ∧
      (∀ d, (u.recoveryEvidence found).tamperRecord d =
        if d = .retentionLost then lostRecord (u.tamperRecord d) u.stamp else u.tamperRecord d) ∧
      (u.store.journal = [] → (u.recoveryEvidence found).Journaled (u.entryNow (u.ledgerDetail found))) := by
  let v := u.journal (u.ledgerDetail found)
  have whole : u.recoveryEvidence found = v.retentionLost := by
    unfold recoveryEvidence
    dsimp only
    rw [validSlots_length]
    rfl
  have entered : u.Monitors v := journal_monitors h _
  have record (d : TamperCause) : v.tamperRecord d = u.tamperRecord d := tamperRecord_congr (journal_tamper _ u) d
  have stamp : v.stamp = u.stamp := by rw [stamp, stamp, clock_of_derived (derived_of_core entered.core)]
  obtain ⟨lost, others, own⟩ := retentionLost_monitors entered.power (by rw [condition, record]; exact absent)
    (by rw [record]; exact state)
  rw [whole]
  refine ⟨entered.trans lost, fun d => ?_, fun empty => ?_⟩
  · by_cases same : d = .retentionLost
    · rw [if_pos same, same, own, record, stamp, lostRecord]
    · rw [if_neg same, others d same, record]
  · have journaled : v.Journaled (u.entryNow (u.ledgerDetail found)) := journal_journaled (by simp [empty])
    exact lost.submits _ (journaled_invariant _) journaled

/-! ### The part behind the recovery -/

/-- The part whose retention items are those of the recovery, before its evidence and its switches. -/
def ground (u : Part) : Part := (if u.lostMark then u.scanned.regained u.newestRecord else u.scanned).readConfig

/-- The part that the main-start sequence begins with. -/
def based (u : Part) : Part := (if u.lostMark then u.scanned.recover else u.scanned).readConfig

theorem startMain_eq {u : Part} (stopped : u.power = .stopped) : u.startMain = u.based.began := by
  have off : u.stopMain false = u := stopMain_off u (by rw [mainOn, stopped]; rfl) false
  have lost : u.scanned.lostMark = u.lostMark := rfl
  unfold startMain
  dsimp only
  rw [off, scan_eq, lost, startSequence_eq, based]

theorem readConfig_monitors {u v : Part} (h : u.Monitors v) : u.readConfig.Monitors v.readConfig := by
  have core := congrArg Part.readConfig h.core
  have mapped (w : Part) : w.core.readConfig = w.readConfig.core := rfl
  rw [mapped, mapped] at core
  have before : u.readConfig.Submits u := .of_eq rfl rfl rfl
  have after : v.Submits v.readConfig := .of_eq rfl rfl rfl
  have config := congrArg Part.config core
  exact ⟨h.power, h.supply, h.buffer, core, h.causes, fun k other => ⟨config, (h.kinds k other).none⟩,
    (before.trans h.submits).trans after⟩

/-- A record behind the recovery. -/
def recoveredRecord (d : TamperCause) (u : Part) : TamperRecord :=
  if u.array.written = true ∧ d = .retentionLost then lostRecord (u.tamperRecord d) u.stamp else u.switchRecord d

theorem recover_starts {u : Part} (h : u.power = .starting) (idle : u.store.journal = []) :
    (u.regained u.newestRecord).Monitors u.recover ∧
      (∀ d, u.recover.tamperRecord d = (u.regained u.newestRecord).recoveredRecord d) ∧
      (u.array.written = true → u.recover.Journaled ((u.regained u.newestRecord).entryNow
        ((u.regained u.newestRecord).ledgerDetail u.newestRecord))) := by
  have settled := regained_settled u.newestRecord u
  obtain ⟨power, journal, array⟩ := regained_items u.newestRecord u
  have power : (u.regained u.newestRecord).power = .starting := power.trans h
  have journal : (u.regained u.newestRecord).store.journal = [] := journal.trans idle
  cases log : u.array.written with
  | false =>
    have none : u.newestRecord = none := by
      rw [newestRecord, (u.array.written_eq_false_iff.mp log).newest, Option.map_none]
    obtain ⟨read, records⟩ := readSwitches_starts power fun c => (settled c).1
    have whole : u.recover = (u.regained u.newestRecord).readSwitches := by rw [none, recover_of_unwritten log]
    rw [whole]
    refine ⟨read, fun d => ?_, nofun⟩
    rw [records, recoveredRecord, array, log, if_neg (by simp)]
  | true =>
    have whole := recover_of_written log
    generalize u.regained u.newestRecord = g at *
    obtain ⟨evident, own, journaled⟩ := recoveryEvidence_starts power u.newestRecord (settled .retentionLost).1
      (settled .retentionLost).2
    have absent (c : TamperCause) : (g.recoveryEvidence u.newestRecord).condition c = false := by
      rw [condition, own]
      split
      · rfl
      · exact (settled c).1
    obtain ⟨read, records⟩ := readSwitches_starts evident.power absent
    have inputs : (g.recoveryEvidence u.newestRecord).inputs = g.inputs := inputs_of_derived (derived_of_core evident.core)
    have time : (g.recoveryEvidence u.newestRecord).timeBase = g.timeBase := timeBase_of_core evident.core
    rw [whole]
    refine ⟨evident.trans read, fun d => ?_, fun _ => read.submits _ (journaled_invariant _) (journaled journal)⟩
    rw [records, switchRecord, inputs, time, own, recoveredRecord, array, log]
    by_cases same : d = .retentionLost
    · subst same
      simp [switchOn]
    · simp only [same, and_false, if_false]
      rfl

section
variable (u : Part)

theorem ground_monitors : u.ground.Monitors u.based := by
  unfold ground based
  split
  · exact readConfig_monitors (recover_starts (u := u.scanned) rfl rfl).1
  · exact readConfig_monitors (.refl rfl)

theorem based_of_lost (lost : u.lostMark = true) :
    u.based = u.scanned.recover.readConfig ∧ u.ground = (u.scanned.regained u.newestRecord).readConfig :=
  ⟨by rw [based, if_pos lost], by rw [ground, if_pos lost]⟩

theorem based_of_kept (kept : u.lostMark = false) : u.based = u.scanned.readConfig ∧ u.ground = u.scanned.readConfig :=
  ⟨by rw [based, if_neg (by simp [kept])], by rw [ground, if_neg (by simp [kept])]⟩

omit u in
theorem readConfig_records (w : Part) (d : TamperCause) :
    w.readConfig.tamperRecord d = w.tamperRecord d ∧ w.readConfig.recoveredRecord d = w.recoveredRecord d := ⟨rfl, rfl⟩

omit u in
theorem readConfig_ledger (w : Part) (found : Option CheckpointRecord) :
    w.readConfig.entryNow (w.readConfig.ledgerDetail found) = w.entryNow (w.ledgerDetail found) ∧
      ∀ q, w.Journaled q → w.readConfig.Journaled q := ⟨rfl, fun _ h => h⟩

/-- The records that the main-start sequence begins with. -/
theorem based_record (d : TamperCause) :
    u.based.tamperRecord d = if u.lostMark then u.ground.recoveredRecord d else u.ground.tamperRecord d := by
  cases mark : u.lostMark with
  | true =>
    obtain ⟨based, ground⟩ := u.based_of_lost mark
    rw [based, ground, (readConfig_records _ d).1, (readConfig_records _ d).2, if_pos rfl]
    exact (recover_starts (u := u.scanned) rfl rfl).2.1 d
  | false =>
    obtain ⟨based, ground⟩ := u.based_of_kept mark
    rw [based, ground, if_neg (by simp)]

theorem based_ledger (lost : u.lostMark = true) (written : u.array.written = true) :
    u.based.Journaled (u.ground.entryNow (u.ground.ledgerDetail u.newestRecord)) := by
  have journaled := (recover_starts (u := u.scanned) rfl rfl).2.2 written
  have newest : u.scanned.newestRecord = u.newestRecord := rfl
  rw [newest] at journaled
  obtain ⟨based, ground⟩ := u.based_of_lost lost
  rw [based, ground, (readConfig_ledger _ _).1]
  exact (readConfig_ledger _ u.newestRecord).2 _ journaled

/-- The records before the switches are read. -/
theorem ground_record (d : TamperCause) :
    u.ground.tamperRecord d =
      if u.lostMark then
        match u.newestRecord with
        | some r => (r.tamper.get (causeIndex d)).restored
        | none => TamperRecord.quiet
      else u.tamperRecord d := by
  cases mark : u.lostMark with
  | true =>
    rw [(u.based_of_lost mark).2, (readConfig_records _ d).1, regained_record, if_pos rfl]
  | false =>
    rw [(u.based_of_kept mark).2, (readConfig_records _ d).1, if_neg (by simp)]
    rfl

end

end Part

end Sys2Proof.Machine
end

section
/-! What the store controller and the notices keep through the main-start sequence (R151, R157, R159, R162). -/

namespace Sys2Proof.Machine

namespace Part

/-- A write in flight has taken the positions of the scan, and what it does not take stands (R157, R159). -/
def AtPositions (slot sequence jslot jsequence : Nat) (x : Store) : Prop :=
  match x.inFlight with
  | some (.checkpoint c) =>
    c.slot = slot ∧ c.record.sequence = sequence ∧ x.nextJournalSlot = jslot ∧ x.nextJournalSequence = jsequence
  | some (.journal e s _ _) => e.sequence = jsequence ∧ s = jslot ∧ x.nextSlot = slot ∧ x.nextSequence = sequence
  | some (.bank _ _ _) | some (.config _ _ _) => False
  | none => x.nextSlot = slot ∧ x.nextSequence = sequence ∧ x.nextJournalSlot = jslot ∧ x.nextJournalSequence = jsequence

/-- The store of a part that has written nothing since its scan but what is in flight. -/
def Positioned (slot sequence jslot jsequence : Nat) (u : Part) : Prop :=
  u.store.class2 = [] ∧ u.store.failureRun = 0 ∧ AtPositions slot sequence jslot jsequence u.store

theorem startNext_positioned {slot sequence jslot jsequence : Nat} {u : Part}
    (h : u.Positioned slot sequence jslot jsequence) : u.startNext.Positioned slot sequence jslot jsequence := by
  obtain ⟨none, run, positions⟩ := h
  by_cases still : u.Still
  · rw [startNext_of_still still]
    exact ⟨none, run, positions⟩
  · obtain ⟨idle, on⟩ := not_or.mp still
    have idle : u.store.inFlight = .none := by simpa using idle
    have on : u.mainOn = true := by simpa using on
    rw [AtPositions, idle] at positions
    obtain ⟨atSlot, atSequence, atJournal, atEntry⟩ := positions
    cases waiting : u.store.waiting with
    | some reasons =>
      rw [startNext_of_waiting idle on waiting]
      exact ⟨none, run, atSlot, atSequence, atJournal, atEntry⟩
    | none =>
      cases journal : u.store.journal with
      | nil =>
        rw [startNext_of_nothing idle waiting (.inl none) journal, Positioned, AtPositions, idle]
        exact ⟨none, run, atSlot, atSequence, atJournal, atEntry⟩
      | cons r rest =>
        rw [startNext_of_journal idle waiting (.inl none) (u.mainOn_iff.mp on) journal, startJournal]
        dsimp only
        split <;> exact ⟨none, run, atEntry, atJournal, atSlot, atSequence⟩

theorem positioned_invariant (slot sequence jslot jsequence : Nat) :
    StepInvariant (Positioned slot sequence jslot jsequence) := by
  refine ⟨fun u v store _ _ h => ?_, fun _ _ h => h, fun _ _ h => h, fun _ h => startNext_positioned h, fun u h => ?_,
    fun _ _ _ h => h⟩
  · rw [Positioned, store]
    exact h
  · obtain ⟨none, run, positions⟩ := h
    refine ⟨none, run, ?_⟩
    have flight : u.markDue.store.inFlight = u.store.inFlight.map Attempt.noteChange := rfl
    rw [AtPositions] at positions ⊢
    rw [flight]
    revert positions
    rcases u.store.inFlight with _ | (_ | _ | _ | _) <;> exact id

/-! ### Notices -/

/-- On no port a level is in service. -/
def Unserved (u : Part) : Prop := ∀ p : Port, (u.notices.get p).inService = Levels.none

theorem unserved_invariant : StepInvariant Unserved := by
  refine ⟨fun u v _ _ notices h => ?_, fun _ _ h => h, fun _ _ h => h, fun u h => ?_, fun _ h => h, fun u p x h q => ?_⟩
  · rw [Unserved, notices]
    exact h
  · rw [Unserved, startNext_notices]
    exact h
  · have kept : ((u.placeOn p x).notices.get q).inService = (u.notices.get q).inService := by cases p <;> cases q <;> rfl
    exact kept.trans (h q)

/-! ### The main-start sequence -/

/-- A property of the store controller that the sequence keeps. -/
structure StartInvariant (P : Part → Prop) : Prop extends StepInvariant P where
  stored : ∀ u v : Part, v.store = u.store → P u → P v
  hourly : ∀ u : Part, P u → P u.startHourly

theorem StartInvariant.began {P : Part → Prop} (inv : StartInvariant P) {b : Part} (h : b.power = .starting)
    (holds : P b.asked) : P b.began := by
  have ports := inv.stored _ _ b.atPorts_store holds
  exact inv.hourly _ (((monitored_submits (atPorts_power h)).trans (decidedFrom_submits _)) P inv.toStepInvariant ports)

theorem journaled_start (q : JournalRequest) : StartInvariant (Part.Journaled q) where
  toStepInvariant := journaled_invariant q
  stored u v store h := by
    rw [Part.Journaled, store]
    exact h
  hourly _ h := h

theorem flushing_start (first : JournalRequest) (others : List JournalRequest) : StartInvariant (Flushing first others) where
  toStepInvariant := flushing_invariant first others
  stored u v store h := by
    rw [Flushing, store]
    exact h
  hourly _ h := h

theorem positioned_start (slot sequence jslot jsequence : Nat) :
    StartInvariant (Positioned slot sequence jslot jsequence) where
  toStepInvariant := positioned_invariant slot sequence jslot jsequence
  stored u v store h := by
    rw [Positioned, store]
    exact h
  hourly _ h := h

theorem decidedFrom_timeBase (m : Part) : m.decidedFrom.timeBase = m.timeBase := by
  have core : m.decidedFrom.core = m.deciding.core :=
    (core_of_sansStore (requestIfDue_sansStore .mainStart _)).trans (recompute_core _)
  have time := timeBase_of_core core
  exact time

theorem begunFrom_unserved {m : Part} (unserved : m.decidedFrom.Unserved) : m.begunFrom.Unserved := unserved

theorem begunFrom_hourly (m : Part) : m.begunFrom.store.hourlyAt = some (m.decidedFrom.timeBase + Config.seconds 3600) := rfl

theorem empty_pending (k : NoticeKind) : NoticePort.empty.pending.get (kindIndex k) = none := by cases k <;> rfl

section
variable {b : Part} (h : b.power = .starting)
include h

/-- What the store keeps from before the sequence. -/
theorem began_keeps {P : Part → Prop} (inv : StartInvariant P) (holds : P b) : P b.began :=
  inv.began h (b.asked_submits P inv.toStepInvariant holds)

theorem began_unserved : b.began.Unserved := by
  have ports : b.atPorts.Unserved := fun p => by rw [atPorts_notices]; rfl
  have decided := ((monitored_submits (atPorts_power h)).trans (decidedFrom_submits _)) _ unserved_invariant ports
  exact begunFrom_unserved decided

/-- The battery events of a part that starts with an idle store. -/
theorem began_flushing (idle : b.IdleStore) {e : BatteryEvent} {rest : List BatteryEvent}
    (buffer : b.tamper.buffer = e :: rest) (few : rest.length ≤ 3) :
    b.began.Flushing (b.flushRequest e) (rest.map fun x => b.flushRequest x) :=
  (flushing_start _ _).began h
    (requestIfDue_submits _ _ _ (flushing_invariant _ _) (flushed_flushing idle buffer few))

theorem began_hourly : b.began.store.hourlyAt = some (b.timeBase + Config.seconds 3600) := by
  have time : b.atPorts.monitored.decidedFrom.timeBase = b.timeBase := by
    have monitored := timeBase_of_derived (monitored_derived (atPorts_power h))
    have ported := timeBase_of_derived b.atPorts_derived
    exact (decidedFrom_timeBase _).trans (monitored.trans (tariffed_items.2.trans ported))
  rw [began, begunFrom_hourly, time]

/-! ### The notices that the sequence places -/

theorem began_pending {k : NoticeKind} (other : k ∉ accountKinds) (raised : k ≠ .tamperRaised) (reopened : k ≠ .bankReopened)
    (p : Port) : (b.began.notices.get p).pending.get (kindIndex k) = none := by
  have placed := ((loseSchedule_kind reopened b.atPorts).trans (begun_kind (atPorts_power h) other raised)).none p
  rw [atPorts_notices] at placed
  exact placed.trans (empty_pending k)

omit h in
theorem atPorts_marker : b.atPorts.tariff.scheduleMarker = b.tariff.scheduleMarker := by
  have tariff := tariff_of_derived b.atPorts_derived
  have marker := congrArg Tariff.scheduleMarker tariff
  exact marker

theorem began_reopened {f : Nat} (marker : b.tariff.scheduleMarker = some f) :
    b.began.Holds .s (.bankReopened .scheduleLost) := by
  have placed := loseSchedule_placed (atPorts_marker.trans marker)
  have kept := begun_kind (atPorts_power h) (k := .bankReopened) (by decide) (by decide)
  exact KeepsKind.placed (x := .bankReopened .scheduleLost) kept placed .s rfl

theorem began_not_reopened (marker : b.tariff.scheduleMarker = none) :
    (b.began.notices.get .s).pending.get (kindIndex .bankReopened) = none := by
  have still := loseSchedule_of_none (atPorts_marker.trans marker)
  have placed := (begun_kind (atPorts_power h) (k := .bankReopened) (by decide) (by decide)).none .s
  rw [still, atPorts_notices] at placed
  exact placed.trans (empty_pending _)

/-! ### The notices of a rise on battery (R144; log 56) -/

/-- The part that the tamper monitor finds has the records, the policies and the inputs that the sequence began with. -/
theorem atTariff_startRecord (d : TamperCause) : b.atPorts.tariffed.startRecord d = b.startRecord d := by
  have inputs := inputs_of_derived b.atPorts_derived
  have inputs : b.atPorts.inputs = b.inputs := inputs
  have time := timeBase_of_derived b.atPorts_derived
  have time : b.atPorts.timeBase = b.timeBase := time
  rw [tariffed_startRecord (atPorts_power h), startRecord, startRecord, atPorts_record, atPorts_record, inputs, time]

theorem atTariff_policy (d : TamperCause) : b.atPorts.tariffed.policy d = b.began.policy d := by
  have begun : b.began.policy d = b.atPorts.monitored.policy d := policy_of_bank (begunFrom_bank _) d
  rw [begun, policy_of_derived (monitored_derived (atPorts_power h))]

theorem began_raised {d : TamperCause} (raised : (b.startRecord d).raisedOnBattery = true) (policy : b.began.policy d ≠ .record)
    (last : ∀ e, (causeIndex d).val < (causeIndex e).val →
      (b.startRecord e).raisedOnBattery = false ∨ b.began.policy e = .record) :
    b.began.Placed (.tamperRaised d (b.startRecord d).count (b.began.policy d) (b.startRecord d).last) := by
  have starting := (tariffed_undecided (atPorts_power h)).power
  have placed := tamperAtMainStart_placed starting (d := d) (by rw [atTariff_startRecord h]; exact raised)
    (by rw [atTariff_policy h]; exact policy)
    (fun e later => by rw [atTariff_startRecord h, atTariff_policy h]; exact last e later)
  rw [atTariff_startRecord h, atTariff_policy h] at placed
  have kept : b.atPorts.monitored.KeepsKind .tamperRaised b.atPorts.monitored.begunFrom := begunFrom_kind _ (by decide)
  exact KeepsKind.placed (x := .tamperRaised d (b.startRecord d).count (b.began.policy d) (b.startRecord d).last) kept placed

theorem began_not_raised (silent : ∀ d, (b.startRecord d).raisedOnBattery = false ∨ b.began.policy d = .record) (p : Port) :
    (b.began.notices.get p).pending.get (kindIndex .tamperRaised) = none := by
  have starting := (tariffed_undecided (atPorts_power h)).power
  have monitored := tamperAtMainStart_silent starting fun d => by
    rw [atTariff_startRecord h, atTariff_policy h]
    exact silent d
  have engine := (loseSchedule_kind (k := .tamperRaised) (by decide) b.atPorts).trans (tariffed_kind (by decide) b.atPorts)
  have placed := ((engine.trans monitored).trans (begunFrom_kind _ (by decide))).none p
  rw [atPorts_notices] at placed
  exact placed.trans (empty_pending _)

end

end Part

end Sys2Proof.Machine
end

section
/-! The part that main start decides on (R98, R120, R162 to R164): its items, its store positions and its cause set. -/

namespace Sys2Proof.Machine

namespace Part

/-! ### What the recovery found -/

/-- The record that the recovery restores, if it restores one. -/
def foundRecord (u : Part) : Option CheckpointRecord := if u.lostMark then u.newestRecord else none

/-- The logical supply state before it is resolved. -/
def startLogical (u : Part) : Logical :=
  if u.lostMark then (u.foundRecord.map CheckpointRecord.logical).getD .unset else u.supply.logical

/-- The opening record of main start. -/
def startOpening (u : Part) : OpeningRecord :=
  if u.lostMark then (u.foundRecord.map CheckpointRecord.record).getD OpeningRecord.empty else u.supply.record

/-- The schedule marker that main start finds. -/
def startMarker (u : Part) : Option Nat :=
  if u.lostMark then u.foundRecord.bind CheckpointRecord.scheduleMarker else u.tariff.scheduleMarker

/-- The next journal sequence number of main start (R159, R164). -/
def startJournalSequence (u : Part) : Nat :=
  max ((u.array.newestEntry.map fun x => x.2.sequence + 1).getD 1)
    ((u.foundRecord.map CheckpointRecord.nextJournalSequence).getD 0)

/-- The items of main start that do not hang on what the recovery found. -/
structure Grounded (u g : Part) : Prop where
  power : g.power = .starting
  lostMark : g.lostMark = false
  timeBase : g.timeBase = u.timeBase
  inputs : g.inputs = u.inputs
  coils : g.outputs.openCoil = false ∧ g.outputs.closeCoil = false
  pulse : g.pulse = Pulse.atMainStart
  recon : g.recon = { mode := .reported, window := none, divergence := 0 }
  tariff : g.tariff.pending = .empty ∧ g.tariff.activation = none ∧ g.tariff.midnight = none
  codes : g.codes.slots = u.array.config.keys ∧ g.codes.queue = [] ∧ g.codes.head = none
  load : g.load.lockoutUntil = none ∧ g.load.overLimit = 0 ∧ g.load.nextEvaluation = u.timeBase + 32768
  config : g.config = { live := u.array.config, unstored := [] }

theorem ground_cases (u : Part) :
    (u.lostMark = false ∧ u.ground = u.scanned.readConfig) ∨
      ∃ found, u.lostMark = true ∧ u.foundRecord = found ∧ u.newestRecord = found ∧
        u.ground = (u.scanned.regained found).readConfig := by
  cases mark : u.lostMark with
  | false => exact .inl ⟨rfl, (u.based_of_kept mark).2⟩
  | true => exact .inr ⟨u.newestRecord, rfl, by rw [foundRecord, if_pos mark], rfl, (u.based_of_lost mark).2⟩

theorem ground_grounded (u : Part) : u.Grounded u.ground := by
  rcases u.ground_cases with ⟨kept, ground⟩ | ⟨found, -, -, -, ground⟩
  · rw [ground]
    exact ⟨rfl, kept, rfl, rfl, ⟨rfl, rfl⟩, rfl, rfl, ⟨rfl, rfl, rfl⟩, ⟨rfl, rfl, rfl⟩, ⟨rfl, rfl, rfl⟩, rfl⟩
  · rw [ground]
    cases found <;>
      exact ⟨rfl, rfl, rfl, rfl, ⟨rfl, rfl⟩, rfl, rfl, ⟨rfl, rfl, rfl⟩, ⟨rfl, rfl, rfl⟩, ⟨rfl, rfl, rfl⟩, rfl⟩

theorem ground_supply (u : Part) :
    u.ground.supply =
      { causes := CauseSet.none, openRequired := false, relay := u.supply.relay, logical := u.startLogical,
        record := u.startOpening, reportedPhases := none, retryAt := none, blankingUntil := none, bypassSince := none,
        bypassGoneSince := none, jumpSince := none } := by
  rcases u.ground_cases with ⟨kept, ground⟩ | ⟨found, lost, is, -, ground⟩
  · rw [ground, startLogical, startOpening, kept]
    rfl
  · rw [ground, startLogical, startOpening, lost, is]
    cases found <;> rfl

theorem ground_marker (u : Part) : u.ground.tariff.scheduleMarker = u.startMarker := by
  rcases u.ground_cases with ⟨kept, ground⟩ | ⟨found, lost, is, -, ground⟩
  · rw [ground, startMarker, kept]
    rfl
  · rw [ground, startMarker, lost, is]
    cases found <;> rfl

/-! ### The store behind the scans and the recovery -/

/-- The store positions that main start begins with. -/
def StartPositions (u v : Part) : Prop :=
  v.Positioned ((u.array.newestCheckpoint.map fun x => (x.1 + 1) % 64).getD 0)
    ((u.array.newestCheckpoint.map fun x => x.2.sequence + 1).getD 1)
    ((u.array.newestEntry.map fun x => (x.1 + 1) % 32).getD 0) u.startJournalSequence

theorem ground_positions (u : Part) : u.StartPositions u.ground := by
  rw [StartPositions, startJournalSequence]
  rcases u.ground_cases with ⟨kept, ground⟩ | ⟨found, lost, is, -, ground⟩
  · have none : u.foundRecord = none := by rw [foundRecord, kept]; rfl
    rw [ground, none]
    exact ⟨rfl, rfl, rfl, rfl, rfl, (Nat.max_zero _).symm⟩
  · rw [ground, is]
    cases found with
    | none => exact ⟨rfl, rfl, rfl, rfl, rfl, (Nat.max_zero _).symm⟩
    | some r => exact ⟨rfl, rfl, rfl, rfl, rfl, rfl⟩

theorem ground_idle (u : Part) : u.ground.IdleStore := by
  rcases u.ground_cases with ⟨-, ground⟩ | ⟨found, -, -, -, ground⟩
  · rw [ground]
    exact ⟨rfl, rfl, rfl, rfl, rfl⟩
  · rw [ground]
    cases found <;> exact ⟨rfl, rfl, rfl, rfl, rfl⟩

/-! ### The items of the sequence -/

theorem began_items {b : Part} (h : b.power = .starting) :
    b.began.power = .running ∧ b.began.lostMark = b.lostMark ∧ b.began.lifecycle = b.lifecycle ∧
      b.began.timeBase = b.timeBase ∧ b.began.inputs = b.inputs ∧ b.began.pulse = b.pulse ∧
      b.began.recon = { b.recon with window := some ⟨0, 0, 0, 0, b.timeBase⟩ } ∧ b.began.codes = b.codes ∧
      b.began.config = b.config ∧
      b.began.receivers = ⟨⟨startedReceiver b.inputs.portReset.m, b.timeBase⟩,
        ⟨startedReceiver b.inputs.portReset.k, b.timeBase⟩, ⟨startedReceiver b.inputs.portReset.s, b.timeBase⟩⟩ ∧
      b.began.links = ⟨⟨.suspect, b.timeBase⟩, ⟨.suspect, b.timeBase⟩⟩ ∧
      b.began.outputs.openCoil = b.outputs.openCoil ∧ b.began.outputs.closeCoil = b.outputs.closeCoil := by
  obtain ⟨power, lost, lifecycle, time, inputs, pulse, recon, codes, config, receivers, links, openCoil, closeCoil, -⟩ :=
    (began_owns h).items
  exact ⟨power, lost, lifecycle, time, inputs, pulse, recon, codes, config, receivers, links, openCoil, closeCoil⟩

/-- The part behind the recovery has the items of the ground. -/
theorem based_derived (u : Part) : u.based.derived = u.ground.derived := derived_of_core u.ground_monitors.core

theorem based_power (u : Part) : u.based.power = .starting := u.ground_monitors.power

theorem based_grounded (u : Part) : u.Grounded u.based := by
  obtain ⟨-, lost, -, time, inputs, pulse, recon, codes, config, -, -, openCoil, closeCoil, -⟩ :=
    items_of_derived u.based_derived
  have g := u.ground_grounded
  have tariff := tariff_of_derived u.based_derived
  have load := load_of_derived u.based_derived
  exact ⟨u.based_power, lost.trans g.lostMark, time.trans g.timeBase, inputs.trans g.inputs,
    ⟨openCoil.trans g.coils.1, closeCoil.trans g.coils.2⟩, pulse.trans g.pulse, recon.trans g.recon,
    by rw [tariff]; exact g.tariff, by rw [codes]; exact g.codes, by rw [load]; exact g.load, config.trans g.config⟩

/-! ### The cause set and the decision (R98, R120) -/

section
variable {m : Part}

theorem begunFrom_account (m : Part) : m.begunFrom.account.balance = m.account.balance := by
  have books := congrArg Account.balance (books_of_derived (derived_of_core m.begunFrom_core))
  exact books

theorem begunFrom_load (m : Part) : m.begunFrom.load = m.load := by
  have load := load_of_derived (derived_of_core m.begunFrom_core)
  exact load

theorem begunFrom_codes (m : Part) : m.begunFrom.codes = m.codes := by
  have codes := codes_of_derived (derived_of_core m.begunFrom_core)
  exact codes

theorem begunFrom_bankValue (m : Part) (f : Image → Nat) (n : Nat) : m.begunFrom.bankValue f n = m.bankValue f n := by
  rw [bankValue, bankValue, begunFrom_bank]

/-- The set as its owners hand it, from what main start leaves. -/
theorem causesHanded_eq (ok : m.AccountDerived) (unlocked : m.begunFrom.load.lockoutUntil = none) :
    m.causesHanded =
      { noCredit := decide (m.begunFrom.account.balance ≤ 0),
        debtLimit := decide (m.begunFrom.account.balance ≤
          -(1000 * ((m.begunFrom.bankValue bankFriendlyDebtLimit 0 : Nat) : Int))),
        loadLimit := m.begunFrom.load.extended, tamper := m.deciding.supply.causes.tamper,
        remoteOrder := m.begunFrom.codes.remoteOrder } := by
  obtain ⟨-, -, causes, -, -⟩ := ok
  rw [begunFrom_load] at unlocked
  have member : m.load.member = m.load.extended := by rw [Load.member, unlocked]; rfl
  rw [causesHanded, causes, member, begunFrom_account, begunFrom_bankValue, begunFrom_load, begunFrom_codes]
  rfl

theorem deciding_supply (m : Part) : m.deciding.supply = { m.supply with causes := m.causesHanded } := rfl

end

/-- The controller's items on which main start decides. -/
theorem started_supply {b : Part} (h : b.power = .starting) :
    b.atPorts.monitored.deciding.supply =
      { b.supply with
        causes := b.atPorts.monitored.causesHanded, relay := .settled b.resolvedRelay, logical := .settled b.resolvedRelay,
        retryAt := if b.resolvedRelay = .stuckClosed then some (b.timeBase + 3600 * 32768) else none } := by
  rw [deciding_supply, monitored_supply (atPorts_power h), atPorts_supply, resolveRelay_supply]

/-- The relay state that main start resolves (R120). -/
def startRelay (u : Part) : Settled :=
  match u.startLogical with
  | .settled .awaitingConfirm => .awaitingConfirm
  | .settled .stuckClosed => .stuckClosed
  | .settled .stuckOpen => .stuckOpen
  | .settled .closed | .settled .opened | .inProgress | .unset =>
    if u.inputs.sense = ⟨false, false, false⟩ then .opened else .closed

theorem PhaseSet.any_iff (p : PhaseSet) : p.any = true ↔ p ≠ ⟨false, false, false⟩ := by
  obtain ⟨a, b, c⟩ := p
  cases a <;> cases b <;> cases c <;> decide

theorem based_supply (u : Part) : u.based.supply = { u.ground.supply with causes := u.based.supply.causes } :=
  Supply.eq_of_uncaused u.ground_monitors.supply

theorem based_relay (u : Part) : u.based.resolvedRelay = u.startRelay := by
  have logical : u.based.supply.logical = u.startLogical := by rw [based_supply, ground_supply]
  have sensed : (if u.inputs.sense.any then Settled.closed else .opened) =
      if u.inputs.sense = ⟨false, false, false⟩ then .opened else .closed := by
    by_cases open' : u.inputs.sense = ⟨false, false, false⟩
    · rw [if_pos open', open']
      rfl
    · rw [if_neg open', if_pos ((PhaseSet.any_iff _).mpr open')]
  cases known : u.startLogical with
  | settled st => cases st <;> simp only [resolvedRelay, startRelay, logical, known, u.based_grounded.inputs, sensed]
  | inProgress => simp only [resolvedRelay, startRelay, logical, known, u.based_grounded.inputs, sensed]
  | unset => simp only [resolvedRelay, startRelay, logical, known, u.based_grounded.inputs, sensed]

end Part

end Sys2Proof.Machine
end

section
/-! What main start leaves of the records, and of a part with its retention domain intact or lost (R144, R146, R162 to R164). -/

namespace Sys2Proof.Machine

namespace Part

/-! ### The records -/

theorem switchRecord_of_off {d : TamperCause} {u : Part} (off : switchOn d u.inputs = false) : u.switchRecord d = u.tamperRecord d := by
  rw [switchRecord, off]
  rfl

theorem mainDomain_plain {d : TamperCause} (main : d ∈ mainDomainCauses) :
    d ≠ .magnetic ∧ d ≠ .retentionLost ∧ ∀ x, switchOn d x = false := by
  simp only [mainDomainCauses, List.mem_cons, List.not_mem_nil, or_false] at main
  rcases main with rfl | rfl | rfl | rfl | rfl | rfl | rfl <;> exact ⟨nofun, nofun, fun _ => rfl⟩

section
variable (u : Part)

/-- What main start leaves of a record. -/
theorem started_record (d : TamperCause) : u.based.began.tamperRecord d = (u.based.startRecord d).unmarked :=
  began_record u.based_power d

theorem startRecord_of_away {b : Part} {d : TamperCause} (sensor : d ≠ .magnetic) (away : d ∉ mainDomainCauses) :
    b.startRecord d = b.tamperRecord d := by
  rw [startRecord, if_neg sensor, if_neg away]

/-- The switches and RETENTION_LOST apart, the recovery leaves a record as it finds it. -/
theorem based_record_away {d : TamperCause} (off : switchOn d u.inputs = false)
    (other : d ≠ .retentionLost ∨ u.lostMark = false ∨ u.array.written = false) :
    u.based.tamperRecord d = u.ground.tamperRecord d := by
  have inputs : u.ground.inputs = u.inputs := u.ground_grounded.inputs
  have away : u.lostMark = true → ¬ (u.ground.array.written = true ∧ d = .retentionLost) := by
    intro lost
    have array : u.ground.array = u.array := by
      rw [(u.based_of_lost lost).2]
      exact (regained_items u.newestRecord u.scanned).2.2
    rw [array]
    rcases other with other | kept | blank
    · exact fun both => other both.2
    · rw [kept] at lost
      cases lost
    · rw [blank]
      exact fun both => by cases both.1
  rw [based_record]
  split
  next lost => rw [recoveredRecord, if_neg (away lost), switchRecord_of_off (by rw [inputs]; exact off)]
  next => rfl

theorem started_main_domain {d : TamperCause} (main : d ∈ mainDomainCauses) :
    u.based.began.tamperRecord d = (u.ground.tamperRecord d).freed.unmarked := by
  obtain ⟨sensor, other, off⟩ := mainDomain_plain main
  rw [started_record, startRecord, if_neg sensor, if_pos main, based_record_away u (off _) (.inl other)]

theorem started_untouched {d : TamperCause}
    (untouched : d = .codeAttack ∨ d = .storeFault ∨ (d = .retentionLost ∧ (u.lostMark = false ∨ u.array.written = false))) :
    u.based.began.tamperRecord d = (u.ground.tamperRecord d).unmarked := by
  rw [started_record]
  rcases untouched with rfl | rfl | ⟨rfl, kept⟩
  · rw [startRecord_of_away (by decide) (by decide), based_record_away u rfl (.inl (by decide))]
  · rw [startRecord_of_away (by decide) (by decide), based_record_away u rfl (.inl (by decide))]
  · rw [startRecord_of_away (by decide) (by decide), based_record_away u rfl (.inr kept)]

theorem started_cover {d : TamperCause} (cover : d = .terminalCover ∨ d = .mainCover) :
    u.based.began.tamperRecord d =
      (if u.lostMark = true ∧ switchOn d u.inputs = true then (u.ground.tamperRecord d).arisen (u.timeBase + 1639)
        else u.ground.tamperRecord d).unmarked := by
  have away : d ≠ .magnetic ∧ d ∉ mainDomainCauses ∧ d ≠ .retentionLost ∧ debounceTicks d = 1639 := by
    rcases cover with rfl | rfl <;> exact ⟨by decide, by decide, by decide, rfl⟩
  obtain ⟨sensor, main, other, ticks⟩ := away
  have g := u.ground_grounded
  have both (p : Prop) : ¬ (p ∧ d = .retentionLost) := fun h => other h.2
  rw [started_record, startRecord_of_away sensor main, based_record, recoveredRecord, if_neg (both _), switchRecord, g.inputs,
    g.timeBase, ticks]
  cases u.lostMark <;> cases switchOn d u.inputs <;> rfl

/-- A condition that is already read as on arises once. -/
theorem arisen_arisen (r : TamperRecord) (t : Nat) (settled : r.state = .quiet ∨ r.state = .latchedAbsent) :
    (r.arisen t).arisen t = r.arisen t := by
  rcases settled with state | state <;> simp [TamperRecord.arisen, state]

theorem started_magnetic :
    u.based.began.tamperRecord .magnetic =
      (if u.inputs.magneticField then (u.ground.tamperRecord .magnetic).arisen (u.timeBase + 65536)
        else (u.ground.tamperRecord .magnetic).ended (some (u.timeBase + 65536))).unmarked := by
  have g := u.ground_grounded
  have b := u.based_grounded
  have read : u.based.tamperRecord .magnetic =
      if u.lostMark = true ∧ u.inputs.magneticField = true then
        (u.ground.tamperRecord .magnetic).arisen (u.timeBase + 65536)
      else u.ground.tamperRecord .magnetic := by
    have away : ¬ (u.ground.array.written = true ∧ TamperCause.magnetic = .retentionLost) := fun both => nomatch both.2
    rw [based_record, recoveredRecord, if_neg away, switchRecord, g.inputs, g.timeBase]
    have on : switchOn .magnetic u.inputs = u.inputs.magneticField := rfl
    have ticks : debounceTicks .magnetic = 65536 := rfl
    rw [on, ticks]
    cases u.lostMark <;> cases u.inputs.magneticField <;> rfl
  rw [started_record, startRecord, if_pos rfl, b.inputs, b.timeBase, read]
  cases field : u.inputs.magneticField with
  | false => simp
  | true =>
    cases mark : u.lostMark with
    | false => simp
    | true =>
      have settled := (regained_settled u.newestRecord u.scanned .magnetic).2
      rw [(u.based_of_lost mark).2, (readConfig_records _ _).1]
      simp [arisen_arisen _ (u.timeBase + 65536) settled]

/-- The rises on battery that main start announces are those of a retention domain that is intact. -/
theorem started_history (d : TamperCause) (raised : (u.ground.tamperRecord d).raisedOnBattery = true) :
    u.lostMark = false := by
  cases mark : u.lostMark with
  | false => rfl
  | true =>
    rw [(u.based_of_lost mark).2, (readConfig_records _ _).1, regained_record] at raised
    cases found : u.newestRecord <;> rw [found] at raised <;> cases raised

end

theorem startRecord_rise (b : Part) (d : TamperCause) :
    (b.startRecord d).raisedOnBattery = (b.tamperRecord d).raisedOnBattery ∧
      (b.startRecord d).history = (b.tamperRecord d).history := by
  have ended (r : TamperRecord) (t : Option Nat) : (r.ended t).raisedOnBattery = r.raisedOnBattery := by
    unfold TamperRecord.ended
    cases r.state <;> cases t <;> rfl
  have arisen (r : TamperRecord) (t : Nat) :
      (r.arisen t).raisedOnBattery = r.raisedOnBattery ∧ (r.arisen t).history = r.history := by
    unfold TamperRecord.arisen
    cases r.state <;> exact ⟨rfl, rfl⟩
  unfold startRecord
  split
  next same =>
    subst same
    split
    · exact arisen _ _
    · exact ⟨ended _ _, TamperRecord.ended_history _ _⟩
  next =>
    split
    · refine ⟨?_, TamperRecord.freed_history _⟩
      unfold TamperRecord.freed
      split
      · exact ended _ _
      · rfl
    · exact ⟨rfl, rfl⟩

end Part

end Sys2Proof.Machine
end

section
/-! What main start leaves of a part with its retention domain intact, and of one that recovers (R65, R162 to R164). -/

namespace Sys2Proof.Machine

namespace Part

/-! ### The retention domain is intact -/

section
variable {u : Part} (kept : u.lostMark = false)
include kept

/-- The part behind main start when nothing is recovered. -/
theorem based_intact : u.based = u.scanned.readConfig := (u.based_of_kept kept).1

theorem based_kept_items :
    u.based.lifecycle = u.lifecycle ∧ u.based.account = u.account ∧ u.based.clock = u.clock ∧
      u.based.codes = { u.codes with queue := [], head := none, slots := u.array.config.keys } ∧
      u.based.load = { u.load with overLimit := 0, lockoutUntil := none, nextEvaluation := u.timeBase + Config.seconds 1 } ∧
      u.based.tariff = u.tariff.atMainStart ∧ u.based.tamper = u.tamper ∧ u.based.activeBank = u.activeBank := by
  rw [based_intact kept]
  exact ⟨rfl, rfl, rfl, rfl, rfl, rfl, rfl, activeBank_congr rfl rfl rfl⟩

theorem based_kept_caught : u.based.CaughtUp ↔ u.clock.valid = true ∧ u.tariff.lastStandingDay < u.clock.count / 86400 := by
  rw [CaughtUp, (based_kept_items kept).2.2.1, (based_kept_items kept).2.2.2.2.2.1]
  rfl

theorem started_kept_items :
    u.based.began.lifecycle = u.lifecycle ∧ u.based.began.codes.generation = u.codes.generation ∧
      u.based.began.codes.serials = u.codes.serials ∧ u.based.began.codes.remoteOrder = u.codes.remoteOrder ∧
      u.based.began.codes.kPort = u.codes.kPort ∧ u.based.began.codes.sPort = u.codes.sPort ∧
      u.based.began.load.limit = u.load.limit ∧ u.based.began.load.trips = u.load.trips ∧
      u.based.began.tariff.activeArea = u.tariff.activeArea ∧ u.based.began.tariff.areaCarried = u.tariff.areaCarried ∧
      u.based.began.clock.count = u.clock.count ∧ u.based.began.clock.valid = u.clock.valid := by
  have h := u.based_power
  obtain ⟨life, -, clock, codes, load, tariff, -, -⟩ := based_kept_items kept
  obtain ⟨-, -, lifecycle, -, -, -, -, started, -⟩ := began_items h
  obtain ⟨-, -, -, -, area, carried, -⟩ := began_tariff h
  obtain ⟨valid, count⟩ := began_clock h
  have limited := began_load h
  rw [codes] at started
  rw [load] at limited
  rw [tariff] at area carried
  rw [clock] at valid count
  rw [started, limited]
  exact ⟨lifecycle.trans life, rfl, rfl, rfl, rfl, rfl, rfl, rfl, area, carried, count, valid⟩

/-- The battery events are journaled first (R162). -/
theorem started_flush {e : BatteryEvent} {rest : List BatteryEvent} (buffer : u.tamper.buffer = e :: rest)
    (few : rest.length ≤ 3) :
    u.based.began.Flushing (u.based.flushRequest e) (rest.map fun x => u.based.flushRequest x) := by
  have idle : u.based.IdleStore := by
    rw [based_intact kept, ← (u.based_of_kept kept).2]
    exact u.ground_idle
  have tamper := (based_kept_items kept).2.2.2.2.2.2.1
  exact began_flushing u.based_power idle (by rw [tamper]; exact buffer) few

theorem flushRequest_eq (x : BatteryEvent) :
    u.based.flushRequest x =
      { stamp := x.time, battery := true, balance := u.account.balance,
        detail :=
          if x.opened then .tamperPresent (coverCause x.cover) x.count (u.based.began.policy (coverCause x.cover))
          else .tamperAbsent (coverCause x.cover) x.count } := by
  rw [flushRequest, (based_kept_items kept).2.1, began_policy u.based_power]

/-- The catch-up of main start (R65). -/
theorem started_caught (caught : u.clock.valid = true ∧ u.tariff.lastStandingDay < u.clock.count / 86400) :
    u.based.began.tariff.lastStandingDay = u.clock.count / 86400 ∧ u.based.began.clock.adjustment = 0 ∧
      u.based.began.load.extended = false ∧ u.based.began.Requested .midnight ∧
      u.based.began.account.books =
        (daysAccount (u.bankValue bankStandingCharge 0) (u.clock.count / 86400 - u.tariff.lastStandingDay) u.account).books := by
  have h := u.based_power
  have caught := (based_kept_caught kept).mpr caught
  obtain ⟨tariff, clock, load, books⟩ := began_caught h caught
  obtain ⟨-, account, clock', -, -, tariff', -, bank⟩ := based_kept_items kept
  have charge : u.based.bankValue bankStandingCharge 0 = u.bankValue bankStandingCharge 0 := by
    rw [bankValue, bankValue, bank]
  rw [charge, account, clock', tariff'] at books
  rw [clock'] at tariff
  refine ⟨?_, ?_, ?_, (began_of_caught h caught).2, books⟩
  · rw [tariff]
    rfl
  · rw [clock]
  · rw [load]

theorem started_uncaught (uncaught : ¬ (u.clock.valid = true ∧ u.tariff.lastStandingDay < u.clock.count / 86400)) :
    u.based.began.tariff.lastStandingDay = u.tariff.lastStandingDay ∧ u.based.began.clock = u.clock ∧
      u.based.began.load.extended = u.load.extended ∧ u.based.began.account.books = u.account.books := by
  have h := u.based_power
  have uncaught : ¬ u.based.CaughtUp := fun caught => uncaught ((based_kept_caught kept).mp caught)
  obtain ⟨tariff, clock, load, books⟩ := began_uncaught h uncaught
  obtain ⟨-, account, clock', -, load', tariff', -, -⟩ := based_kept_items kept
  have day : u.based.portsItems.startedTariff.lastStandingDay = u.based.tariff.lastStandingDay :=
    u.based.portsItems.startedTariff_elsewhere.2.2.2.2
  refine ⟨?_, clock.trans clock', ?_, ?_⟩
  · rw [tariff, day, tariff']
    rfl
  · rw [load, load']
  · rw [books, account]

end

/-! ### A recovery -/

section
variable {u : Part} (lost : u.lostMark = true)
include lost

/-- The items of a recovery that every start of it gives. -/
theorem ground_lost_items :
    u.ground.clock = { count := 0, valid := false, adjustment := 0 } ∧ u.ground.load.trips = [] ∧
      u.ground.codes.kPort = PortCodes.empty ∧ u.ground.codes.sPort = PortCodes.empty ∧ u.ground.array = u.array ∧
      u.ground.tariff.areaCarried = true := by
  rw [(u.based_of_lost lost).2]
  cases u.newestRecord <;> exact ⟨rfl, rfl, rfl, rfl, rfl, rfl⟩

/-- What main start leaves of the items of a recovery. -/
theorem started_lost :
    u.based.began.lifecycle = u.ground.lifecycle ∧ u.based.began.account.books = u.ground.account.books ∧
      u.based.began.codes = u.ground.codes ∧ u.based.began.clock = u.ground.clock ∧
      u.based.began.load = u.ground.load ∧ u.based.began.tariff.activeArea = u.ground.tariff.activeArea ∧
      u.based.began.tariff.areaCarried = u.ground.tariff.areaCarried ∧
      u.based.began.tariff.lastStandingDay = u.ground.tariff.lastStandingDay := by
  have h := u.based_power
  have derived := u.based_derived
  have uncaught : ¬ u.based.CaughtUp := by
    rw [CaughtUp, clock_of_derived derived, (ground_lost_items lost).1]
    exact fun caught => nomatch caught.1
  obtain ⟨tariff, clock, load, books⟩ := began_uncaught h uncaught
  obtain ⟨-, -, lifecycle, -, -, -, -, codes, -⟩ := began_items h
  obtain ⟨-, -, -, -, area, carried, -⟩ := began_tariff h
  have day : u.based.portsItems.startedTariff.lastStandingDay = u.based.tariff.lastStandingDay :=
    u.based.portsItems.startedTariff_elsewhere.2.2.2.2
  have engine := tariff_of_derived derived
  rw [engine] at area carried day
  exact ⟨lifecycle.trans (lifecycle_of_derived derived), books.trans (books_of_derived derived),
    codes.trans (codes_of_derived derived), clock.trans (clock_of_derived derived), load.trans (load_of_derived derived), area,
    carried, by rw [tariff]; exact day⟩

theorem ground_new (nothing : u.newestRecord = none) :
    u.ground.lifecycle = .provisioning ∧ u.ground.account.books = Account.newPart.books ∧ u.ground.codes.generation = 0 ∧
      u.ground.codes.serials = { used := [], floor := 0, highest := 0 } ∧ u.ground.codes.remoteOrder = false ∧
      u.ground.tariff.activeArea = none ∧ u.ground.tariff.lastStandingDay = 0 ∧ u.ground.load.limit = 0 ∧
      u.ground.load.extended = false ∧ u.ground.account.balance = 0 := by
  rw [(u.based_of_lost lost).2, nothing]
  exact ⟨rfl, rfl, rfl, rfl, rfl, rfl, rfl, rfl, rfl, rfl⟩

theorem ground_restored {r : CheckpointRecord} (found : u.newestRecord = some r) :
    u.ground.lifecycle = r.lifecycle ∧ u.ground.account.books = r.account.books ∧ u.ground.codes.generation = r.generation ∧
      u.ground.codes.serials = r.serials ∧ u.ground.codes.remoteOrder = r.remoteOrder ∧
      u.ground.tariff.activeArea = r.activeArea ∧ u.ground.tariff.lastStandingDay = r.lastStandingDay ∧
      u.ground.load.limit = r.loadLimit ∧ u.ground.load.extended = r.extended ∧ u.ground.account.balance = r.account.balance := by
  rw [(u.based_of_lost lost).2, found]
  exact ⟨rfl, rfl, rfl, rfl, rfl, rfl, rfl, rfl, rfl, rfl⟩

/-- The evidence of a recovery from a log that has been written (R164). -/
theorem started_evidence (written : u.array.written = true) :
    u.based.began.tamperRecord .retentionLost =
        (lostRecord (u.ground.tamperRecord .retentionLost) .invalid).unmarked ∧
      u.based.began.Journaled
        { stamp := .invalid, battery := false,
          balance := (u.newestRecord.map fun r => r.account.balance).getD 0, detail := u.ledgerDetail u.newestRecord } := by
  obtain ⟨clock, -, -, -, array, -⟩ := ground_lost_items lost
  have stamp : u.ground.stamp = .invalid := by rw [stamp, clock]; rfl
  have balance : u.ground.account.balance = (u.newestRecord.map fun r => r.account.balance).getD 0 := by
    cases found : u.newestRecord with
    | none =>
      obtain ⟨-, -, -, -, -, -, -, -, -, balance⟩ := ground_new lost found
      exact balance
    | some r =>
      obtain ⟨-, -, -, -, -, -, -, -, -, balance⟩ := ground_restored lost found
      exact balance
  have detail : u.ground.ledgerDetail u.newestRecord = u.ledgerDetail u.newestRecord := by rw [ledgerDetail, array, ledgerDetail]
  have ledger := u.based_ledger lost written
  rw [entryNow, stamp, balance, detail] at ledger
  refine ⟨?_, began_keeps u.based_power (journaled_start _) ledger⟩
  rw [started_record, startRecord_of_away (by decide) (by decide), based_record, if_pos lost, recoveredRecord, array,
    if_pos ⟨written, rfl⟩, stamp]

end

end Part

end Sys2Proof.Machine
end

section
/-! The statement about main start (R162). -/

namespace Sys2Proof.Machine

namespace Part

/-! ### The pending notices are lost (R183) -/

theorem hasCome_notices (u : Part) (n : PerPort NoticePort) (i : Instr) :
    ({ u with notices := n } : Part).hasCome i = u.hasCome i := by
  cases i with
  | codeLockoutExpiry p => cases p <;> rfl
  | _ => rfl

theorem based_notices (u : Part) (n : PerPort NoticePort) : ({ u with notices := n } : Part).based = u.based := by
  have scanned : ({ u with notices := n } : Part).scanned = u.scanned := rfl
  unfold based
  rw [scanned]

theorem becomes_notices (s : State) (n : PerPort NoticePort) (v : Part) :
    ({ s with part := { s.part with notices := n } } : State).becomes v = s.becomes v := by
  have same : ({ s.part with notices := n } : Part).hasCome = s.part.hasCome := funext (s.part.hasCome_notices n)
  unfold State.becomes overtaking
  dsimp only
  rw [same]

theorem exec_mainStart {s : State} (stopped : s.part.power = .stopped) :
    exec .mainStart s = .next (s.becomes s.part.based.began) := by
  rw [exec_eq]
  exact congrArg (fun w => Host.Outcome.next (s.becomes w)) (startMain_eq stopped)

theorem exec_mainStart_notices {s : State} (stopped : s.part.power = .stopped) (n : PerPort NoticePort) :
    exec .mainStart { s with part := { s.part with notices := n } } = exec .mainStart s := by
  rw [exec_mainStart stopped, exec_mainStart (by exact stopped), based_notices, becomes_notices]

/-! ### The items of the statement -/

theorem started_config (u : Part) :
    let v := u.based.began
    v.power = .running ∧ v.lostMark = false ∧ v.inputs = u.inputs ∧ v.timeBase = u.timeBase ∧ v.pulse = Pulse.atMainStart ∧
      v.recon = { mode := .reported, window := some ⟨0, 0, 0, 0, u.timeBase⟩, divergence := 0 } ∧
      v.config = { live := u.array.config, unstored := [] } ∧ v.codes.slots = u.array.config.keys ∧ v.codes.queue = [] ∧
      v.codes.head = none ∧
      v.receivers = ⟨⟨startedReceiver u.inputs.portReset.m, u.timeBase⟩, ⟨startedReceiver u.inputs.portReset.k, u.timeBase⟩,
        ⟨startedReceiver u.inputs.portReset.s, u.timeBase⟩⟩ ∧
      v.links = ⟨⟨.suspect, u.timeBase⟩, ⟨.suspect, u.timeBase⟩⟩ ∧ v.outputs.openCoil = false ∧
      v.outputs.closeCoil = false := by
  intro v
  have g := u.based_grounded
  obtain ⟨power, lost, -, time, inputs, pulse, recon, codes, config, receivers, links, openCoil, closeCoil⟩ :=
    began_items u.based_power
  obtain ⟨slots, queue, head⟩ := g.codes
  rw [g.inputs, g.timeBase] at receivers
  rw [g.timeBase] at links
  rw [g.recon, g.timeBase] at recon
  exact ⟨power, lost.trans g.lostMark, inputs.trans g.inputs, time.trans g.timeBase, pulse.trans g.pulse, recon,
    config.trans g.config, by rw [codes, slots], by rw [codes, queue], by rw [codes, head], receivers, links,
    openCoil.trans g.coils.1, closeCoil.trans g.coils.2⟩

theorem started_limiter (u : Part) :
    u.based.began.load.lockoutUntil = none ∧ u.based.began.load.overLimit = 0 ∧
      u.based.began.load.nextEvaluation = u.timeBase + 32768 ∧ u.based.began.tariff.pending = .empty ∧
      u.based.began.tariff.activation = none ∧ u.based.began.tariff.scheduleMarker = none ∧
      u.based.began.tariff.midnight = none := by
  have g := u.based_grounded
  obtain ⟨lockout, limit, next⟩ := g.load
  obtain ⟨empty, idle, unwaited⟩ := g.tariff
  obtain ⟨pending, marker, activation, midnight, -⟩ := began_tariff u.based_power
  rw [began_load u.based_power]
  exact ⟨lockout, limit, next, pending.trans empty, activation.trans idle, marker, midnight.trans unwaited⟩

theorem began_ok {b : Part} (h : b.power = .starting) : b.began.AccountDerived := begunFrom_ok (monitored_ok (atPorts_power h))

theorem started_positions (u : Part) : u.StartPositions u.based.began := by
  have based : u.StartPositions u.based := u.ground_monitors.submits _ (positioned_invariant ..) u.ground_positions
  exact began_keeps u.based_power (positioned_start ..) based

theorem based_marker (u : Part) : u.based.tariff.scheduleMarker = u.startMarker := by
  rw [tariff_of_derived u.based_derived, ground_marker]

/-- The decision of main start, and the controller's items it finds. -/
theorem started_decision (u : Part) :
    let v := u.based.began
    ∃ w : Part, w.power = .running ∧ w.core = v.core ∧ v.supply = w.recompute.supply ∧
      w.supply =
        { causes :=
            { noCredit := decide (v.account.balance ≤ 0),
              debtLimit := decide (v.account.balance ≤ -(1000 * ((v.bankValue bankFriendlyDebtLimit 0 : Nat) : Int))),
              loadLimit := v.load.extended, tamper := w.supply.causes.tamper, remoteOrder := v.codes.remoteOrder },
          openRequired := false, relay := .settled u.startRelay, logical := .settled u.startRelay, record := u.startOpening,
          reportedPhases := none,
          retryAt := if u.startRelay = .stuckClosed then some (u.timeBase + 3600 * 32768) else none,
          blankingUntil := none, bypassSince := none, bypassGoneSince := none, jumpSince := none } ∧
      (w.supply.causes.tamper = true ↔
        ∃ d, v.policy d = .disconnect ∧ (v.tamperRecord d).state ≠ .quiet ∧ (v.tamperRecord d).state ≠ .pending false) := by
  intro v
  have starting := atPorts_power u.based_power
  have handed := causesHanded_eq (monitored_ok starting) u.started_limiter.1
  have supply := started_supply u.based_power
  rw [based_relay, u.based_grounded.timeBase, based_supply, ground_supply, handed] at supply
  exact ⟨u.based.atPorts.monitored.deciding, rfl, (begunFrom_core _).symm, begunFrom_supply _, supply,
    deciding_member (monitored_unbypassed starting)⟩

theorem started_hourly (u : Part) : u.based.began.store.hourlyAt = some (u.timeBase + 3600 * 32768) := by
  rw [began_hourly u.based_power, u.based_grounded.timeBase]
  rfl

theorem started_notices (u : Part) (p : Port) :
    (u.based.began.notices.get p).inService = ⟨false, false, false, false⟩ ∧
      ∀ k ∈ [NoticeKind.supplyChanged, .relayFault, .codeResult, .loadTrip, .tariffChanged, .clockAdjusted, .journalAdded],
        (u.based.began.notices.get p).pending.get (kindIndex k) = none := by
  refine ⟨began_unserved u.based_power p, fun k plain => ?_⟩
  have other : k ∉ accountKinds ∧ k ≠ .tamperRaised ∧ k ≠ .bankReopened := by
    revert plain k
    decide
  exact began_pending u.based_power other.1 other.2.1 other.2.2 p

theorem started_reopened (u : Part) :
    (∀ f, u.startMarker = some f → u.based.began.Holds .s (.bankReopened .scheduleLost)) ∧
      (u.startMarker = none → (u.based.began.notices.get .s).pending.get (kindIndex .bankReopened) = none) :=
  ⟨fun _ is => began_reopened u.based_power ((based_marker u).trans is),
    fun is => began_not_reopened u.based_power ((based_marker u).trans is)⟩

theorem started_due (u : Part) : u.based.began.checkpointDue = true → u.based.began.Requested .mainStart := begunFrom_requested

theorem started_buffer (u : Part) : u.based.began.tamper.buffer = [] := by
  have monitored := monitored_buffer (atPorts_power u.based_power)
  rw [atPorts_tamper] at monitored
  exact (begunFrom_buffer _).trans monitored

/-! ### The rises on battery of a part with its retention domain intact -/

section
variable {u : Part} (kept : u.lostMark = false)
include kept

theorem startRecord_kept (d : TamperCause) :
    (u.based.startRecord d).raisedOnBattery = (u.ground.tamperRecord d).raisedOnBattery ∧
      (u.based.startRecord d).count = (u.ground.tamperRecord d).count ∧
      (u.based.startRecord d).last = (u.ground.tamperRecord d).last := by
  have same : u.based.tamperRecord d = u.ground.tamperRecord d := by
    rw [based_record, kept]
    rfl
  obtain ⟨rise, history⟩ := startRecord_rise u.based d
  rw [same] at rise history
  have count := congrArg Prod.fst history
  have last := congrArg (fun x => x.2.2) history
  exact ⟨rise, count, last⟩

theorem started_unraised (silent : ∀ d, (u.ground.tamperRecord d).raisedOnBattery = false ∨ u.based.began.policy d = .record) :
    ∀ p : Port, (u.based.began.notices.get p).pending.get (kindIndex .tamperRaised) = none :=
  began_not_raised u.based_power fun d => by
    rw [(startRecord_kept kept d).1]
    exact silent d

end

theorem started_raised (u : Part) {d : TamperCause} (raised : (u.ground.tamperRecord d).raisedOnBattery = true)
    (policy : u.based.began.policy d ≠ .record)
    (last : ∀ e, (causeIndex d).val < (causeIndex e).val →
      (u.ground.tamperRecord e).raisedOnBattery = false ∨ u.based.began.policy e = .record) :
    u.based.began.Placed (.tamperRaised d (u.ground.tamperRecord d).count (u.based.began.policy d)
      (u.ground.tamperRecord d).last) := by
  have kept := u.started_history d raised
  have placed := began_raised u.based_power (d := d) (by rw [(startRecord_kept kept d).1]; exact raised) policy
    (fun e later => by rw [(startRecord_kept kept e).1]; exact last e later)
  obtain ⟨-, count, latest⟩ := startRecord_kept kept d
  rw [count, latest] at placed
  exact placed

end Part

end Sys2Proof.Machine
end

section
/-! Settles O56. -/

namespace Sys2Proof.Machine

/-- Settles O56: recovery and the main-start sequence, each of whose steps decides nothing before the last. -/
theorem mainStart : Obligations.MainStart := by
  unfold Obligations.MainStart
  intro s stopped u newest found day caughtUp charge receiver logical opening marker resolved nextSlot nextSequence entry
    nextJournalSlot nextJournalSequence mainDomain held arisen gone unmarked
  have h := u.based_power
  have isFound (lost : u.lostMark = true) : found = u.newestRecord := by
    simp only [found, lost, if_true]
    rfl
  have isHeld (d : TamperCause) : held d = u.ground.tamperRecord d := by
    rw [Part.ground_record]
    cases mark : u.lostMark with
    | false => simp only [held, mark, Bool.false_eq_true, if_false]
    | true =>
      simp only [held, mark, if_true, isFound mark]
      cases u.newestRecord <;> rfl
  have isArisen (r : TamperRecord) (ticks : Nat) : arisen r ticks = r.arisen (u.timeBase + ticks) := by
    cases state : r.state <;> simp only [arisen, TamperRecord.arisen, state]
  have isGone (r : TamperRecord) (release : Option Nat) : gone r release = r.ended (release.map (u.timeBase + ·)) := by
    cases state : r.state <;> cases release <;> simp only [gone, TamperRecord.ended, state, Option.map_none, Option.map_some]
  have isResolved : resolved = u.startRelay := by
    have same : logical = u.startLogical := rfl
    cases known : u.startLogical with
    | settled st => cases st <;> simp only [resolved, same, Part.startRelay, known]
    | inProgress => simp only [resolved, same, Part.startRelay, known]
    | unset => simp only [resolved, same, Part.startRelay, known]
  have executes := Part.exec_mainStart stopped
  have unnoticed := Part.exec_mainStart_notices stopped
  have config := u.started_config
  have limiter := u.started_limiter
  have walked := Part.began_walked h
  have ok := Part.began_ok h
  have hourly := u.started_hourly
  have started := u.started_positions
  have due := u.started_due
  have noticed := u.started_notices
  have marked := u.started_reopened
  have decision := u.started_decision
  have domain (d : TamperCause) := Part.started_main_domain u (d := d)
  have untouched (d : TamperCause) := Part.started_untouched u (d := d)
  have cover (d : TamperCause) := Part.started_cover u (d := d)
  have magnetic := u.started_magnetic
  have buffer := u.started_buffer
  have raised (d : TamperCause) := Part.started_raised u (d := d)
  have unraised (kept : u.lostMark = false) := Part.started_unraised kept
  have items (kept : u.lostMark = false) := Part.started_kept_items kept
  have flush (kept : u.lostMark = false) (e : BatteryEvent) (rest : List BatteryEvent) :=
    Part.started_flush kept (e := e) (rest := rest)
  have request (kept : u.lostMark = false) := Part.flushRequest_eq kept
  have caught (kept : u.lostMark = false) := Part.started_caught kept
  have uncaught (kept : u.lostMark = false) := Part.started_uncaught kept
  have recovered (lost : u.lostMark = true) := Part.started_lost lost
  have evidence (lost : u.lostMark = true) := Part.started_evidence lost
  change exec .mainStart s = .next (s.becomes u.based.began) at executes
  generalize u.based.began = v at *
  obtain ⟨power, lost, inputs, time, pulse, recon, config, slots, queue, head, receivers, links, openCoil, closeCoil⟩ := config
  obtain ⟨lockout, limit, evaluation, pending, activation, schedule, midnight⟩ := limiter
  obtain ⟨class2, run, positions⟩ := started
  obtain ⟨reopened, unreopened⟩ := marked
  obtain ⟨w, running, core, decided, supply, member⟩ := decision
  refine ⟨v, w, executes, unnoticed,
    power, lost, inputs, time, pulse, recon, config, slots, queue, head, receivers, links, lockout, limit, evaluation, pending,
    activation, schedule, midnight, walked, ok, openCoil, closeCoil, run, hourly, class2, due,
    noticed, reopened, unreopened, ?positions, running, core, decided, ?supply, member, fun d main => ?main,
    fun d which => ?untouched, fun d which => ?cover, ?magnetic, buffer, fun d rise policy last => ?raised,
    fun silent kept => ?unraised, fun kept => ?kept, fun lost => ?lost, fun lost nothing => ?new, fun lost blank => ?blank,
    fun lost written => ?written, fun r is => ?restored⟩
  case positions => exact positions
  case supply =>
    rw [isResolved]
    exact supply
  case main =>
    rw [domain d main, isHeld, isGone (u.ground.tamperRecord d) none]
    rfl
  case untouched =>
    rw [untouched d (which.imp_right (Or.imp_right (And.imp_right .inl))), isHeld]
    rfl
  case cover =>
    intro opened
    rw [cover d which, isHeld, isArisen]
    rcases which with rfl | rfl <;> rfl
  case magnetic =>
    rw [magnetic, isHeld, isArisen, isGone (u.ground.tamperRecord .magnetic) (some 65536)]
    rfl
  case raised =>
    rw [isHeld] at rise ⊢
    exact raised d rise policy fun e later => by
      rw [← isHeld]
      exact last e later
  case unraised =>
    refine unraised kept fun d => ?_
    rw [← isHeld]
    exact silent d
  case kept =>
    obtain ⟨life, generation, serials, remote, kPort, sPort, limit, trips, area, carried, count, valid⟩ := items kept
    refine ⟨life, generation, serials, remote, kPort, sPort, limit, trips, area, carried, count, valid, fun e rest buffer few => ?_,
      caught kept, uncaught kept⟩
    have flushing := flush kept e rest buffer few
    simp only [request kept] at flushing
    obtain ⟨⟨sequence, slot, empty, flight⟩, waits⟩ := flushing
    exact ⟨⟨sequence, slot, empty, flight⟩, waits⟩
  case lost =>
    obtain ⟨-, -, codes, clock, load, -⟩ := recovered lost
    obtain ⟨reset, trips, kPort, sPort, -⟩ := Part.ground_lost_items lost
    exact ⟨clock.trans reset, by rw [load, trips], by rw [codes, kPort], by rw [codes, sPort]⟩
  case new =>
    obtain ⟨life, books, codes, -, load, area, -, day⟩ := recovered lost
    have nothing : u.newestRecord = none := congrArg (Option.map Prod.snd) nothing
    obtain ⟨newLife, newBooks, generation, serials, remote, newArea, newDay, limit, extended, -⟩ := Part.ground_new lost nothing
    rw [codes, load]
    exact ⟨life.trans newLife, books.trans newBooks, generation, serials, remote, area.trans newArea, day.trans newDay, limit,
      extended⟩
  case blank =>
    have unwritten : u.array.Unwritten := blank
    have none : u.newestRecord = none := congrArg (Option.map Prod.snd) unwritten.newest
    refine ⟨unwritten.newest, ?_⟩
    rw [untouched _ (.inr (.inr ⟨rfl, .inr (u.array.written_eq_false_iff.mpr unwritten)⟩)), Part.ground_record, if_pos lost, none]
    rfl
  case written =>
    obtain ⟨slot, listed, some⟩ := written
    have written : u.array.written = true := by
      rw [← Bool.not_eq_false, u.array.written_eq_false_iff]
      exact fun blank => some (blank slot listed)
    obtain ⟨record, journaled⟩ := evidence lost written
    intro balance valid
    refine ⟨?_, ?_⟩
    · rw [isHeld, record, Part.ground_record, if_pos lost]
      cases u.newestRecord <;> rfl
    · have counted : valid = (u.array.log.toList.filter Slot.isValid).length := by
        refine congrArg List.length (List.filter_congr fun slot _ => ?_)
        cases slot <;> rfl
      rw [Part.ledgerDetail, ← counted] at journaled
      simp only [balance, isFound lost]
      exact journaled
  case restored =>
    have lost : u.lostMark = true := by
      cases mark : u.lostMark with
      | true => rfl
      | false => simp [found, mark] at is
    obtain ⟨life, books, codes, -, load, area, carried, day⟩ := recovered lost
    obtain ⟨-, -, -, -, -, whole⟩ := Part.ground_lost_items lost
    obtain ⟨oldLife, oldBooks, generation, serials, remote, oldArea, oldDay, limit, extended, -⟩ :=
      Part.ground_restored lost ((isFound lost).symm.trans is)
    rw [codes, load]
    exact ⟨life.trans oldLife, books.trans oldBooks, generation, serials, remote, area.trans oldArea, day.trans oldDay, limit,
      extended, carried.trans whole⟩

end Sys2Proof.Machine
end
